-- ==== Sys2Proof/Word.lean ====
section
/-! DEFINITION. The words of the manual (00_scope.md section 4.3): bytes, two-byte and four-byte fields, colours. -/

namespace Sys2Proof

/-- One byte of a message or of a segment. -/
abbrev Byte := BitVec 8

/-- A 16-bit value: a scene word, a wrapping count (A, C, S), a check word. -/
abbrev Half := BitVec 16

/-- A 32-bit value: the frame count, a switch target, the arrival count. -/
abbrev Long := BitVec 32

/-- A colour: alpha, red, green and blue, one byte each, alpha the most significant (section 4.3, Colours). -/
abbrev Colour := BitVec 32

/-- The fully transparent pixel 0x00000000 (R147). -/
def transparent : Colour := 0

end Sys2Proof
end

