-- ==== Sys2Proof/Syntax.lean ====
section
/-! DEFINITION. The commands of the station, one constructor per row of spec/opcode_table.json, and the bodies of
the messages they carry, field by field as 12_formats_and_worked_sequences.md lays them out (R188).
A numeric field of a body is the number on the wire, its optional values 0xFF or 0xFFFF and its codes included;
`WellFormed` says that each fits its bytes. -/

namespace Sys2Proof

/-- The two streams of changes (12.1, codes: 0 page, 1 slide). -/
inductive Stream where
  | page
  | slide
  deriving DecidableEq, Repr

/-- A word effect as sent: four bytes (12.1). -/
structure RawEffect where
  kind : Nat
  word : Nat
  place : Nat
  value : Nat
  deriving DecidableEq, Repr

/-- One band of a Layout: its owner and first row. -/
structure Band where
  owner : Nat
  first : Nat
  deriving DecidableEq, Repr

/-- Layout (12.1). -/
structure LayoutBody where
  width : Nat
  height : Nat
  count : Nat
  prepareLimit : Nat
  placeholder : Colour
  bands : List Band
  deriving DecidableEq, Repr

/-- Switch (12.1): stream code, page or slide index, change number, target frame, partial flag. -/
structure SwitchBody where
  stream : Nat
  index : Nat
  change : Half
  target : Long
  partialFlag : Nat
  deriving DecidableEq, Repr

/-- Expire (12.1): timer kind code and tag. -/
structure ExpireBody where
  timer : Nat
  tag : Half
  deriving DecidableEq, Repr

/-- Ready (12.1): stream code, page or slide index, change number. -/
structure ReadyBody where
  stream : Nat
  index : Nat
  change : Half
  deriving DecidableEq, Repr

/-- Slide Append (12.1). -/
structure AppendBody where
  asset : Nat
  x : Nat
  y : Nat
  fill : Colour
  duration : Nat
  kind : Nat
  length : Nat
  tag : Nat
  deriving DecidableEq, Repr

/-- Cue Set (12.1). -/
structure CueSetBody where
  index : Nat
  kind : Nat
  trigger : Nat
  effect : Nat
  word : Nat
  bit : Nat
  deriving DecidableEq, Repr

/-- Cue Hit (12.1). -/
structure CueHitBody where
  index : Nat
  kind : Nat
  trigger : Nat
  slide : Nat
  change : Half
  deriving DecidableEq, Repr

/-- Define Page (12.1). -/
structure DefinePageBody where
  page : Nat
  asset : Nat
  colour : Colour
  x : Nat
  y : Nat
  default : Nat
  timeout : Nat
  onTimeout : Nat
  goPage : Nat
  guardLevel : Nat
  entry : RawEffect
  buttons : Nat
  pictures : Nat
  deriving DecidableEq, Repr

/-- Define Button (12.1); `count` is the effect count byte, `effects` the effects its length gives. -/
structure DefineButtonBody where
  page : Nat
  button : Nat
  x : Nat
  y : Nat
  width : Nat
  height : Nat
  normal : Nat
  selected : Nat
  activated : Nat
  up : Nat
  down : Nat
  left : Nat
  right : Nat
  enableWord : Nat
  mask : Half
  value : Half
  sense : Nat
  number : Nat
  goPage : Nat
  report : Nat
  count : Nat
  effects : List RawEffect
  deriving DecidableEq, Repr

/-- Define Picture (12.1). -/
structure DefinePictureBody where
  page : Nat
  picture : Nat
  asset : Nat
  x : Nat
  y : Nat
  deriving DecidableEq, Repr

/-- Want (12.1): count 0 means to the last strip. -/
structure WantBody where
  asset : Nat
  first : Nat
  count : Nat
  deriving DecidableEq, Repr

/-- Report (12.1); `kind` 0 Activation, 1 Guard Refused; absent fields are none. -/
structure ReportBody where
  kind : Nat
  page : Nat
  button : Option Nat
  code : Option Nat
  target : Option Nat
  attempts : Option Nat
  words : List Half
  deriving DecidableEq, Repr

/-- Fault (12.1, section 11.3); the kind's code and the fields, absent ones none. -/
structure FaultBody where
  kind : Nat
  refusedKind : Option Nat
  refusedSource : Option Nat
  streamOrForm : Option Nat
  p : Option Nat
  q : Option Nat
  t : Option Nat
  f : Option Nat
  owners : Option Nat
  deriving DecidableEq, Repr

/-- The data of an Answer by topic (12.1, R182 to R186). -/
inductive AnswerData where
  /-- no data (R181, R186) -/
  | empty
  /-- Station Status (R182) -/
  | status (mode : Nat) (speaker overflow overrun : Bool) (late freeUnits depth decodeDepth : Nat) (suspended : Bool)
  /-- Asset (R183) -/
  | asset (width height : Option Nat) (held skipped bad broken ready : Nat)
  /-- Scene Digest (R184) -/
  | digest (shown pending selected : Option Nat) (activated : Bool) (a c s : Half) (show_ : Nat) (held : Bool)
      (current : Nat) (pendingIndex : Option Nat) (words : List Half) (attempts : Nat)
  /-- Page (R185); the state is none for a page above 63 -/
  | page (state : Option Nat) (shown pending leaving : Bool) (buttons pictures : Nat) (buttonIds pictureIds : List Nat)
  deriving DecidableEq, Repr

/-- Answer (12.1). -/
structure AnswerBody where
  topic : Nat
  argument : Nat
  busy : Bool
  data : AnswerData
  deriving DecidableEq, Repr

/-- Check Done (12.1). -/
structure CheckDoneBody where
  checked : Nat
  bad : Nat
  firstBad : Option (Nat × Nat)
  remaining : Nat
  deriving DecidableEq, Repr

/-- A decoded strip: its rows of pixels, top row first (00_scope.md section 3). -/
abbrev Rows := List (List Colour)

/-- The commands: events of the station, one constructor per row of spec/opcode_table.json.
A message command is the close of an accepted message; `src` is the message's source, 0 to 7.
A length of a low is in periods of the station's own clock. -/
inductive Instr where
  /-- RESET_RELEASE (R173): the board reset line is released with this value on the straps. -/
  | resetRelease (straps : Nat)
  /-- FRAME_STROBE (R141): a Frame Strobe pulse. -/
  | frameStrobe
  /-- COMPOSITION_COMPLETE (R155): the composition in progress ends. -/
  | compositionComplete
  /-- PAGE_SWITCH_TARGET (R143): the pulse at which a held page switch is made. -/
  | pageSwitchTarget
  /-- SLIDE_SWITCH_VISIBLE (R152): the pulse at which a held slide switch becomes visible. -/
  | slideSwitchVisible
  /-- TRANSITION_END (R153): the pulse at which the running transition ends. -/
  | transitionEnd
  /-- CALIBRATION_PULSE (R161): a low of this length ends, the player controller's calibration pulse. -/
  | calibrationPulse (low : Nat)
  /-- CONTEND (R168): the station sends its head; `lows` are the wire's lows, cell by cell, as others lengthen them. -/
  | contend (lows : List Nat)
  /-- END_WINDOW (R164): these further lows are received, then 12 lu of high. -/
  | endWindow (lows : List Nat)
  /-- MESSAGE_VOIDED (R165): a low of this length began in the message's end window. -/
  | messageVoided (low : Nat)
  /-- SCENE_RESET (R180) -/
  | sceneReset (src : Nat)
  /-- LAYOUT (R177) -/
  | layout (src : Nat) (body : LayoutBody)
  /-- PRESENT (R175) -/
  | present (src station units : Nat)
  /-- CLAIM_SPEAKER (R65) -/
  | claimSpeaker (src : Nat)
  /-- SWITCH (R58, R95) -/
  | switch (src : Nat) (body : SwitchBody)
  /-- EXPIRE (R41) -/
  | expire (src : Nat) (body : ExpireBody)
  /-- READY (R55, R93) -/
  | ready (src : Nat) (body : ReadyBody)
  /-- KEY (R25) -/
  | key (src code : Nat)
  /-- GO (R48) -/
  | go (src page : Nat)
  /-- WORD_SET (R16) -/
  | wordSet (src word : Nat) (value : Half)
  /-- GUARD_SET (R69) -/
  | guardSet (src : Nat) (code : Half) (allowance prompt : Nat)
  /-- GUARD_FREEZE (R70) -/
  | guardFreeze (src : Nat)
  /-- SLIDE_APPEND (R80) -/
  | slideAppend (src : Nat) (body : AppendBody)
  /-- SLIDE_REMOVE (R81) -/
  | slideRemove (src index : Nat)
  /-- SLIDE_CLEAR (R82) -/
  | slideClear (src : Nat)
  /-- SLIDE_PLAY (R85) -/
  | slidePlay (src loop : Nat)
  /-- SLIDE_PAUSE (R86) -/
  | slidePause (src : Nat)
  /-- SLIDE_STEP (R87) -/
  | slideStep (src : Nat)
  /-- SLIDE_SEEK (R88) -/
  | slideSeek (src index : Nat)
  /-- CUE_SET (R97) -/
  | cueSet (src : Nat) (body : CueSetBody)
  /-- CUE_CLEAR (R97) -/
  | cueClear (src index : Nat)
  /-- CUE_HIT (R100) -/
  | cueHit (src : Nat) (body : CueHitBody)
  /-- DEFINE_PAGE (R7) -/
  | definePage (src : Nat) (body : DefinePageBody)
  /-- DEFINE_BUTTON (R8) -/
  | defineButton (src : Nat) (body : DefineButtonBody)
  /-- DEFINE_PICTURE (R9) -/
  | definePicture (src : Nat) (body : DefinePictureBody)
  /-- DROP_PAGE (R11) -/
  | dropPage (src page : Nat)
  /-- WANT (R121) -/
  | want (src : Nat) (body : WantBody)
  /-- CHECK (R136) -/
  | check (src station first count : Nat)
  /-- ASK (R181) -/
  | ask (src station topic argument : Nat)
  /-- REPORT (R166) -/
  | report (src : Nat) (body : ReportBody)
  /-- FAULT (R187) -/
  | fault (src : Nat) (body : FaultBody)
  /-- ANSWER (R166) -/
  | answer (src : Nat) (body : AnswerBody)
  /-- CHECK_DONE (R166) -/
  | checkDone (src : Nat) (body : CheckDoneBody)
  /-- SEGMENT_ARRIVAL (R109, R189): the bytes one segment frame encloses. -/
  | segmentArrival (bytes : List Byte)
  /-- PAGE_PREPARE_COMPLETE (R127): the strip's rows, or none when the inner structure check fails. -/
  | pagePrepareComplete (decoded : Option Rows)
  /-- BATCH_STRIP_COMPLETE (R131): the strip's rows, or none when the inner structure check fails. -/
  | batchStripComplete (decoded : Option Rows)
  /-- CHECK_STRIP_COMPLETE (R137): whether the stored strip's check word passes. -/
  | checkStripComplete (intact : Bool)
  /-- PAGE_TIMEOUT_EXPIRY (R38): the pulse at which the page-timeout timer expires. -/
  | pageTimeoutExpiry
  /-- HOLD_EXPIRY (R39): the pulse at which the activation-hold timer expires. -/
  | holdExpiry
  /-- SLIDE_DURATION_EXPIRY (R89): the pulse at which the slide-duration timer expires. -/
  | slideDurationExpiry
  /-- PREPARE_LIMIT_EXPIRY (R57, R94): the pulse at which the stream's prepare-limit timer expires. -/
  | prepareLimitExpiry (stream : Stream)
  /-- ABSENCE_THRESHOLD (R64): the pulse at which the absence counter reaches its threshold. -/
  | absenceThreshold
  /-- FORCED_CUE_WATCH (R99): the pulse at which the elapsed count reaches an armed Forced cue's trigger. -/
  | forcedCueWatch
  /-- RESET_ASSERTED (R173): the board reset line is asserted. -/
  | resetAsserted
  /-- IDLE_REACHED (R163): the wire has been high for 16 lu. -/
  | idleReached
  /-- STRAY_LOW (R163): a low of this length that carries no bit of a message ends. -/
  | strayLow (low : Nat)
  /-- UNKNOWN_KIND_CLOSE (R166): a message of a kind the part does not know, or of source 6 or 7, closes. -/
  | unknownKindClose (kind src : Nat)
  deriving DecidableEq, Repr

end Sys2Proof
end

