-- ==== Sys2Proof/WellFormed.lean ====
section
/-! DEFINITION. Which commands can be spelled: every number of a message fits the bytes its layout gives it
(12_formats_and_worked_sequences.md), every list has a length its kind admits (R188). No range of a rule is
tested here: a number that fits its bytes and is out of range reaches the rule that refuses or ignores it. -/

namespace Sys2Proof

/-- The number fits one byte. -/
def fits8 (n : Nat) : Bool := decide (n < 256)

/-- The number fits two bytes. -/
def fits16 (n : Nat) : Bool := decide (n < 65536)

/-- The number fits four bytes. -/
def fits32 (n : Nat) : Bool := decide (n < 4294967296)

/-- The number is a station number: three bits of the source byte. -/
def isStation (n : Nat) : Bool := decide (n < 8)

/-- An optional field whose value, when present, passes `f`. -/
def optionally (f : Nat → Bool) : Option Nat → Bool
  | none => true
  | some n => f n

def RawEffect.wf (e : RawEffect) : Bool := fits8 e.kind && fits8 e.word && fits8 e.place && fits8 e.value

def Band.wf (b : Band) : Bool := fits8 b.owner && fits16 b.first

def LayoutBody.wf (b : LayoutBody) : Bool :=
  fits16 b.width && fits16 b.height && fits8 b.count && fits8 b.prepareLimit
    && decide (1 ≤ b.bands.length) && decide (b.bands.length ≤ 4) && b.bands.all Band.wf

def SwitchBody.wf (b : SwitchBody) : Bool := fits8 b.stream && fits8 b.index && fits8 b.partialFlag

def ReadyBody.wf (b : ReadyBody) : Bool := fits8 b.stream && fits8 b.index

def AppendBody.wf (b : AppendBody) : Bool :=
  fits16 b.asset && fits16 b.x && fits16 b.y && fits16 b.duration && fits8 b.kind && fits8 b.length && fits8 b.tag

def CueSetBody.wf (b : CueSetBody) : Bool :=
  fits8 b.index && fits8 b.kind && fits32 b.trigger && fits8 b.effect && fits8 b.word && fits8 b.bit

def CueHitBody.wf (b : CueHitBody) : Bool :=
  fits8 b.index && fits8 b.kind && fits32 b.trigger && fits8 b.slide

def DefinePageBody.wf (b : DefinePageBody) : Bool :=
  fits8 b.page && fits16 b.asset && fits16 b.x && fits16 b.y && fits8 b.default && fits8 b.timeout
    && fits8 b.onTimeout && fits8 b.goPage && fits8 b.guardLevel && b.entry.wf && fits8 b.buttons && fits8 b.pictures

def DefineButtonBody.wf (b : DefineButtonBody) : Bool :=
  fits8 b.page && fits8 b.button && fits16 b.x && fits16 b.y && fits16 b.width && fits16 b.height
    && fits16 b.normal && fits16 b.selected && fits16 b.activated
    && fits8 b.up && fits8 b.down && fits8 b.left && fits8 b.right
    && fits8 b.enableWord && fits8 b.sense && fits8 b.number && fits8 b.goPage && fits16 b.report && fits8 b.count
    && decide (b.effects.length ≤ 4) && b.effects.all RawEffect.wf

def DefinePictureBody.wf (b : DefinePictureBody) : Bool :=
  fits8 b.page && fits8 b.picture && fits16 b.asset && fits16 b.x && fits16 b.y

def WantBody.wf (b : WantBody) : Bool := fits16 b.asset && fits16 b.first && fits8 b.count

def ReportBody.wf (b : ReportBody) : Bool :=
  fits8 b.kind && fits8 b.page && optionally fits8 b.button && optionally fits16 b.code
    && optionally fits8 b.target && optionally fits8 b.attempts && decide (b.words.length = 8)

def FaultBody.wf (b : FaultBody) : Bool :=
  fits8 b.kind && optionally fits8 b.refusedKind && optionally fits8 b.refusedSource
    && optionally fits8 b.streamOrForm && optionally fits16 b.p && optionally fits16 b.q
    && optionally fits32 b.t && optionally fits32 b.f && optionally fits8 b.owners

def AnswerData.wf : AnswerData → Bool
  | .empty => true
  | .status mode _ _ _ late free depth decodeDepth _ =>
    fits8 mode && fits8 late && fits16 free && fits8 depth && fits8 decodeDepth
  | .asset w h held skipped bad broken ready =>
    optionally fits16 w && optionally fits16 h && fits16 held && fits16 skipped && fits16 bad && fits16 broken && fits16 ready
  | .digest shown pending selected _ _ _ _ show_ _ current pendingIndex words attempts =>
    optionally fits8 shown && optionally fits8 pending && optionally fits8 selected && fits8 show_ && fits8 current
      && optionally fits8 pendingIndex && decide (words.length = 8) && fits8 attempts
  | .page state _ _ _ buttons pictures buttonIds pictureIds =>
    optionally fits8 state && fits8 buttons && fits8 pictures && buttonIds.all (fun n => decide (n < 32))
      && pictureIds.all (fun n => decide (n < 16))

def AnswerBody.wf (b : AnswerBody) : Bool := fits8 b.topic && fits16 b.argument && b.data.wf

def CheckDoneBody.wf (b : CheckDoneBody) : Bool :=
  fits32 b.checked && fits32 b.bad && fits32 b.remaining
    && (match b.firstBad with
        | none => true
        | some (a, k) => fits16 a && fits16 k)

/-- A decoded strip holds one to eight rows (00_scope.md section 3). -/
def decodedFits : Option Rows → Bool
  | none => true
  | some rows => decide (1 ≤ rows.length) && decide (rows.length ≤ 8)

/-- The command can be spelled. -/
def Instr.wf : Instr → Bool
  | .resetRelease straps => isStation straps
  | .frameStrobe => true
  | .compositionComplete => true
  | .pageSwitchTarget => true
  | .slideSwitchVisible => true
  | .transitionEnd => true
  | .calibrationPulse _ => true
  | .contend _ => true
  | .endWindow _ => true
  | .messageVoided _ => true
  | .sceneReset src => isStation src
  | .layout src body => isStation src && body.wf
  | .present src station units => isStation src && fits8 station && fits16 units
  | .claimSpeaker src => isStation src
  | .switch src body => isStation src && body.wf
  | .expire src body => isStation src && fits8 body.timer
  | .ready src body => isStation src && body.wf
  | .key src code => isStation src && fits8 code
  | .go src page => isStation src && fits8 page
  | .wordSet src word _ => isStation src && fits8 word
  | .guardSet src _ allowance prompt => isStation src && fits8 allowance && fits8 prompt
  | .guardFreeze src => isStation src
  | .slideAppend src body => isStation src && body.wf
  | .slideRemove src index => isStation src && fits8 index
  | .slideClear src => isStation src
  | .slidePlay src loop => isStation src && fits8 loop
  | .slidePause src => isStation src
  | .slideStep src => isStation src
  | .slideSeek src index => isStation src && fits8 index
  | .cueSet src body => isStation src && body.wf
  | .cueClear src index => isStation src && fits8 index
  | .cueHit src body => isStation src && body.wf
  | .definePage src body => isStation src && body.wf
  | .defineButton src body => isStation src && body.wf
  | .definePicture src body => isStation src && body.wf
  | .dropPage src page => isStation src && fits8 page
  | .want src body => isStation src && body.wf
  | .check src station first count => isStation src && fits8 station && fits16 first && fits16 count
  | .ask src station topic argument => isStation src && fits8 station && fits8 topic && fits16 argument
  | .report src body => isStation src && body.wf
  | .fault src body => isStation src && body.wf
  | .answer src body => isStation src && body.wf
  | .checkDone src body => isStation src && body.wf
  | .segmentArrival _ => true
  | .pagePrepareComplete decoded => decodedFits decoded
  | .batchStripComplete decoded => decodedFits decoded
  | .checkStripComplete _ => true
  | .pageTimeoutExpiry => true
  | .holdExpiry => true
  | .slideDurationExpiry => true
  | .prepareLimitExpiry _ => true
  | .absenceThreshold => true
  | .forcedCueWatch => true
  | .resetAsserted => true
  | .idleReached => true
  | .strayLow _ => true
  | .unknownKindClose kind src => fits8 kind && isStation src

end Sys2Proof
end

