-- ==== Sys2Proof/Config.lean ====
section
/-! DEFINITION. What the manual fixes as numbers of the part, and the one value it leaves open. -/

namespace Sys2Proof.Config

/-- Messages the outgoing queue holds (R169). -/
def queueLimit : Nat := 8

/-- Objections to one head that put the station into Link Silent (R170, R171). -/
def objectionLimit : Nat := 16

/-- Link units for which an objecting station drives the wire low (R164). -/
def objectionDrive : Nat := 40

/-- Units of 4 KiB in the store (R107). -/
def storeUnits : Nat := 16384

/-- Bytes of one store unit (R107). -/
def unitBytes : Nat := 4096

/-- Units an unplaced strip leaves free (R111). -/
def reserveUnits : Nat := 4096

/-- Ranges the Want list holds (R119). -/
def wantLimit : Nat := 64

/-- Strips one Want asks for at most (R120). -/
def wantChunk : Nat := 16

/-- A Want is queued while the outgoing queue holds fewer messages than this (R120). -/
def wantQueueRoom : Nat := 4

/-- Page Prepare jobs the decode queue holds (R123, R125). -/
def pageJobLimit : Nat := 30

/-- Strips of progress after which a batch may be suspended (R129, R135). -/
def batchGuarantee : Nat := 4

/-- Frames of the activation hold (R39). -/
def holdFrames : Nat := 8

/-- Frames between a Switch's queueing and its target (R56). -/
def switchLead : Long := 2

/-- Frames by which the claim thresholds of successive ranks differ (R64). -/
def rankMargin : Nat := 16

/-- Entries of the slide list (R79). -/
def slideLimit : Nat := 128

/-- The elapsed count's last value (R91). -/
def elapsedLimit : Nat := 4294967295

/-- The late-switch count's last value (R59). -/
def lateLimit : Nat := 255

/-- Periods of the station's clock in 256 nominal link units (R158, section 10.7: 64 periods a unit). -/
def nominalUnit256 : Nat := 16384

/-- FREE VALUE: how a four-byte field of a Fault is sent when it is absent.
Section 4.3 gives the absent value of one-byte and two-byte fields only (log 15). -/
opaque absentLong : Long

end Sys2Proof.Config
end

