-- ==== Sys2Proof/Machine/State.lean ====
section
/-! DEFINITION. The state of one EW412 station as plain data, block by block (00_scope.md section 2.1), and its values
right after the release of the board reset line. -/

namespace Sys2Proof.Machine

/-- What stops the machine: nothing. No rule of the manual gives an event that stops a station; its Fault messages
are reports (R187). -/
inductive Fault where
  deriving DecidableEq, Repr

/-- What the model refuses. -/
inductive Refusal where
  /-- Raised by the dispatch for a command that has no meaning yet, by its mnemonic. Safe: the run stops. -/
  | notModelled (mnemonic : String)
  deriving DecidableEq, Repr

/-- The station states (R173). -/
inductive Mode where
  | strapFault
  | uncalibrated
  | joining
  | running
  | spare
  deriving DecidableEq, Repr

/-- What Layout fixes (R176, R177). -/
structure Layout where
  width : Nat
  height : Nat
  prepareLimit : Nat
  placeholder : Colour
  bands : List Band
  deriving DecidableEq, Repr

/-- The screen and the station's band: rows `first` up to, not including, `last`. -/
structure Geometry where
  width : Nat
  height : Nat
  first : Nat
  last : Nat
  deriving DecidableEq, Repr

/-! ### The scene replica -/

/-- A valid word effect (R15). -/
inductive WordEffect where
  | setBit (word bit : Nat)
  | clearBit (word bit : Nat)
  | toggleBit (word bit : Nat)
  | putDigit (word digit value : Nat)
  | takeEntry (word : Nat)
  deriving DecidableEq, Repr

/-- A page's on-timeout action (R3). -/
inductive OnTimeout where
  | none
  | go (page : Nat)
  | activateSelected
  deriving DecidableEq, Repr

/-- A page's background (R3). -/
inductive Background where
  | colour (c : Colour)
  | asset (id x y : Nat)
  deriving DecidableEq, Repr

/-- A page's header (R3). -/
structure Header where
  background : Background
  default : Option Nat
  timeout : Nat
  onTimeout : OnTimeout
  guardLevel : Nat
  entryEffect : Option WordEffect
  buttons : Nat
  pictures : Nat
  deriving DecidableEq, Repr

/-- A rectangle of the screen, in pixels (R8). -/
structure Rect where
  x : Nat
  y : Nat
  width : Nat
  height : Nat
  deriving DecidableEq, Repr

/-- An enable condition (R8, R17); `differ` is the sense. -/
structure Condition where
  word : Nat
  mask : Half
  value : Half
  differ : Bool
  deriving DecidableEq, Repr

/-- A button record (R8). -/
structure Button where
  id : Nat
  rect : Rect
  normal : Nat
  selected : Nat
  activated : Option Nat
  up : Option Nat
  down : Option Nat
  left : Option Nat
  right : Option Nat
  condition : Option Condition
  number : Option Nat
  effects : List WordEffect
  report : Option Nat
  goPage : Option Nat
  deriving DecidableEq, Repr

/-- A picture record (R9). -/
structure Picture where
  id : Nat
  asset : Nat
  x : Nat
  y : Nat
  deriving DecidableEq, Repr

/-- What a Defining or Complete page holds (R3); both lists are ordered by ID. -/
structure PageBody where
  header : Header
  buttons : List Button
  pictures : List Picture
  deriving DecidableEq, Repr

/-- A page record in one of its three states (R4). -/
inductive Page where
  | undefined
  | defining (body : PageBody)
  | complete (body : PageBody)
  deriving DecidableEq, Repr

/-- A button's state (R19). -/
inductive ButtonState where
  | normal
  | selected
  | activated
  deriving DecidableEq, Repr

/-- A button of the shown page: its enabled state and its button state (R18, R19). The list of them is in ID order. -/
structure Live where
  enabled : Bool
  state : ButtonState
  deriving DecidableEq, Repr

/-- The guard's wait (R68). -/
structure Wait where
  target : Nat
  origin : Option Nat
  deriving DecidableEq, Repr

/-- The guard record (R68). -/
structure Guard where
  code : Option (List Nat)
  allowance : Nat
  prompt : Nat
  frozen : Bool
  attempts : Nat
  closed : Bool
  wait : Option Wait
  deriving DecidableEq, Repr

/-- How a slide replaces the one before it (R79). -/
inductive TransitionKind where
  | cut
  | fade
  | wipeDown
  deriving DecidableEq, Repr

/-- The content of a slide entry as a surface holds it (R129). -/
structure Content where
  asset : Nat
  x : Nat
  y : Nat
  fill : Colour
  deriving DecidableEq, Repr

/-- An entry of the slide list (R79). -/
structure Slide where
  content : Content
  duration : Nat
  kind : TransitionKind
  length : Nat
  tag : Option Nat
  deriving DecidableEq, Repr

/-- The slide state (R83). -/
inductive Show where
  | stopped
  | playing
  | paused
  deriving DecidableEq, Repr

/-- A cue's effect (R97). -/
inductive CueEffect where
  | pause
  | reportOnly
  | setBit (word bit : Nat)
  deriving DecidableEq, Repr

/-- A cue (R97); a cue that is not Forced is Tagged. -/
structure Cue where
  forced : Bool
  trigger : Nat
  effect : CueEffect
  armed : Bool
  deriving DecidableEq, Repr

/-- The scene replica (01_the_scene_replica_pages_objects_and_scene_words.md section 1.2). -/
structure Scene where
  pages : List Page
  words : List Half
  live : List Live
  activity : Half
  shown : Option Nat
  leaving : Option Nat
  pageChange : Half
  pendingPage : Option Nat
  pageReady : List Nat
  entry : List Nat
  speaker : Option Nat
  owners : List Nat
  guard : Guard
  slides : List Slide
  show_ : Show
  current : Nat
  loop : Bool
  held : Bool
  slideChange : Half
  pendingIndex : Option Nat
  slideReady : List Nat
  cues : List Cue
  deriving DecidableEq, Repr

/-! ### The speaker's timers -/

/-- A running timer: its tag and the frames remaining (R38). -/
structure Timer where
  tag : Half
  remaining : Nat
  deriving DecidableEq, Repr

/-- The Speaker Timers (R38, R56, R57, R63, R89, R91); `remaining` none is Full, `absence` none is idle. -/
structure Timers where
  pageTimeout : Option Timer
  hold : Option Timer
  slideDuration : Option Timer
  pagePrepare : Option Timer
  slidePrepare : Option Timer
  pageMark : Bool
  slideMark : Bool
  elapsed : Nat
  remaining : Option Nat
  absence : Option Nat
  deriving DecidableEq, Repr

/-! ### The Link Interface -/

/-- A message the station queues: its body; its source is the station's number. -/
inductive Message where
  | present (station units : Nat)
  | claim
  | switch (body : SwitchBody)
  | expire (body : ExpireBody)
  | ready (body : ReadyBody)
  | cueHit (body : CueHitBody)
  | report (body : ReportBody)
  | fault (body : FaultBody)
  | want (body : WantBody)
  | answer (body : AnswerBody)
  | checkDone (body : CheckDoneBody)
  deriving DecidableEq, Repr

/-- The receive state (R158, R163). -/
inductive Receive where
  | waiting
  | idle
  | receiving
  | endWindow
  | objecting
  deriving DecidableEq, Repr

/-- What has become of the station's head in the message now on the wire (R168, R170). -/
inductive Sending where
  | none
  | lost
  | whole
  deriving DecidableEq, Repr

/-- The Link Interface (R158); `unit256` is the length of 256 link units in periods of the station's clock. -/
structure Link where
  unit256 : Nat
  rx : Receive
  errorMark : Bool
  rxBits : List Bool
  sending : Sending
  queue : List Message
  objections : Nat
  silent : Bool
  overflow : Bool
  deriving DecidableEq, Repr

/-! ### The Strip Store -/

/-- A strip: an asset and a strip index. -/
structure Strip where
  asset : Nat
  index : Nat
  deriving DecidableEq, Repr

/-- A present record of the asset table (R104). -/
structure Asset where
  id : Nat
  width : Nat
  height : Nat
  deriving DecidableEq, Repr

/-- The states of a Packed entry (R106). -/
inductive PackedState where
  | held
  | skipped
  | bad
  deriving DecidableEq, Repr

/-- A Packed entry of the strip directory (R106), with the data and check word the store holds for it. -/
structure Packed where
  id : Strip
  state : PackedState
  units : Nat
  pins : Nat
  failures : Nat
  arrival : Long
  data : List Byte
  checkWord : Half
  deriving DecidableEq, Repr

/-- An Open entry of the strip directory (R106), Ready or still Decoding, with the rows the store holds for it. -/
structure Opened where
  id : Strip
  ready : Bool
  units : Nat
  pins : Nat
  lastShown : Long
  rows : Rows
  deriving DecidableEq, Repr

/-- What made a placement (R108). -/
inductive Maker where
  | background (page : Nat)
  | picture (page id : Nat)
  | button (page id : Nat)
  | slide
  deriving DecidableEq, Repr

/-- A placement of an asset (R108), clipped to a rectangle or not. -/
structure Placement where
  asset : Nat
  x : Nat
  y : Nat
  clip : Option Rect
  maker : Maker
  deriving DecidableEq, Repr

/-- A role set (R114): its strips, in order, and the placements of the assets it names as unresolved. -/
structure RoleSet where
  strips : List Strip
  unresolved : List Placement
  deriving DecidableEq, Repr

/-- The six role sets (R114). -/
structure Roles where
  display : RoleSet
  shown : RoleSet
  pending : RoleSet
  currentSlide : RoleSet
  pendingSlide : RoleSet
  fading : RoleSet
  deriving DecidableEq, Repr

/-- A pair of the room-wait list (R117): a strip and whether it waits in Open form. -/
structure RoomWait where
  id : Strip
  inOpen : Bool
  deriving DecidableEq, Repr

/-- A range of the Want list (R119): first and last strip, or none for the whole asset. -/
structure WantRange where
  asset : Nat
  span : Option (Nat × Nat)
  deriving DecidableEq, Repr

/-- Stream Intake and Strip Store (R104 to R122). -/
structure Store where
  assets : List Asset
  packed : List Packed
  opened : List Opened
  freeUnits : Nat
  arrivals : Long
  placements : List Placement
  roles : Roles
  roomWait : List RoomWait
  exhausted : Bool
  wants : List WantRange
  outstanding : List Nat
  deriving DecidableEq, Repr

/-! ### The Decode Unit -/

/-- A Page Prepare job (R125). -/
structure PageJob where
  id : Strip
  tag : Half
  deriving DecidableEq, Repr

/-- A strip of a batch (R129). -/
inductive BatchStrip where
  | pending
  | done
  | filled
  deriving DecidableEq, Repr

/-- A batch (R129); `change` is its tag for class 2 and none for class 3; `strips` none is a list not yet known. -/
structure Batch where
  content : Content
  change : Option Half
  strips : Option (List (Nat × BatchStrip))
  firstFailing : Option Nat
  progress : Nat
  begun : Bool
  deriving DecidableEq, Repr

/-- A Check job (R136, R137): assets `first` up to, not including, `stop`; `position` is the last strip tested. -/
structure CheckJob where
  first : Nat
  stop : Nat
  position : Option Strip
  checked : Nat
  bad : Nat
  firstBad : Option Strip
  deriving DecidableEq, Repr

/-- The job in progress (R123). -/
inductive Running where
  | page (job : PageJob)
  /-- a batch and the strip it is on; `stopping` when the batch has been removed (R133) -/
  | batch (job : Batch) (index : Nat) (stopping : Bool)
  | check (job : CheckJob) (id : Strip)
  deriving DecidableEq, Repr

/-- The Decode Unit (R123 to R139), and the station's own marks of the Ready it has queued (R54, R93). -/
structure Decode where
  pageJobs : List PageJob
  batch : Option Batch
  check : Option CheckJob
  running : Option Running
  suspended : Option Batch
  deferred : Bool
  pageReadySent : Bool
  slideReadySent : Bool
  reported : Option Half
  deriving DecidableEq, Repr

/-! ### The Band Compositor -/

/-- A strip's rows on a slide surface: decoded, or filled across the asset's width (R131). -/
inductive SurfaceRows where
  | decoded (rows : Rows)
  | filled
  deriving DecidableEq, Repr

/-- The rows one strip of a batch wrote: its index, the asset's width and height, and the rows. -/
structure SurfaceStrip where
  index : Nat
  width : Nat
  height : Nat
  rows : SurfaceRows
  deriving DecidableEq, Repr

/-- A slide surface and its record (R130): no strip is transparent. -/
structure Surface where
  content : Option Content
  whole : Bool
  firstFailing : Option Nat
  strips : List SurfaceStrip
  deriving DecidableEq, Repr

/-- A held page switch (R142, R143). -/
structure PageSwitch where
  page : Nat
  change : Half
  target : Long
  late : Bool
  deriving DecidableEq, Repr

/-- A held slide switch (R142, R151): Awaiting Content or Awaiting Target. -/
structure SlideSwitch where
  content : Content
  change : Half
  kind : TransitionKind
  length : Nat
  target : Long
  late : Bool
  awaitingContent : Bool
  deriving DecidableEq, Repr

/-- A running transition (R142): a Wipe Down or a Fade, its length and step. -/
structure Transition where
  wipe : Bool
  length : Nat
  step : Nat
  deriving DecidableEq, Repr

/-- A page as a snapshot copies it (R145). -/
structure DrawnPage where
  number : Nat
  body : PageBody
  states : List Live
  deriving DecidableEq, Repr

/-- A snapshot (R145): all that the composition of a frame reads. -/
structure Snapshot where
  frame : Long
  geometry : Geometry
  placeholder : Colour
  page : Option DrawnPage
  assets : List Asset
  ready : List Opened
  layerOn : Bool
  front : Surface
  back : Surface
  transition : Option Transition
  deriving DecidableEq, Repr

/-- A band image: blank, or the composition of a snapshot (R147, R156). -/
inductive Image where
  | blank
  | composed (snapshot : Snapshot)
  deriving DecidableEq, Repr

/-- The Band Compositor (R142) and the image on its Pixel Port (R141, R156). -/
structure Compositor where
  frame : Long
  displayPage : Option Nat
  heldButtons : Option (List Live)
  pageSwitch : Option PageSwitch
  layerOn : Bool
  front : Surface
  back : Surface
  transition : Option Transition
  slideSwitch : Option SlideSwitch
  composing : Option Snapshot
  lastImage : Image
  overrun : Bool
  overrunReported : Bool
  lateCount : Nat
  port : Image
  deriving DecidableEq, Repr

/-! ### The station -/

/-- The blocks that only this station's own events move: LI, SS, DU and BC. -/
structure Blocks where
  link : Link
  store : Store
  decode : Decode
  bc : Compositor
  deriving DecidableEq, Repr

/-- One EW412 station. -/
structure Station where
  lineAsserted : Bool
  number : Nat
  mode : Mode
  layout : Option Layout
  scene : Scene
  timers : Timers
  blocks : Blocks
  deriving DecidableEq, Repr

/-- The machine: the station and the commands that wait for it, first in first out. -/
structure State where
  pending : List Instr
  station : Station
  deriving DecidableEq, Repr

/-! ### The values after the release of the reset line -/

/-- The guard after reset (R68). -/
def Guard.reset : Guard :=
  { code := none, allowance := 0, prompt := 0, frozen := false, attempts := 4, closed := false, wait := none }

/-- A cue after reset: disarmed (R97). DESIGN CHOICE (log 22): kind, trigger and effect of a disarmed cue. -/
def Cue.reset : Cue := { forced := true, trigger := 0, effect := .pause, armed := false }

/-- The scene replica after reset (R22, R46, R47, R67, R78, R102). -/
def Scene.reset : Scene :=
  { pages := List.replicate 64 .undefined
    words := List.replicate 8 0
    live := []
    activity := 0
    shown := none
    leaving := none
    pageChange := 0
    pendingPage := none
    pageReady := []
    entry := []
    speaker := none
    owners := []
    guard := Guard.reset
    slides := []
    show_ := .stopped
    current := 0
    loop := false
    held := false
    slideChange := 0
    pendingIndex := none
    slideReady := []
    cues := List.replicate 8 Cue.reset }

/-- The Speaker Timers after reset (R46, R67, R83, R102). -/
def Timers.reset : Timers :=
  { pageTimeout := none
    hold := none
    slideDuration := none
    pagePrepare := none
    slidePrepare := none
    pageMark := false
    slideMark := false
    elapsed := 0
    remaining := none
    absence := none }

/-- The Link Interface after reset (R158). -/
def Link.reset : Link :=
  { unit256 := Config.nominalUnit256
    rx := .waiting
    errorMark := false
    rxBits := []
    sending := .none
    queue := []
    objections := 0
    silent := false
    overflow := false }

def RoleSet.empty : RoleSet := { strips := [], unresolved := [] }

/-- The role sets after reset (R114). -/
def Roles.empty : Roles :=
  { display := RoleSet.empty
    shown := RoleSet.empty
    pending := RoleSet.empty
    currentSlide := RoleSet.empty
    pendingSlide := RoleSet.empty
    fading := RoleSet.empty }

/-- The Strip Store after reset (R122). -/
def Store.reset : Store :=
  { assets := []
    packed := []
    opened := []
    freeUnits := Config.storeUnits
    arrivals := 0
    placements := []
    roles := Roles.empty
    roomWait := []
    exhausted := false
    wants := []
    outstanding := [] }

/-- The Decode Unit after reset (R138). -/
def Decode.reset : Decode :=
  { pageJobs := []
    batch := none
    check := none
    running := none
    suspended := none
    deferred := false
    pageReadySent := false
    slideReadySent := false
    reported := none }

/-- A slide surface after reset (R142). -/
def Surface.reset : Surface := { content := none, whole := false, firstFailing := none, strips := [] }

/-- The Band Compositor after reset (R142, R157). -/
def Compositor.reset : Compositor :=
  { frame := 0
    displayPage := none
    heldButtons := none
    pageSwitch := none
    layerOn := false
    front := Surface.reset
    back := Surface.reset
    transition := none
    slideSwitch := none
    composing := none
    lastImage := .blank
    overrun := false
    overrunReported := false
    lateCount := 0
    port := .blank }

/-- The blocks after reset. -/
def Blocks.reset : Blocks :=
  { link := Link.reset, store := Store.reset, decode := Decode.reset, bc := Compositor.reset }

/-- The station right after the release of the reset line with this value on the straps (R173). -/
def Station.atRelease (straps : Nat) : Station :=
  { lineAsserted := false
    number := straps
    mode := if 2 ≤ straps ∧ straps ≤ 5 then .uncalibrated else .strapFault
    layout := none
    scene := Scene.reset
    timers := Timers.reset
    blocks := Blocks.reset }

/-- The machine right after reset. DESIGN CHOICE (log 1): the strap value is 2. -/
def State.reset : State := { pending := [], station := Station.atRelease 2 }

end Sys2Proof.Machine
end

