-- ==== Sys2Proof/Machine/Ops.lean ====
section
/-! DEFINITION. The operations every block uses: keyed tables in canonical form, the station's place in the Layout, the
outgoing queue (R169) and the refusal of a replicated message (R62). -/

namespace Sys2Proof.Machine

/-! ### Optional fields (section 4.3) -/

/-- An optional one-byte field: 0xFF is absent. -/
def optionalByte (n : Nat) : Option Nat := if n = 255 then none else some n

/-- An optional two-byte field: 0xFFFF is absent. -/
def optionalHalf (n : Nat) : Option Nat := if n = 65535 then none else some n

/-! ### Tables keyed by strip, sorted, no key twice -/

/-- The order of the directory: by asset ID, then by strip index. -/
def Strip.before (a b : Strip) : Bool := decide (a.asset < b.asset) || (a.asset == b.asset && decide (a.index < b.index))

/-- The entry with this key. -/
def Table.find {α : Type} (key : α → Strip) (k : Strip) : List α → Option α
  | [] => none
  | e :: l => if key e = k then some e else Table.find key k l

/-- The table with this entry put at its key, in place of any entry there. -/
def Table.put {α : Type} (key : α → Strip) (e : α) : List α → List α
  | [] => [e]
  | f :: l =>
    if key f = key e then e :: l
    else if (key e).before (key f) then e :: f :: l
    else f :: Table.put key e l

/-- The table without the entry at this key. -/
def Table.erase {α : Type} (key : α → Strip) (k : Strip) (l : List α) : List α := l.filter (fun e => key e != k)

/-- Canonical form: keys strictly rising. -/
def Table.sorted {α : Type} (key : α → Strip) : List α → Bool
  | [] => true
  | e :: l => (match l with
    | [] => true
    | f :: _ => (key e).before (key f)) && Table.sorted key l

/-- A set of strips with this strip added, in order. -/
def Strip.insert (k : Strip) (l : List Strip) : List Strip := Table.put id k l

/-- A set of station numbers with this one added, in order. -/
def Stations.insert (n : Nat) : List Nat → List Nat
  | [] => [n]
  | m :: l => if n = m then m :: l else if n < m then n :: m :: l else m :: Stations.insert n l

/-- The numbers put in order, each once. -/
def Stations.sort (l : List Nat) : List Nat := l.foldr Stations.insert []

/-! ### The station's place (R61, R176, R177) -/

/-- The rows of the band that this station owns: to the next band's first row, or to the bottom of the screen. -/
def Layout.rowsOf (height n : Nat) : List Band → Option (Nat × Nat)
  | [] => none
  | [b] => if b.owner = n then some (b.first, height) else none
  | b :: c :: l => if b.owner = n then some (b.first, c.first) else Layout.rowsOf height n (c :: l)

/-- The screen and the band of a station under a Layout; no band is no rows. -/
def Layout.geometry (l : Layout) (n : Nat) : Geometry :=
  match Layout.rowsOf l.height n l.bands with
  | some (first, last) => { width := l.width, height := l.height, first := first, last := last }
  | none => { width := l.width, height := l.height, first := 0, last := 0 }

/-- The station's screen and band; nothing before Layout. -/
def Station.geometry (st : Station) : Geometry :=
  match st.layout with
  | some l => l.geometry st.number
  | none => { width := 0, height := 0, first := 0, last := 0 }

/-- The prepare limit that Layout set. -/
def Station.prepareLimit (st : Station) : Nat := (st.layout.map Layout.prepareLimit).getD 0

/-- The placeholder colour that Layout set. -/
def Station.placeholder (st : Station) : Colour := (st.layout.map Layout.placeholder).getD transparent

/-- A station is the speaker when its own number equals the speaker identity in its replica (R61). -/
def Station.isSpeaker (st : Station) : Bool := decide (st.scene.speaker = some st.number)

/-- The place of a station among the owners other than the speaker, from 1 (R61). -/
def Scene.rank (sc : Scene) (n : Nat) : Nat :=
  ((sc.owners.filter (fun o => decide (some o ≠ sc.speaker))).takeWhile (fun o => decide (o ≠ n))).length + 1

/-- Every band owner is in the ready set (R56). -/
def Scene.allIn (sc : Scene) (ready : List Nat) : Bool := sc.owners.all (fun o => ready.contains o)

/-- The owners not in the ready set as the Fault's owners byte: bit k for station k (12.1). -/
def Scene.missing (sc : Scene) (ready : List Nat) : Nat :=
  (sc.owners.filter (fun o => !ready.contains o)).foldl (fun n o => n + 2 ^ o) 0

/-! ### Updates of one part -/

def Station.withScene (st : Station) (f : Scene → Scene) : Station := { st with scene := f st.scene }

def Station.withTimers (st : Station) (f : Timers → Timers) : Station := { st with timers := f st.timers }

def Station.withBlocks (st : Station) (f : Blocks → Blocks) : Station := { st with blocks := f st.blocks }

def Blocks.withLink (b : Blocks) (f : Link → Link) : Blocks := { b with link := f b.link }

def Blocks.withStore (b : Blocks) (f : Store → Store) : Blocks := { b with store := f b.store }

def Blocks.withDecode (b : Blocks) (f : Decode → Decode) : Blocks := { b with decode := f b.decode }

def Blocks.withBc (b : Blocks) (f : Compositor → Compositor) : Blocks := { b with bc := f b.bc }

/-- What every meaning does to the machine: an event at the station, the command queue left alone. -/
def State.event (f : Station → Station) (s : State) : Host.Outcome State Fault Refusal :=
  .next { s with station := f s.station }

/-- The change made by a station in Running; no change in any other state. -/
def Station.whenRunning (f : Station → Station) (st : Station) : Station := if st.mode = .running then f st else st

/-! ### The outgoing queue (R169) -/

/-- A message handed to the Link Interface: discarded in Link Silent, discarded with the overflow flag set when the
queue is full, else placed at the tail (R169). -/
def Link.enqueue (m : Message) (l : Link) : Link :=
  if l.silent then l
  else if Config.queueLimit ≤ l.queue.length then { l with overflow := true }
  else { l with queue := l.queue ++ [m] }

def Blocks.enqueue (m : Message) (b : Blocks) : Blocks := b.withLink (Link.enqueue m)

def Station.enqueue (m : Message) (st : Station) : Station := st.withBlocks (Blocks.enqueue m)

/-! ### Fault messages (section 11.3) -/

/-- The kinds of Fault, in the order of the table of section 11.3, which is the order of their codes (12.1). -/
inductive FaultKind where
  | pageUnusable
  | pageBusy
  | badDefinition
  | guardClosed
  | guardFrozen
  | slideBusy
  | listFull
  | layoutRefused
  | prepareOverdue
  | lateSwitch
  | storeExhausted
  | stripBroken
  | frameOverrun
  | checkBusy
  deriving DecidableEq, Repr

/-- The code of a Fault kind: 0 to 13 in the order of the table (12.1). -/
def FaultKind.code : FaultKind → Nat
  | .pageUnusable => 0
  | .pageBusy => 1
  | .badDefinition => 2
  | .guardClosed => 3
  | .guardFrozen => 4
  | .slideBusy => 5
  | .listFull => 6
  | .layoutRefused => 7
  | .prepareOverdue => 8
  | .lateSwitch => 9
  | .storeExhausted => 10
  | .stripBroken => 11
  | .frameOverrun => 12
  | .checkBusy => 13

/-- A Fault that names no field (R187). -/
def FaultKind.plain (k : FaultKind) : FaultBody :=
  { kind := k.code, refusedKind := none, refusedSource := none, streamOrForm := none, p := none, q := none
    t := none, f := none, owners := none }

/-- The code of a stream (12.1). -/
def streamCode : Stream → Nat
  | .page => 0
  | .slide => 1

/-- The message whose event is being applied: its kind code and its source (R62). -/
structure Cause where
  kind : Nat
  src : Nat
  deriving DecidableEq, Repr

/-- A refusal's Fault (R62): the kind and source of the refused message and the arguments its rule names. DESIGN CHOICE
(log 50): the source is held as the station number 0 to 7, and not as the source byte of the frame. -/
def FaultKind.refusal (k : FaultKind) (c : Cause) (p q : Option Nat) : FaultBody :=
  { k.plain with refusedKind := some c.kind, refusedSource := some c.src, p := p, q := q }

/-- The refusal of a replicated message: the speaker queues the Fault, the others queue nothing (R12, R62). -/
def Station.refuse (k : FaultKind) (c : Cause) (p q : Option Nat) (st : Station) : Station :=
  if st.isSpeaker then st.enqueue (.fault (k.refusal c p q)) else st

/-- Fault (Prepare Overdue) for a stream, its change number and the missing owners (R57, R94). -/
def overdueFault (stream : Stream) (change : Half) (missing : Nat) : FaultBody :=
  { FaultKind.prepareOverdue.plain with streamOrForm := some (streamCode stream), p := some change.toNat, owners := some missing }

/-- Fault (Late Switch): stream, change number, target and frame count at application (R59). -/
def lateFault (stream : Stream) (change : Half) (target frame : Long) : FaultBody :=
  { FaultKind.lateSwitch.plain with
    streamOrForm := some (streamCode stream), p := some change.toNat, t := some target.toNat, f := some frame.toNat }

/-- Fault (Store Exhausted): asset, strip, form, units asked and free units (R117). -/
def exhaustedFault (k : Strip) (inOpen : Bool) (units free : Nat) : FaultBody :=
  { FaultKind.storeExhausted.plain with
    streamOrForm := some (if inOpen then 1 else 0), p := some k.asset, q := some k.index, t := some units, f := some free }

/-- Fault (Strip Broken): asset and strip (R113). -/
def brokenFault (k : Strip) : FaultBody := { FaultKind.stripBroken.plain with p := some k.asset, q := some k.index }

/-- Fault (Frame Overrun): display page and frame count (R155). -/
def overrunFault (page : Option Nat) (frame : Long) : FaultBody :=
  { FaultKind.frameOverrun.plain with p := page, t := some frame.toNat }

/-- Fault (Check Busy): first asset and count of the refused Check (R136). -/
def checkBusyFault (first count : Nat) : FaultBody := { FaultKind.checkBusy.plain with p := some first, q := some count }

/-! ### Kind codes of the messages (R188) -/

def kindSceneReset : Nat := 0x01
def kindLayout : Nat := 0x04
def kindPresent : Nat := 0x06
def kindClaim : Nat := 0x08
def kindSwitch : Nat := 0x0A
def kindExpire : Nat := 0x0C
def kindReady : Nat := 0x10
def kindKey : Nat := 0x18
def kindGo : Nat := 0x1A
def kindWordSet : Nat := 0x1C
def kindGuardSet : Nat := 0x20
def kindGuardFreeze : Nat := 0x21
def kindSlideAppend : Nat := 0x28
def kindSlideRemove : Nat := 0x29
def kindSlideClear : Nat := 0x2A
def kindSlidePlay : Nat := 0x2B
def kindSlidePause : Nat := 0x2C
def kindSlideStep : Nat := 0x2D
def kindSlideSeek : Nat := 0x2E
def kindCueSet : Nat := 0x30
def kindCueClear : Nat := 0x31
def kindCueHit : Nat := 0x32
def kindDefinePage : Nat := 0x40
def kindDefineButton : Nat := 0x41
def kindDefinePicture : Nat := 0x42
def kindDropPage : Nat := 0x43
def kindReport : Nat := 0x50
def kindFault : Nat := 0x52
def kindWant : Nat := 0x58
def kindAsk : Nat := 0x60
def kindAnswer : Nat := 0x61
def kindCheck : Nat := 0x62
def kindCheckDone : Nat := 0x63

end Sys2Proof.Machine
end

