-- ==== Sys2Proof/Machine/Placing.lean ====
section
/-! DEFINITION. Where assets fall in the band: placements (R13, R108), the strips of an asset that a placement puts in the
station's band (R52), and the role sets worked out from them (R114). -/

namespace Sys2Proof.Machine

/-- An asset's strip count: its height divided by 8, rounded up (R103). -/
def stripCount (height : Nat) : Nat := (height + 7) / 8

/-- The key of an asset record. -/
def Asset.key (a : Asset) : Strip := { asset := a.id, index := 0 }

/-- The present record of an asset (R104). -/
def Store.asset (s : Store) (a : Nat) : Option Asset := Table.find Asset.key { asset := a, index := 0 } s.assets

/-- The row after the last one a placement may draw in: the bottom of the screen or of the rectangle (R52). -/
def Placement.bottom (g : Geometry) (pl : Placement) : Nat :=
  match pl.clip with
  | none => g.height
  | some r => min g.height (r.y + r.height)

/-- Some column of the placement is drawn (R52). -/
def Placement.columnsDrawn (g : Geometry) (pl : Placement) : Bool :=
  decide (pl.x < g.width) && (match pl.clip with
    | none => true
    | some r => decide (pl.x < r.x + r.width))

/-- Strip `k` of an asset of this height, so placed, has a drawn row in the band (R52). -/
def Placement.reaches (g : Geometry) (pl : Placement) (height k : Nat) : Bool :=
  decide (max (pl.y + 8 * k) g.first
    < min (min (pl.y + 8 * k + 8) (pl.y + height)) (min (pl.bottom g) g.last))

/-- The strips of an asset that a placement puts in the band, in ascending order (R52). -/
def Placement.strips (g : Geometry) (pl : Placement) (height : Nat) : List Nat :=
  if pl.columnsDrawn g then (List.range (stripCount height)).filter (fun k => pl.reaches g height k) else []

/-- The placements of a button's appearances, clipped to its rectangle (R52, R108). -/
def buttonPlacements (p : Nat) (b : Button) : List Placement :=
  [b.normal, b.selected, b.activated.getD b.selected].map
    (fun a => { asset := a, x := b.rect.x, y := b.rect.y, clip := some b.rect, maker := .button p b.id })

/-- The placement of a picture. -/
def picturePlacement (p : Nat) (o : Picture) : Placement :=
  { asset := o.asset, x := o.x, y := o.y, clip := none, maker := .picture p o.id }

/-- The placement of a page's background, when it is an asset. -/
def backgroundPlacements (p : Nat) (h : Header) : List Placement :=
  match h.background with
  | .colour _ => []
  | .asset a x y => [{ asset := a, x := x, y := y, clip := none, maker := .background p }]

/-- Every placement that a page makes (R52). -/
def pagePlacements (p : Nat) (b : PageBody) : List Placement :=
  backgroundPlacements p b.header ++ b.pictures.map (picturePlacement p) ++ b.buttons.flatMap (buttonPlacements p)

/-- The placement of a slide entry (R108). -/
def slidePlacement (c : Content) : Placement := { asset := c.asset, x := c.x, y := c.y, clip := none, maker := .slide }

/-- The page that made a placement. -/
def Maker.page : Maker → Option Nat
  | .background p => some p
  | .picture p _ => some p
  | .button p _ => some p
  | .slide => none

/-- A role set with one placement's strips added, or the placement kept as unresolved when the asset has no record
(R52). -/
def RoleSet.addPlacement (g : Geometry) (s : Store) (r : RoleSet) (pl : Placement) : RoleSet :=
  match s.asset pl.asset with
  | none => if pl.columnsDrawn g then { r with unresolved := r.unresolved ++ [pl] } else r
  | some a =>
    { r with strips := (pl.strips g a.height).foldl (fun l k => Strip.insert { asset := pl.asset, index := k } l) r.strips }

/-- The band's strips of a list of placements (R52, R114). -/
def Store.roleSet (g : Geometry) (s : Store) (pls : List Placement) : RoleSet :=
  pls.foldl (RoleSet.addPlacement g s) RoleSet.empty

/-- The assets a role set names as unresolved, in ascending order. -/
def RoleSet.unresolvedAssets (r : RoleSet) : List Nat := Stations.sort (r.unresolved.map Placement.asset)

/-- The role set with an asset, whose record is now present, resolved (R52, R104). -/
def RoleSet.resolve (g : Geometry) (s : Store) (a : Nat) (r : RoleSet) : RoleSet :=
  (r.unresolved.filter (fun pl => pl.asset == a)).foldl (RoleSet.addPlacement g s)
    { r with unresolved := r.unresolved.filter (fun pl => pl.asset != a) }

/-- The strip is needed: a placement of its asset puts one of its drawn rows in the band (R108). DESIGN CHOICE (log 43): the
placements alone decide, and a role set that outlives its placement makes no strip needed. -/
def Store.needed (g : Geometry) (s : Store) (k : Strip) : Bool :=
  match s.asset k.asset with
  | none => false
  | some a =>
    s.placements.any (fun pl => pl.asset == k.asset && pl.columnsDrawn g && pl.reaches g a.height k.index)

/-- The strip's asset has a placement (R108). -/
def Store.placed (s : Store) (k : Strip) : Bool := s.placements.any (fun pl => pl.asset == k.asset)

end Sys2Proof.Machine
end

