-- ==== Sys2Proof/Machine/Operands.lean ====
section
/-! DEFINITION. The bodies of messages read into records: the codes of 12_formats_and_worked_sequences.md, the absent
values of section 4.3 and the range tests of R3, R6 to R9, R15, R69, R79, R80, R97 and R176. A body that fails its
rule's range test reads as none. -/

namespace Sys2Proof.Machine

/-- A word effect (R15): none when its kind, word or arguments are out of range. -/
def readEffect (e : RawEffect) : Option WordEffect :=
  if 7 < e.word then none
  else match e.kind with
    | 0 => if e.place ≤ 15 then some (.setBit e.word e.place) else none
    | 1 => if e.place ≤ 15 then some (.clearBit e.word e.place) else none
    | 2 => if e.place ≤ 15 then some (.toggleBit e.word e.place) else none
    | 3 => if e.place ≤ 3 ∧ e.value ≤ 15 then some (.putDigit e.word e.place e.value) else none
    | 4 => some (.takeEntry e.word)
    | _ => none

/-- A list of word effects: none when one of them is invalid. -/
def readEffects : List RawEffect → Option (List WordEffect)
  | [] => some []
  | e :: l => do
    let w ← readEffect e
    let ws ← readEffects l
    pure (w :: ws)

/-- A value that is in range, or none. -/
def within (ok : Bool) (n : Nat) : Option Nat := if ok then some n else none

/-- An optional field that, when present, must be in range. -/
def readOptional (o : Option Nat) (ok : Nat → Bool) : Option (Option Nat) :=
  match o with
  | none => some none
  | some n => if ok n then some (some n) else none

/-- A placement's position (R3). -/
def inScreen (x y : Nat) : Bool := decide (x ≤ 3839) && decide (y ≤ 2159)

/-- An asset ID (section 4.4). -/
def isAsset (n : Nat) : Bool := decide (n ≤ 1023)

/-- The background of a Define Page: the colour when the asset is absent (12.1). -/
def readBackground (b : DefinePageBody) : Option Background :=
  match optionalHalf b.asset with
  | none => some (.colour b.colour)
  | some a => if isAsset a && inScreen b.x b.y then some (.asset a b.x b.y) else none

/-- The on-timeout action (R3, R7). -/
def readOnTimeout (code page : Nat) : Option OnTimeout :=
  match code with
  | 0 => some .none
  | 1 => if page ≤ 63 then some (.go page) else none
  | 2 => some .activateSelected
  | _ => none

/-- The entry effect of a Define Page: a kind byte of 0xFF makes it absent (12.1). -/
def readEntryEffect (e : RawEffect) : Option (Option WordEffect) :=
  if e.kind = 255 then some none else (readEffect e).map some

/-- The header of a Define Page: check 5 of R6, with the requirements of R7. -/
def readHeader (b : DefinePageBody) : Option Header := do
  let background ← readBackground b
  let onTimeout ← readOnTimeout b.onTimeout b.goPage
  let effect ← readEntryEffect b.entry
  let buttons ← within (decide (b.buttons ≤ 32)) b.buttons
  let pictures ← within (decide (b.pictures ≤ 16)) b.pictures
  let level ← within (decide (b.guardLevel ≤ 7)) b.guardLevel
  let default ← readOptional (optionalByte b.default) (fun d => decide (d < b.buttons))
  pure { background := background, default := default, timeout := b.timeout, onTimeout := onTimeout
         guardLevel := level, entryEffect := effect, buttons := buttons, pictures := pictures }

/-- The enable condition of a Define Button: a word byte of 0xFF makes it absent (12.1). DESIGN CHOICE (log 47): the sense of an
absent condition is not tested. -/
def readCondition (b : DefineButtonBody) : Option (Option Condition) :=
  match optionalByte b.enableWord with
  | none => some none
  | some w =>
    if w ≤ 7 ∧ b.sense ≤ 1 then
      some (some { word := w, mask := b.mask, value := b.value, differ := decide (b.sense = 1) })
    else none

/-- The button of a Define Button on a page that declares `declared` buttons: check 5 of R6 over the fields of R8. -/
def readButton (declared : Nat) (b : DefineButtonBody) : Option Button := do
  let _ ← within (inScreen b.x b.y && decide (1 ≤ b.width) && decide (b.width ≤ 3840)
    && decide (1 ≤ b.height) && decide (b.height ≤ 2160)) 0
  let normal ← within (isAsset b.normal) b.normal
  let selected ← within (isAsset b.selected) b.selected
  let activated ← readOptional (optionalHalf b.activated) isAsset
  let up ← readOptional (optionalByte b.up) (fun n => decide (n < declared))
  let down ← readOptional (optionalByte b.down) (fun n => decide (n < declared))
  let left ← readOptional (optionalByte b.left) (fun n => decide (n < declared))
  let right ← readOptional (optionalByte b.right) (fun n => decide (n < declared))
  let condition ← readCondition b
  let number ← readOptional (optionalByte b.number) (fun n => decide (1 ≤ n) && decide (n ≤ 99))
  let goPage ← readOptional (optionalByte b.goPage) (fun n => decide (n ≤ 63))
  let report ← readOptional (optionalHalf b.report) (fun n => decide (1 ≤ n))
  let _ ← within (decide (b.count = b.effects.length) && decide (b.count ≤ 4)) 0
  let effects ← readEffects b.effects
  pure { id := b.button, rect := { x := b.x, y := b.y, width := b.width, height := b.height }
         normal := normal, selected := selected, activated := activated
         up := up, down := down, left := left, right := right, condition := condition
         number := number, effects := effects, report := report, goPage := goPage }

/-- The picture of a Define Picture (R9). -/
def readPicture (b : DefinePictureBody) : Option Picture :=
  if isAsset b.asset && inScreen b.x b.y then some { id := b.picture, asset := b.asset, x := b.x, y := b.y } else none

/-- The code of a Guard Set: four four-bit digits, first digit in the most significant four bits (12.1). -/
def codeDigits (code : Half) : List Nat :=
  [code.toNat / 4096 % 16, code.toNat / 256 % 16, code.toNat / 16 % 16, code.toNat % 16]

/-- The code of a Guard Set, 0xFFFF absent; none when a digit is above 9 (R69). -/
def readCode (code : Half) : Option (Option (List Nat)) :=
  if code = 0xFFFF then some none
  else if (codeDigits code).all (fun d => decide (d ≤ 9)) then some (some (codeDigits code))
  else none

/-- A transition kind (12.1). -/
def readTransition (code : Nat) : Option TransitionKind :=
  match code with
  | 0 => some .cut
  | 1 => some .fade
  | 2 => some .wipeDown
  | _ => none

/-- The entry of a Slide Append: the ranges of R79. -/
def readSlide (b : AppendBody) : Option Slide := do
  let kind ← readTransition b.kind
  let _ ← within (isAsset b.asset && inScreen b.x b.y && decide (b.length ≤ 60)) 0
  pure { content := { asset := b.asset, x := b.x, y := b.y, fill := b.fill }, duration := b.duration
         kind := kind, length := b.length, tag := optionalByte b.tag }

/-- A cue's effect: word and bit are read for Set Bit alone (12.1). -/
def readCueEffect (b : CueSetBody) : Option CueEffect :=
  match b.effect with
  | 0 => some .pause
  | 1 => some .reportOnly
  | 2 => if b.word ≤ 7 ∧ b.bit ≤ 15 then some (.setBit b.word b.bit) else none
  | _ => none

/-- The cue of a Cue Set, armed (R97): a Forced cue's trigger is at least 1, a Tagged cue's a tag of 0 to 254. -/
def readCue (b : CueSetBody) : Option Cue := do
  let effect ← readCueEffect b
  match b.kind with
  | 0 => if 1 ≤ b.trigger then some { forced := true, trigger := b.trigger, effect := effect, armed := true } else none
  | 1 => if b.trigger ≤ 254 then some { forced := false, trigger := b.trigger, effect := effect, armed := true } else none
  | _ => none

/-- The first rows of a Layout's bands after the first: multiples of 8, rising, below the screen height (R176). -/
def bandsRise (height last : Nat) : List Band → Bool
  | [] => true
  | b :: l => b.first % 8 == 0 && decide (last < b.first) && decide (b.first < height) && bandsRise height b.first l

/-- The first band of a Layout begins at row 0 (R176). -/
def bandsStart (height : Nat) : List Band → Bool
  | [] => false
  | b :: l => b.first == 0 && bandsRise height 0 l

/-- Each station number at most once (R176). -/
def distinct : List Nat → Bool
  | [] => true
  | n :: l => !l.contains n && distinct l

/-- The tests of R176. -/
def layoutValid (b : LayoutBody) : Bool :=
  decide (720 ≤ b.width) && decide (b.width ≤ 3840) && b.width % 8 == 0
    && decide (480 ≤ b.height) && decide (b.height ≤ 2160) && b.height % 8 == 0
    && decide (1 ≤ b.count) && decide (b.count ≤ 4) && b.count == b.bands.length
    && b.bands.all (fun d => decide (2 ≤ d.owner) && decide (d.owner ≤ 5)) && distinct (b.bands.map Band.owner)
    && bandsStart b.height b.bands && decide (8 ≤ b.prepareLimit) && decide (b.prepareLimit ≤ 255)

/-- What a valid Layout fixes (R177). -/
def layoutOf (b : LayoutBody) : Layout :=
  { width := b.width, height := b.height, prepareLimit := b.prepareLimit, placeholder := b.placeholder, bands := b.bands }

/-- The stream a code names (12.1). -/
def readStream (code : Nat) : Option Stream :=
  match code with
  | 0 => some .page
  | 1 => some .slide
  | _ => none

/-- The button record fields a direction key follows (R31). -/
inductive Direction where
  | up
  | down
  | left
  | right
  deriving DecidableEq, Repr

/-- A button's link in a direction. -/
def Button.link (b : Button) : Direction → Option Nat
  | .up => b.up
  | .down => b.down
  | .left => b.left
  | .right => b.right

/-- The keys (R24). -/
inductive KeyAction where
  | digit (d : Nat)
  | move (d : Direction)
  | enter
  | clear
  /-- a code that names no key -/
  | nothing
  deriving DecidableEq, Repr

/-- The key codes of R24. -/
def readKey (code : Nat) : KeyAction :=
  if code ≤ 9 then .digit code
  else match code with
    | 0x10 => .move .up
    | 0x11 => .move .down
    | 0x12 => .move .left
    | 0x13 => .move .right
    | 0x14 => .enter
    | 0x15 => .clear
    | _ => .nothing

end Sys2Proof.Machine
end

