-- ==== Sys2Proof/Machine/Scene.lean ====
section
/-! DEFINITION. The scene replica's own operations: scene words and enabled states (R14 to R18), the selection (R19,
R20, R26, R30 to R32), the numeric entry (R27, R28, R34), the page table (R3 to R11) and the ready sets. Each is a
function of the replica alone, so it is the same in every Running station (R1). -/

namespace Sys2Proof.Machine

/-! ### Scene words -/

/-- The numeric entry read as a decimal number, oldest digit most significant; an empty entry gives 0 (R15, R27). -/
def entryValue (entry : List Nat) : Nat := entry.foldl (fun n d => 10 * n + d) 0

/-- Scene word `w`. -/
def wordAt (words : List Half) (w : Nat) : Half := words.getD w 0

/-- Digit `d` of a word takes the value; the other three digits are kept (R15). -/
def putDigit (v : Half) (d value : Nat) : Half :=
  (v &&& ~~~((0xF : Half) <<< (4 * d))) ||| ((BitVec.ofNat 16 (value % 16)) <<< (4 * d))

/-- The scene words after a word effect (R15). -/
def applyEffect (entry : List Nat) (words : List Half) : WordEffect → List Half
  | .setBit w b => words.set w (wordAt words w ||| ((1 : Half) <<< b))
  | .clearBit w b => words.set w (wordAt words w &&& ~~~((1 : Half) <<< b))
  | .toggleBit w b => words.set w (wordAt words w ^^^ ((1 : Half) <<< b))
  | .putDigit w d value => words.set w (putDigit (wordAt words w) d value)
  | .takeEntry w => words.set w (BitVec.ofNat 16 (entryValue entry))

/-- The scene words after a list of effects, each applied to the words as the effects before it left them (R15). -/
def applyEffects (entry : List Nat) (words : List Half) (effects : List WordEffect) : List Half :=
  effects.foldl (applyEffect entry) words

/-! ### Enabled states and the selection -/

/-- Whether an enable condition holds of the words (R17). -/
def conditionHolds (words : List Half) (c : Condition) : Bool :=
  if c.differ then decide (wordAt words c.word &&& c.mask ≠ c.value) else decide (wordAt words c.word &&& c.mask = c.value)

/-- Whether a button is enabled: a button without an enable condition is (R17). -/
def enabledBy (words : List Half) (b : Button) : Bool :=
  match b.condition with
  | none => true
  | some c => conditionHolds words c

/-- The record of page `p`, when it is Defining or Complete. -/
def Scene.body (sc : Scene) (p : Nat) : Option PageBody :=
  match sc.pages.getD p .undefined with
  | .undefined => none
  | .defining b => some b
  | .complete b => some b

/-- The record of page `p`, when it is Complete. -/
def Scene.completeBody (sc : Scene) (p : Nat) : Option PageBody :=
  match sc.pages.getD p .undefined with
  | .undefined => none
  | .defining _ => none
  | .complete b => some b

/-- The record of the shown page. -/
def Scene.shownBody (sc : Scene) : Option PageBody := sc.shown.bind sc.body

/-- The stored enabled state of button `i` of the shown page. -/
def enabledAt (live : List Live) (i : Nat) : Bool :=
  match live[i]? with
  | none => false
  | some l => l.enabled

/-- The first index, from `i`, whose button satisfies `f`. -/
def firstIndex (f : Live → Bool) : Nat → List Live → Option Nat
  | _, [] => none
  | i, l :: ls => if f l then some i else firstIndex f (i + 1) ls

/-- Every button Normal but the target, which takes the state. -/
def markOnly (target : Option Nat) (state : ButtonState) : Nat → List Live → List Live
  | _, [] => []
  | i, l :: ls => { l with state := if target = some i then state else .normal } :: markOnly target state (i + 1) ls

/-- The button that is Selected. -/
def Scene.selectedButton (sc : Scene) : Option Nat := firstIndex (fun l => l.state == .selected) 0 sc.live

/-- The button that is Activated. -/
def Scene.activatedButton (sc : Scene) : Option Nat := firstIndex (fun l => l.state == .activated) 0 sc.live

/-- The button that is Selected or Activated (R30, R184). -/
def Scene.chosenButton (sc : Scene) : Option Nat := firstIndex (fun l => l.state != .normal) 0 sc.live

/-- The page's default choice: its default button if enabled, otherwise the lowest-numbered enabled button, otherwise
none (R19). -/
def Scene.defaultChoice (sc : Scene) : Option Nat :=
  match sc.shownBody.bind (fun b => b.header.default) with
  | some d => if enabledAt sc.live d then some d else firstIndex Live.enabled 0 sc.live
  | none => firstIndex Live.enabled 0 sc.live

/-- The default choice made Selected, every other button Normal (R19, R20). -/
def Scene.selectDefault (sc : Scene) : Scene := { sc with live := markOnly sc.defaultChoice .selected 0 sc.live }

/-- The enabled states of the shown page's buttons decided again (R18). -/
def Scene.decideEnabled (sc : Scene) : Scene :=
  match sc.shownBody with
  | none => sc
  | some b => { sc with live := List.zipWith (fun b l => { l with enabled := enabledBy sc.words b }) b.buttons sc.live }

/-- The reselect rule: a Selected button that is disabled gives way to the default choice (R20). -/
def Scene.reselect (sc : Scene) : Scene :=
  match sc.selectedButton with
  | none => sc
  | some i => if enabledAt sc.live i then sc else sc.selectDefault

/-- What ends an event that changes a scene word: the decision of R18 and the reselect rule. -/
def Scene.recompute (sc : Scene) : Scene := sc.decideEnabled.reselect

/-- A scene word set whole (R16). -/
def Scene.setWord (sc : Scene) (w : Nat) (v : Half) : Scene := { sc with words := sc.words.set w v }.recompute

/-- A list of effects applied in one event, the enabled states decided once at its end (R15, R18). -/
def Scene.runEffects (sc : Scene) (effects : List WordEffect) : Scene :=
  { sc with words := applyEffects sc.entry sc.words effects }.recompute

/-- An Activated button returned to Selected, or, when it is disabled, set Normal with the default choice made
Selected (R26, R42). -/
def Scene.closeActivation (sc : Scene) : Scene :=
  match sc.activatedButton with
  | none => sc
  | some i => if enabledAt sc.live i then { sc with live := markOnly (some i) .selected 0 sc.live } else sc.selectDefault

/-- The walk of a direction key (R31): hops left, current button, buttons visited. -/
def walk (buttons : List Button) (live : List Live) (d : Direction) : Nat → Nat → List Nat → Option Nat
  | 0, _, _ => none
  | hops + 1, current, visited =>
    match (buttons.find? (fun b => b.id == current)).bind (fun b => b.link d) with
    | none => none
    | some q =>
      if visited.contains q then none
      else if enabledAt live q then some q
      else walk buttons live d hops q (q :: visited)

/-- A direction key: `origin` is the button Selected or Activated when the Key was applied (R30 to R32). -/
def Scene.move (sc : Scene) (origin : Option Nat) (d : Direction) : Scene :=
  match origin with
  | none => sc.selectDefault
  | some o =>
    match walk ((sc.shownBody.map PageBody.buttons).getD []) sc.live d 32 o [o] with
    | none => sc
    | some t => { sc with live := markOnly (some t) .selected 0 sc.live }

/-! ### The numeric entry -/

/-- A digit appended, the oldest dropped beyond four (R28). -/
def appendDigit (entry : List Nat) (d : Nat) : List Nat := if 4 ≤ entry.length then entry.tail ++ [d] else entry ++ [d]

/-- The lowest-numbered enabled button whose numeric number is the entry's value (R33, R34). -/
def Scene.numberedButton (sc : Scene) : Option Nat :=
  if sc.entry = [] then none
  else (((sc.shownBody.map PageBody.buttons).getD []).find?
    (fun b => decide (b.number = some (entryValue sc.entry)) && enabledAt sc.live b.id)).map Button.id

/-! ### The page table -/

/-- A page is in use while it is the shown page, the pending page or the leaving page (R5). -/
def Scene.inUse (sc : Scene) (p : Nat) : Bool :=
  decide (sc.shown = some p) || decide (sc.pendingPage = some p) || decide (sc.leaving = some p)

/-- Every declared button ID and picture ID is present (R10). -/
def PageBody.whole (b : PageBody) : Bool :=
  (List.range b.header.buttons).all (fun i => b.buttons.any (fun o => o.id == i))
    && (List.range b.header.pictures).all (fun i => b.pictures.any (fun o => o.id == i))

/-- A page with these contents: Complete when whole, else Defining (R7, R10). -/
def Page.ofBody (b : PageBody) : Page := if b.whole then .complete b else .defining b

/-- A button list with this record at the position its ID gives, in place of any record with that ID (R8). -/
def putButton (o : Button) : List Button → List Button
  | [] => [o]
  | q :: l => if q.id = o.id then o :: l else if o.id < q.id then o :: q :: l else q :: putButton o l

/-- A picture list with this record at the position its ID gives (R9). -/
def putPicture (o : Picture) : List Picture → List Picture
  | [] => [o]
  | q :: l => if q.id = o.id then o :: l else if o.id < q.id then o :: q :: l else q :: putPicture o l

/-- Checks 1 and 2 of R6. -/
def Scene.checkPage (sc : Scene) (p : Nat) : Except FaultKind Unit :=
  if 63 < p then .error .badDefinition else if sc.inUse p then .error .pageBusy else .ok ()

/-- A Define Page: the page it makes, or the Fault of the check it fails (R6, R7). -/
def Scene.definePage (sc : Scene) (b : DefinePageBody) : Except FaultKind PageBody := do
  sc.checkPage b.page
  match readHeader b with
  | none => .error .badDefinition
  | some h => .ok { header := h, buttons := [], pictures := [] }

/-- A Define Button: the page it makes and its record, or the Fault of the check it fails (R6, R8). -/
def Scene.defineButton (sc : Scene) (b : DefineButtonBody) : Except FaultKind (PageBody × Button) := do
  sc.checkPage b.page
  match sc.body b.page with
  | none => .error .badDefinition
  | some pg =>
    if pg.header.buttons ≤ b.button then .error .badDefinition
    else match readButton pg.header.buttons b with
      | none => .error .badDefinition
      | some o => .ok ({ pg with buttons := putButton o pg.buttons }, o)

/-- A Define Picture: the page it makes and its record, or the Fault of the check it fails (R6, R9). -/
def Scene.definePicture (sc : Scene) (b : DefinePictureBody) : Except FaultKind (PageBody × Picture) := do
  sc.checkPage b.page
  match sc.body b.page with
  | none => .error .badDefinition
  | some pg =>
    if pg.header.pictures ≤ b.picture then .error .badDefinition
    else match readPicture b with
      | none => .error .badDefinition
      | some o => .ok ({ pg with pictures := putPicture o pg.pictures }, o)

/-- A page record replaced. -/
def Scene.setPage (sc : Scene) (p : Nat) (pg : Page) : Scene := { sc with pages := sc.pages.set p pg }

/-! ### A page switch in the replica (R58) -/

/-- Steps 1 and 2 and the emptying of step 3 of R58: the leaving page, the shown page, no pending page. -/
def Scene.showPage (sc : Scene) (p : Nat) : Scene :=
  { sc with
    leaving := if sc.shown = some p then none else sc.shown
    shown := some p
    pendingPage := none
    pageReady := [] }

/-- Step 5 of R58: the enabled states decided, every button Normal, the default choice Selected. -/
def Scene.enterPage (sc : Scene) : Scene :=
  { sc with
    live := ((sc.shownBody.map PageBody.buttons).getD []).map
      (fun b => { enabled := enabledBy sc.words b, state := .normal }) }.selectDefault

/-- Step 6 of R58: the page's entry effect, if it has one. -/
def Scene.entryEffect (sc : Scene) : Scene :=
  match sc.shownBody.bind (fun b => b.header.entryEffect) with
  | none => sc
  | some e => sc.runEffects [e]

/-- Step 7 of R58: the entry emptied, and the guard's wait dropped if the page is not its prompt page (R77). -/
def Scene.leaveEntry (sc : Scene) (p : Nat) : Scene :=
  { sc with
    entry := []
    guard := if p = sc.guard.prompt then sc.guard else { sc.guard with wait := none } }

/-- The activity number raised by one, wrapping (R21). -/
def Scene.raiseActivity (sc : Scene) : Scene := { sc with activity := sc.activity + 1 }

/-- The replica's part of an applied page Switch (R58). -/
def Scene.switchPage (sc : Scene) (p : Nat) : Scene :=
  ((((sc.showPage p).enterPage).entryEffect).leaveEntry p).raiseActivity

end Sys2Proof.Machine
end

