-- ==== Sys2Proof/Machine/Want.lean ====
section
/-! DEFINITION. The Want list (R119, R121) as a list of ranges in the order they were made. -/

namespace Sys2Proof.Machine

/-- The range holds the whole run. -/
def WantRange.covers (a f e : Nat) (r : WantRange) : Bool :=
  r.asset == a && (match r.span with
    | none => true
    | some (f', e') => decide (f' ≤ f) && decide (e ≤ e'))

/-- The range overlaps the run or lies next to it. -/
def WantRange.touches (a f e : Nat) (r : WantRange) : Bool :=
  r.asset == a && (match r.span with
    | none => false
    | some (f', e') => decide (f' ≤ e + 1) && decide (f ≤ e' + 1))

/-- The first and last strip of a run grown over a range. -/
def WantRange.grow (r : WantRange) (run : Nat × Nat) : Nat × Nat :=
  match r.span with
  | none => run
  | some (f', e') => (min run.1 f', max run.2 e')

/-- The first range that satisfies `f` replaced by `new`, every other such range removed. -/
def replaceFirst (f : WantRange → Bool) (new : WantRange) : List WantRange → List WantRange
  | [] => []
  | r :: l => if f r then new :: l.filter (fun q => !f q) else r :: replaceFirst f new l

/-- A run joins the list (R119): left out when covered, merged with the ranges it touches in the place of the oldest,
else a new range at the end when there is room. -/
def addRun (a f e : Nat) (l : List WantRange) : List WantRange :=
  if l.any (WantRange.covers a f e) then l
  else if l.any (WantRange.touches a f e) then
    replaceFirst (WantRange.touches a f e)
      { asset := a, span := some ((l.filter (WantRange.touches a f e)).foldl (fun run r => r.grow run) (f, e)) } l
  else if l.length < Config.wantLimit then l ++ [{ asset := a, span := some (f, e) }]
  else l

/-- A whole-asset range joins the list, in the place of every range of its asset (R119). -/
def addWhole (a : Nat) (l : List WantRange) : List WantRange :=
  if l.any (fun r => r.asset == a && r.span == none) then l
  else if l.any (fun r => r.asset == a) then replaceFirst (fun r => r.asset == a) { asset := a, span := none } l
  else if l.length < Config.wantLimit then l ++ [{ asset := a, span := none }]
  else l

/-- Strips in order joined into runs: asset, first strip, last strip (R119). -/
def runsOf : List Strip → List (Nat × Nat × Nat)
  | [] => []
  | k :: l =>
    match runsOf l with
    | [] => [(k.asset, k.index, k.index)]
    | (a, f, e) :: rest =>
      if a = k.asset ∧ f = k.index + 1 then (a, k.index, e) :: rest
      else (k.asset, k.index, k.index) :: (a, f, e) :: rest

/-- Strips in order join the list as runs. -/
def addStrips (strips : List Strip) (l : List WantRange) : List WantRange :=
  (runsOf strips).foldl (fun l run => addRun run.1 run.2.1 run.2.2 l) l

/-- What is left of a range when the strips `f` to `e` leave it; a whole-asset range stays. -/
def WantRange.cut (a f e : Nat) (r : WantRange) : List WantRange :=
  match r.span with
  | none => [r]
  | some (f', e') =>
    if r.asset ≠ a ∨ e < f' ∨ e' < f then [r]
    else (if f' < f then [{ asset := a, span := some (f', f - 1) }] else [])
      ++ (if e < e' then [{ asset := a, span := some (e + 1, e') }] else [])

/-- The strips `f` to `e` leave the list; a range split at 64 ranges loses its later part (R119). -/
def removeSpan (a f e : Nat) (l : List WantRange) : List WantRange :=
  l.flatMap (fun r => if Config.wantLimit ≤ l.length then (r.cut a f e).take 1 else r.cut a f e)

/-- A strip leaves the list. -/
def removeStrip (k : Strip) (l : List WantRange) : List WantRange := removeSpan k.asset k.index k.index l

/-- The whole-asset range of an asset leaves the list (R104). -/
def removeWhole (a : Nat) (l : List WantRange) : List WantRange := l.filter (fun r => !(r.asset == a && r.span == none))

/-- Every strip of an asset leaves the list (R121). -/
def removeAsset (a : Nat) (l : List WantRange) : List WantRange := l.filter (fun r => r.asset != a)

/-- The strips that a Want covers leave the list: count 0 covers every strip of the asset (R121). DESIGN CHOICE (log 44): a
count above 16 covers that many strips. -/
def removeWanted (b : WantBody) (l : List WantRange) : List WantRange :=
  if b.count = 0 then removeAsset b.asset l else removeSpan b.asset b.first (b.first + b.count - 1) l

/-- The oldest range whose asset has no Want outstanding, the Want it gives, and the list that is left (R120). -/
def takeWant (outstanding : List Nat) : List WantRange → Option (WantBody × List WantRange)
  | [] => none
  | r :: l =>
    if outstanding.contains r.asset then (takeWant outstanding l).map (fun (w, l') => (w, r :: l'))
    else match r.span with
      | none => some ({ asset := r.asset, first := 0, count := 0 }, l)
      | some (f, e) =>
        if e < f + Config.wantChunk then some ({ asset := r.asset, first := f, count := e + 1 - f }, l)
        else some ({ asset := r.asset, first := f, count := Config.wantChunk },
          { asset := r.asset, span := some (f + Config.wantChunk, e) } :: l)

end Sys2Proof.Machine
end

