-- ==== Sys2Proof/Machine/Store.lean ====
section
/-! DEFINITION. The strip directory and the store (R106, R107), pins and role sets (R114, R115), failures (R110, R113),
room and eviction (R116, R117). Units are taken and given up in three operations only: `setPacked`, `setOpened` and
`dropOpened`. -/

namespace Sys2Proof.Machine

/-! ### Entries -/

def Store.findPacked (s : Store) (k : Strip) : Option Packed := Table.find Packed.id k s.packed

def Store.findOpened (s : Store) (k : Strip) : Option Opened := Table.find Opened.id k s.opened

/-- The number of role sets that name a strip (R114). -/
def Roles.pins (r : Roles) (k : Strip) : Nat :=
  ([r.display, r.shown, r.pending, r.currentSlide, r.pendingSlide, r.fading].filter (fun q => q.strips.contains k)).length

/-- A Packed entry made or set, with its pin count; the free-unit count follows (R106, R107, R114). -/
def Store.setPacked (e : Packed) (s : Store) : Store :=
  { s with
    packed := Table.put Packed.id { e with pins := s.roles.pins e.id } s.packed
    freeUnits := s.freeUnits + ((s.findPacked e.id).map Packed.units).getD 0 - e.units }

/-- An Open entry made or set, with its pin count; the free-unit count follows. -/
def Store.setOpened (e : Opened) (s : Store) : Store :=
  { s with
    opened := Table.put Opened.id { e with pins := s.roles.pins e.id } s.opened
    freeUnits := s.freeUnits + ((s.findOpened e.id).map Opened.units).getD 0 - e.units }

/-- An Open entry removed; its units are given up. -/
def Store.dropOpened (k : Strip) (s : Store) : Store :=
  { s with
    opened := Table.erase Opened.id k s.opened
    freeUnits := s.freeUnits + ((s.findOpened k).map Opened.units).getD 0 }

/-- The Packed entry of a strip, or the entry that a first arrival or failure makes. DESIGN CHOICE (log 49): the arrival
number of an entry that has never been Held is 0. -/
def Store.packedOrNew (s : Store) (k : Strip) : Packed :=
  (s.findPacked k).getD
    { id := k, state := .skipped, units := 0, pins := 0, failures := 0, arrival := 0, data := [], checkWord := 0 }

def Store.isHeld (s : Store) (k : Strip) : Bool :=
  match s.findPacked k with
  | none => false
  | some e => e.state == .held

/-- Broken: a Packed entry in state Bad whose receipt-failure count is 2 (R106). -/
def Store.isBroken (s : Store) (k : Strip) : Bool :=
  match s.findPacked k with
  | none => false
  | some e => e.state == .bad && decide (2 ≤ e.failures)

/-- Bad, Broken or not (R106). -/
def Store.isBad (s : Store) (k : Strip) : Bool :=
  match s.findPacked k with
  | none => false
  | some e => e.state == .bad

/-- The strip's Packed entry is Skipped or Bad: it is drawn in the placeholder colour, whatever its Open form (R148). -/
def Store.isSpoiled (s : Store) (k : Strip) : Bool :=
  match s.findPacked k with
  | none => false
  | some e => e.state != .held

/-- The strip's Open entry is Ready. -/
def Store.isReady (s : Store) (k : Strip) : Bool :=
  match s.findOpened k with
  | none => false
  | some e => e.ready

/-- The strip's Packed form is missing, Skipped or Bad, and it is not Broken: it joins the Want list (R53, R129). -/
def Store.isShort (s : Store) (k : Strip) : Bool := !s.isHeld k && !s.isBroken k

/-- Units of a Packed strip of this length (R107). -/
def packedUnits (length : Nat) : Nat := (length + Config.unitBytes - 1) / Config.unitBytes

/-- Units of an Open strip of an asset of this width (R107). -/
def openUnits (width : Nat) : Nat := (width * 32 + Config.unitBytes - 1) / Config.unitBytes

/-- The Packed entry made or set Skipped with 0 units, its receipt-failure count kept (R109). -/
def Store.skip (k : Strip) (s : Store) : Store :=
  s.setPacked { s.packedOrNew k with state := .skipped, units := 0, data := [], checkWord := 0 }

/-- The Packed entry made or set Held with its units and the next arrival number (R111, R112). -/
def Store.hold (k : Strip) (data : List Byte) (checkWord : Half) (s : Store) : Store :=
  let t := s.setPacked { s.packedOrNew k with
    state := .held, units := packedUnits data.length, arrival := s.arrivals, data := data, checkWord := checkWord }
  { t with arrivals := s.arrivals + 1 }

/-! ### Role sets (R114, R115) -/

/-- The role sets changed, and every entry's pin count with them (R115). -/
def Store.setRoles (f : Roles → Roles) (s : Store) : Store :=
  { s with
    roles := f s.roles
    packed := s.packed.map (fun e => { e with pins := (f s.roles).pins e.id })
    opened := s.opened.map (fun e => { e with pins := (f s.roles).pins e.id }) }

/-- The Want list changed. -/
def Store.withWants (f : List WantRange → List WantRange) (s : Store) : Store := { s with wants := f s.wants }

/-- The short strips of a list join the Want list as runs (R53, R119). -/
def Store.wantShort (strips : List Strip) (s : Store) : Store := s.withWants (addStrips (strips.filter s.isShort))

/-- A need computation's Wants: the short strips as runs, then the unresolved assets whole (R53, log 18). -/
def Store.wantSet (r : RoleSet) (s : Store) : Store :=
  (s.wantShort r.strips).withWants (fun l => r.unresolvedAssets.foldl (fun l a => addWhole a l) l)

/-- Some entry whose pin count was above zero is at zero now: the room-wait list is retried (R118). -/
def Store.unpinnedSince (before now : Store) : Bool :=
  before.packed.any (fun e => decide (0 < e.pins) && (match now.findPacked e.id with
      | none => false
      | some e' => e'.pins == 0))
    || before.opened.any (fun e => decide (0 < e.pins) && (match now.findOpened e.id with
      | none => false
      | some e' => e'.pins == 0))

/-! ### Failures (R110, R113) -/

/-- What follows a failure that brought a strip's receipt-failure count to `n`: a Want for a needed strip at the first;
at the second the strip is Broken, Fault (Strip Broken) is queued and the strip leaves the Want list. -/
def Blocks.afterFailure (g : Geometry) (k : Strip) (n : Nat) (b : Blocks) : Blocks :=
  if n = 1 then
    if b.store.needed g k then b.withStore (Store.withWants (addRun k.asset k.index k.index)) else b
  else (b.enqueue (.fault (brokenFault k))).withStore (Store.withWants (removeStrip k))

/-- The Packed entry made or set Bad with 0 units, its receipt-failure count raised by one (R110, R113). -/
def Store.setBad (k : Strip) (s : Store) : Store :=
  s.setPacked { s.packedOrNew k with
    state := .bad, units := 0, failures := (s.packedOrNew k).failures + 1, data := [], checkWord := 0 }

/-- A failed check word of a needed segment (R110). -/
def Blocks.failArrival (g : Geometry) (k : Strip) (b : Blocks) : Blocks :=
  (b.withStore (Store.setBad k)).afterFailure g k ((b.store.packedOrNew k).failures + 1)

/-- An Open entry still Decoding removed with its units (R113). -/
def Store.dropDecoding (k : Strip) (s : Store) : Store :=
  match s.findOpened k with
  | none => s
  | some e => if e.ready then s else s.dropOpened k

/-- A failure that the Decode Unit hands over: a decode or a Check failure of a Held strip (R113). -/
def Blocks.failStored (g : Geometry) (k : Strip) (b : Blocks) : Blocks :=
  (b.withStore (fun s => (s.setBad k).dropDecoding k)).afterFailure g k ((b.store.packedOrNew k).failures + 1)

/-! ### Room (R116, R117) -/

/-- The strip that the job in progress works on. -/
def Running.strip : Running → Strip
  | .page j => j.id
  | .batch j i _ => { asset := j.content.asset, index := i }
  | .check _ k => k

/-- The strip is pending in the batch. -/
def Batch.awaits (k : Strip) (b : Batch) : Bool :=
  b.content.asset == k.asset && (b.strips.getD []).contains (k.index, BatchStrip.pending)

/-- The strip is pending in a batch that is queued, suspended or in progress and not stopping. -/
def Decode.awaits (d : Decode) (k : Strip) : Bool :=
  (match d.batch with
    | none => false
    | some b => b.awaits k)
  || (match d.suspended with
    | none => false
    | some b => b.awaits k)
  || (match d.running with
    | some (.batch b _ false) => b.awaits k
    | _ => false)

/-- The Open candidates for eviction: Ready, not pinned, not worked on (R116). -/
def Store.openCandidates (working : Option Strip) (s : Store) : List Opened :=
  s.opened.filter (fun e => e.ready && e.pins == 0 && decide (working ≠ some e.id))

/-- The Packed candidates for eviction: Held, not pinned, not worked on (R116). -/
def Store.packedCandidates (working : Option Strip) (s : Store) : List Packed :=
  s.packed.filter (fun e => e.state == .held && e.pins == 0 && decide (working ≠ some e.id))

/-- The Open entry shown the longest ago, the distance taken back from the frame count modulo 2^32; of equals the first
in the directory's order (R116). -/
def earliestShown (frame : Long) : List Opened → Option Opened
  | [] => none
  | e :: l =>
    match earliestShown frame l with
    | none => some e
    | some f => if (frame - e.lastShown).toNat < (frame - f.lastShown).toNat then some f else some e

/-- The Packed entry with the lowest arrival number (R116). -/
def earliestArrived : List Packed → Option Packed
  | [] => none
  | e :: l =>
    match earliestArrived l with
    | none => some e
    | some f => if f.arrival.toNat < e.arrival.toNat then some f else some e

/-- A Packed entry evicted: Skipped with 0 units. A queued Page Prepare job for the strip is removed, and then, or when
a batch waits for the strip, the strip joins the Want list (R116). -/
def Blocks.evictPacked (k : Strip) (b : Blocks) : Blocks :=
  let wanted := b.decode.pageJobs.any (fun j => j.id == k) || b.decode.awaits k
  let c := (b.withStore (Store.skip k)).withDecode (fun d => { d with pageJobs := d.pageJobs.filter (fun j => j.id != k) })
  if wanted then c.withStore (Store.withWants (addRun k.asset k.index k.index)) else c

/-- The next eviction, Open entries before Packed ones (R116). -/
def Blocks.evictNext (working : Option Strip) (b : Blocks) : Option Blocks :=
  match earliestShown b.bc.frame (b.store.openCandidates working) with
  | some e => some (b.withStore (Store.dropOpened e.id))
  | none =>
    match earliestArrived (b.store.packedCandidates working) with
    | some e => some (b.evictPacked e.id)
    | none => none

/-- Evictions one at a time until `u` units are free. -/
def Blocks.evictUntil (working : Option Strip) (u : Nat) : Nat → Blocks → Blocks
  | 0, b => b
  | n + 1, b =>
    if u ≤ b.store.freeUnits then b
    else match b.evictNext working with
      | none => b
      | some c => Blocks.evictUntil working u n c

/-- The units that all candidates would give. -/
def Store.candidateUnits (working : Option Strip) (s : Store) : Nat :=
  (((s.openCandidates working).map Opened.units).sum) + (((s.packedCandidates working).map Packed.units).sum)

/-- Room for `u` units: granted, with evictions if need be, or refused with nothing evicted (R116). -/
def Blocks.findRoom (working : Option Strip) (u : Nat) (b : Blocks) : Option Blocks :=
  if u ≤ b.store.freeUnits then some b
  else if b.store.freeUnits + b.store.candidateUnits working < u then none
  else some (b.evictUntil working u
    ((b.store.openCandidates working).length + (b.store.packedCandidates working).length))

/-- A strip joins the room-wait list, each pair at most once (R117). -/
def Store.waitForRoom (k : Strip) (inOpen : Bool) (s : Store) : Store :=
  if s.roomWait.contains { id := k, inOpen := inOpen } then s
  else { s with roomWait := s.roomWait ++ [{ id := k, inOpen := inOpen }] }

/-- A refused request: the strip joins the room-wait list, and Fault (Store Exhausted) is queued unless the exhaustion
mark is set, which it then is (R117). -/
def Blocks.refuseRoom (k : Strip) (inOpen : Bool) (u : Nat) (b : Blocks) : Blocks :=
  let c := b.withStore (Store.waitForRoom k inOpen)
  if c.store.exhausted then c
  else (c.enqueue (.fault (exhaustedFault k inOpen u c.store.freeUnits))).withStore (fun s => { s with exhausted := true })

end Sys2Proof.Machine
end

