-- ==== Sys2Proof/Machine/Flags.lean ====
section
/-! DEFINITION. The flags and counts that an event raises beside its main effect: lateness and the late-switch count
(R59), the overrun flag and its report (R155), Link Silent and the head's objection count (R170, R171), the settling of
the head at a close (R170), and the flags' reading (R172). -/

namespace Sys2Proof.Machine

/-- The loop flag of a Slide Play; a byte other than 0 and 1 is out of range (R188, log 25). -/
def readFlag (n : Nat) : Option Bool :=
  match n with
  | 0 => some false
  | 1 => some true
  | _ => none

/-! ### Late switches (R59) -/

/-- Late: the frame count less the target, modulo 2^32, is below 2^31 (R59). -/
def isLate (frame target : Long) : Bool := decide ((frame - target).toNat < 2147483648)

/-- The late-switch count raised by one, stopping at 255 (R59). -/
def raiseLate (n : Nat) : Nat := if n < Config.lateLimit then n + 1 else n

/-- What a Switch applied late brings beside itself: the count raised and Fault (Late Switch); nothing when in time. -/
def Blocks.noteLate (stream : Stream) (change : Half) (target : Long) (b : Blocks) : Blocks :=
  if isLate b.bc.frame target then
    (b.withBc (fun c => { c with lateCount := raiseLate c.lateCount })).enqueue (.fault (lateFault stream change target b.bc.frame))
  else b

/-! ### Overrun (R155) -/

/-- A composition still in progress at a strobe: abandoned, the overrun flag set, and Fault (Frame Overrun) queued
unless the report mark is set, which it then is (R141 step 1, R155). -/
def Blocks.noteOverrun (b : Blocks) : Blocks :=
  match b.bc.composing with
  | none => b
  | some _ =>
    let c := b.withBc (fun c => { c with composing := none, overrun := true, overrunReported := true })
    if b.bc.overrunReported then c else c.enqueue (.fault (overrunFault b.bc.displayPage b.bc.frame))

/-! ### The head (R170, R171) -/

/-- Link Silent entered: the queue emptied, the head objection count 0, every outstanding Want ended (R171). -/
def Blocks.goSilent (b : Blocks) : Blocks :=
  (b.withLink (fun l => { l with silent := true, queue := [], objections := 0 })).withStore
    (fun s => { s with outstanding := [] })

/-- An objection met by the head: its count rises by one, and at 16 the station enters Link Silent (R170, R171). -/
def Blocks.objected (b : Blocks) : Blocks :=
  if Config.objectionLimit ≤ b.link.objections + 1 then b.goSilent
  else b.withLink (fun l => { l with objections := l.objections + 1 })

/-- The closing message is the station's own head: it is of the station's number and of a kind that a station sends, and the
head was sent whole (R168, R170, log 4). -/
def Link.ownHead (mine : Bool) (m : Option Message) (l : Link) : Bool := mine && m.isSome && decide (l.sending = .whole)

/-- The Link Interface at the close of a message: Idle, nothing being received, and the station's own accepted head
removed with the count 0 for the next (R163, R166, R170). -/
def Link.closeMessage (mine : Bool) (m : Option Message) (l : Link) : Link :=
  let c := { l with rx := .idle, errorMark := false, rxBits := [], sending := .none }
  if l.ownHead mine m then { c with queue := l.queue.tail, objections := 0 } else c

/-- The overflow flag as an Answer copies it, cleared with it (R172, R182). -/
def Link.takeOverflow (l : Link) : Link := if l.silent then l else { l with overflow := false }

/-- Every Claim Speaker of the station's own but the head leaves the queue (R65, R169). -/
def Link.dropClaims (l : Link) : Link :=
  { l with queue := l.queue.take 1 ++ l.queue.tail.filter (fun m => decide (m ≠ .claim)) }

end Sys2Proof.Machine
end

