-- ==== Sys2Proof/Machine/Decoder.lean ====
section
/-! DEFINITION. The Decode Unit: the job queue and the choice of the next job (R123, R124), Page Prepare jobs (R125 to
R128), slide batches (R129 to R133), the prefetch test (R134), suspension (R135) and Check jobs (R136, R137). -/

namespace Sys2Proof.Machine

/-! ### Page Prepare jobs -/

/-- A Page Prepare job for the strip is queued or in progress (R125). -/
def Decode.hasJob (k : Strip) (d : Decode) : Bool :=
  d.pageJobs.any (fun j => j.id == k) || (match d.running with
    | some (.page j) => j.id == k
    | _ => false)

/-- An offer of a strip: passed over when it has a job, queued while fewer than 30 are, else declined with the deferred
mark set (R125). -/
def Decode.offer (change : Half) (k : Strip) (d : Decode) : Decode :=
  if d.hasJob k then d
  else if d.pageJobs.length < Config.pageJobLimit then { d with pageJobs := d.pageJobs ++ [{ id := k, tag := change }] }
  else { d with deferred := true }

/-- Offers made in order. -/
def Decode.offerAll (change : Half) (strips : List Strip) (d : Decode) : Decode :=
  strips.foldl (fun d k => d.offer change k) d

/-- The strips of the pending and then of the shown page set that a refill may queue: Held, not Open, without a job
(R125). -/
def Blocks.refillable (b : Blocks) : List Strip :=
  (b.store.roles.pending.strips ++ b.store.roles.shown.strips).filter
    (fun k => b.store.isHeld k && (b.store.findOpened k).isNone && !b.decode.hasJob k)

/-- The refill while the deferred mark is set: jobs up to 30, and the mark cleared when no strip is left (R125). -/
def Blocks.refill (change : Half) (b : Blocks) : Blocks :=
  if b.decode.deferred && decide (b.decode.pageJobs.length < Config.pageJobLimit) then
    let c := b.withDecode (fun d => { d.offerAll change b.refillable with deferred := true })
    if c.refillable.isEmpty then c.withDecode (fun d => { d with deferred := false }) else c
  else b

/-- The units an Open strip of the strip's asset takes (R107). -/
def Store.openUnitsOf (s : Store) (k : Strip) : Nat := openUnits (((s.asset k.asset).map Asset.width).getD 0)

/-- A chosen Page Prepare job starts, or is dropped because its strip is not Held, because it has an Open entry (log 52), or
because no room is found for its Open entry (R126). DESIGN CHOICE (log 45): the last-shown frame of an entry that is Decoding is 0. -/
def Blocks.startPage (j : PageJob) (b : Blocks) : Blocks :=
  if !b.store.isHeld j.id || (b.store.findOpened j.id).isSome then b
  else
    match b.findRoom (some j.id) (b.store.openUnitsOf j.id) with
    | none => b.refuseRoom j.id true (b.store.openUnitsOf j.id)
    | some c =>
      (c.withStore (Store.setOpened
        { id := j.id, ready := false, units := b.store.openUnitsOf j.id, pins := 0, lastShown := 0, rows := [] })).withDecode
        (fun d => { d with running := some (.page j) })

/-! ### Slide batches -/

/-- The back surface is read by no transition and held by no slide switch (R130). -/
def Compositor.backFree (c : Compositor) : Bool := c.transition.isNone && c.slideSwitch.isNone

/-- The back surface is free for a batch of this content: a held slide switch of the same content leaves it free
(R130). -/
def Compositor.backFreeFor (k : Content) (c : Compositor) : Bool :=
  c.transition.isNone && (match c.slideSwitch with
    | none => true
    | some w => decide (w.content = k))

/-- The back surface holds the content whole and without a failing strip (R132, R134). -/
def Compositor.backHolds (k : Content) (c : Compositor) : Bool :=
  decide (c.back.content = some k) && c.back.whole && c.back.firstFailing.isNone

/-- The strip of a batch's asset. -/
def Batch.strip (b : Batch) (i : Nat) : Strip := { asset := b.content.asset, index := i }

/-- The strips of a batch that are pending. -/
def Batch.pendingStrips (b : Batch) : List Strip :=
  ((b.strips.getD []).filter (fun e => decide (e.2 = BatchStrip.pending))).map (fun e => b.strip e.1)

/-- The strip can be taken by a batch: its Packed entry is Held or Broken (R131). -/
def Store.takable (s : Store) (k : Strip) : Bool := s.isHeld k || s.isBroken k

/-- A batch is eligible: its strips are known, the back surface is free for it, and a pending strip is Held or Broken,
or none is pending (R124, R129). -/
def Blocks.eligible (b : Blocks) (q : Batch) : Bool :=
  q.strips.isSome && b.bc.backFreeFor q.content
    && (q.pendingStrips.isEmpty || q.pendingStrips.any b.store.takable)

/-- The strip list of a batch of this content: every strip pending, or none while the asset has no record (R129). -/
def Store.batchStrips (g : Geometry) (s : Store) (k : Content) : Option (List (Nat × BatchStrip)) :=
  (s.asset k.asset).map (fun a => ((slidePlacement k).strips g a.height).map (fun i => (i, BatchStrip.pending)))

/-- A batch as it is made (R129). -/
def Store.newBatch (g : Geometry) (k : Content) (change : Option Half) (s : Store) : Batch :=
  { content := k, change := change, strips := s.batchStrips g k, firstFailing := none
    progress := Config.batchGuarantee, begun := false }

/-- The Wants of a batch computation: its short pending strips, or the whole asset while its strips are not known
(R129). -/
def Store.wantBatch (q : Batch) (s : Store) : Store :=
  match q.strips with
  | none => s.withWants (addWhole q.content.asset)
  | some _ => s.wantShort q.pendingStrips

/-- A strip of the batch marked done or filled. -/
def Batch.mark (i : Nat) (m : BatchStrip) (q : Batch) : Batch :=
  { q with strips := q.strips.map (fun l => l.map (fun e => if e.1 = i then (i, m) else e)) }

/-- A strip of the batch filled: the first failing strip takes its index if it is absent (R131). -/
def Batch.fill (i : Nat) (q : Batch) : Batch :=
  { q.mark i .filled with firstFailing := match q.firstFailing with
      | none => some i
      | some f => some f }

/-- The progress count raised by one, stopping at 4 (R131). -/
def Batch.raise (q : Batch) : Batch := { q with progress := min Config.batchGuarantee (q.progress + 1) }

/-- Rows written to the back surface (R130, R131). -/
def Blocks.writeBack (q : Batch) (i : Nat) (rows : SurfaceRows) (b : Blocks) : Blocks :=
  match b.store.asset q.content.asset with
  | none => b
  | some a =>
    b.withBc (fun c => { c with back := { c.back with
      strips := c.back.strips ++ [{ index := i, width := a.width, height := a.height, rows := rows }] } })

/-- A batch takes its first strip: the back surface names its content as not whole and is cleared (R130). -/
def Blocks.beginBatch (q : Batch) (b : Blocks) : Blocks :=
  if q.begun then b
  else b.withBc (fun c => { c with back := { content := some q.content, whole := false, firstFailing := none, strips := [] } })

/-- A batch with no pending strip completes: the back surface is whole, and a class-2 batch reports its change (R131). -/
def Blocks.completeBatch (q : Batch) (b : Blocks) : Blocks :=
  let c := b.withBc (fun c => { c with back := { c.back with whole := true, firstFailing := q.firstFailing } })
  match q.change with
  | none => c
  | some s => c.withDecode (fun d => { d with reported := some s })

/-- The slide change of a batch is pending (R135). -/
def Scene.awaitsBatch (sc : Scene) (q : Batch) : Bool := sc.pendingIndex.isSome && decide (q.change = some sc.slideChange)

/-- The suspension test (R135); the batch has strips pending (log 29). -/
def Blocks.suspends (sc : Scene) (q : Batch) (b : Blocks) : Bool :=
  !b.decode.pageJobs.isEmpty && b.decode.suspended.isNone && decide (Config.batchGuarantee ≤ q.progress)
    && !sc.awaitsBatch q

/-- A batch in hand goes on: it completes, waits, fills its Broken strips, is suspended after one of them, or begins to
decode its next strip (R131, R135). The number bounds the strips filled. -/
def Blocks.advanceBatch (sc : Scene) : Nat → Batch → Blocks → Blocks
  | 0, q, b => b.withDecode (fun d => { d with batch := some q })
  | n + 1, q, b =>
    match q.pendingStrips.find? b.store.takable with
    | none =>
      if q.pendingStrips.isEmpty then (b.beginBatch q).completeBatch q
      else b.withDecode (fun d => { d with batch := some q })
    | some k =>
      let c := b.beginBatch q
      let r : Batch := { q with begun := true }
      if c.store.isHeld k then c.withDecode (fun d => { d with running := some (.batch r k.index false) })
      else
        let f := (r.fill k.index).raise
        let c' := c.writeBack q k.index .filled
        if !f.pendingStrips.isEmpty && c'.suspends sc f then c'.withDecode (fun d => { d with suspended := some f })
        else Blocks.advanceBatch sc n f c'

/-- A batch taken in hand. -/
def Blocks.takeBatch (sc : Scene) (q : Batch) (b : Blocks) : Blocks :=
  b.advanceBatch sc ((q.strips.getD []).length + 1) q

/-! ### Check jobs -/

/-- The strip lies in the Check's range after its position (R137). -/
def CheckJob.ahead (c : CheckJob) (k : Strip) : Bool :=
  decide (c.first ≤ k.asset) && decide (k.asset < c.stop) && (match c.position with
    | none => true
    | some p => p.before k)

/-- The Held Packed strips of the Check's range after its position, in order (R137). -/
def Store.unchecked (c : CheckJob) (s : Store) : List Packed := s.packed.filter (fun e => e.state == .held && c.ahead e.id)

/-- Check Done (R137, R139). -/
def CheckJob.report (c : CheckJob) (remaining : Nat) : CheckDoneBody :=
  { checked := c.checked, bad := c.bad, firstBad := c.firstBad.map (fun k => (k.asset, k.index)), remaining := remaining }

/-- A Check in hand takes its next strip, or completes (R137). -/
def Blocks.takeCheck (c : CheckJob) (b : Blocks) : Blocks :=
  match b.store.unchecked c with
  | [] => b.enqueue (.checkDone (c.report 0))
  | e :: _ => b.withDecode (fun d => { d with running := some (.check c e.id) })

/-! ### The choice of the next job (R124) -/

/-- The next job chosen when none is in progress; none when no job qualifies. -/
def Blocks.chooseOne (sc : Scene) (b : Blocks) : Option Blocks :=
  match b.decode.running with
  | some _ => none
  | none =>
    match b.decode.pageJobs with
    | j :: rest => some ((b.withDecode (fun d => { d with pageJobs := rest })).startPage j)
    | [] =>
      match b.decode.suspended with
      | some q => some ((b.withDecode (fun d => { d with suspended := none })).takeBatch sc { q with progress := 0 })
      | none =>
        match b.decode.batch with
        | some q =>
          if b.eligible q then some ((b.withDecode (fun d => { d with batch := none })).takeBatch sc q)
          else match b.decode.check with
            | some c => some ((b.withDecode (fun d => { d with check := none })).takeCheck c)
            | none => none
        | none =>
          match b.decode.check with
          | some c => some ((b.withDecode (fun d => { d with check := none })).takeCheck c)
          | none => none

/-- Jobs chosen until one is in progress or none qualifies; the number bounds the jobs that end where they start. -/
def Blocks.chooseJobs (sc : Scene) : Nat → Blocks → Blocks
  | 0, b => b
  | n + 1, b =>
    match b.chooseOne sc with
    | none => b
    | some c => Blocks.chooseJobs sc n c

/-- The most jobs that can be chosen in one event: every queued job and the suspended batch. -/
def chooseBound : Nat := 40

/-! ### Removal and takeover (R132, R133) -/

/-- Every batch removed: a queued or suspended one leaves, one in progress stops at the end of its strip (R133). -/
def Decode.removeBatches (d : Decode) : Decode :=
  { d with
    batch := none
    suspended := none
    running := match d.running with
      | some (.batch q i _) => some (.batch q i true)
      | r => r }

/-- The batch in progress, unless it has been removed. DEDUCED (log 55): a removed batch that still finishes its strip is not
taken over by a change back to its content (R132, R133). -/
def Decode.activeBatch (d : Decode) : Option (Batch × Nat) :=
  match d.running with
  | some (.batch q i false) => some (q, i)
  | _ => none

/-- A batch of the content taken over for a change: class 2 and the new tag, its place and strips kept (R132 case 2). -/
def Batch.takeOver (change : Half) (q : Batch) : Batch := { q with change := some change }

/-- The decode work of a superseded slide change that is still queued is removed; a batch that has begun and waits for a
strip is left in place (R92 step 1, R132, log 19). -/
def Decode.dropQueuedAdvance (d : Decode) : Decode :=
  match d.batch with
  | some q => if q.change.isSome && !q.begun then { d with batch := none } else d
  | none => d

/-- Any batch that exists removed, and a new one of class 2 queued with its Wants (R132 case 3). -/
def Blocks.replaceBatch (g : Geometry) (k : Content) (change : Half) (b : Blocks) : Blocks :=
  (b.withDecode (fun d => { d.removeBatches with batch := some (b.store.newBatch g k (some change)) })).withStore
    (Store.wantBatch (b.store.newBatch g k (some change)))

/-- How the Decode Unit meets a slide change to this content (R132). -/
def Blocks.meetSlide (g : Geometry) (k : Content) (change : Half) (b : Blocks) : Blocks :=
  if b.bc.backFree && b.bc.backHolds k then b.withDecode (fun d => { d with reported := some change })
  else
    match b.decode.activeBatch with
    | some (q, i) =>
      if q.content = k then
        (b.withDecode (fun d => { d with running := some (.batch (q.takeOver change) i false) })).withStore (Store.wantBatch q)
      else b.replaceBatch g k change
    | none =>
      match b.decode.suspended with
      | some q =>
        if q.content = k then
          (b.withDecode (fun d => { d with suspended := some (q.takeOver change) })).withStore (Store.wantBatch q)
        else b.replaceBatch g k change
      | none =>
        match b.decode.batch with
        | some q =>
          if q.content = k then
            (b.withDecode (fun d => { d with batch := some (q.takeOver change) })).withStore (Store.wantBatch q)
          else b.replaceBatch g k change
        | none => b.replaceBatch g k change

/-! ### Prefetch (R134) -/

/-- The entry the show would advance to: one index beyond, or entry 0 after the last with the loop flag set (R134). -/
def Scene.nextIndex (sc : Scene) (i : Nat) : Option Nat :=
  if i + 1 < sc.slides.length then some (i + 1) else if sc.loop && !sc.slides.isEmpty then some 0 else none

/-- The content of the entry a prefetch is for, when the show allows one (R134). -/
def Scene.prefetchContent (sc : Scene) : Option Content :=
  if sc.show_ = .stopped ∨ sc.pendingIndex.isSome then none
  else ((sc.nextIndex sc.current).bind (fun i => sc.slides[i]?)).map Slide.content

/-- A batch exists, queued, waiting, in progress or suspended (R134, log 29). -/
def Decode.hasBatch (d : Decode) : Bool :=
  d.batch.isSome || d.suspended.isSome || (match d.running with
    | some (.batch _ _ _) => true
    | _ => false)

/-- The prefetch test: a class-3 batch queued, with its Wants (R134). -/
def Blocks.prefetch (g : Geometry) (sc : Scene) (b : Blocks) : Blocks :=
  match sc.prefetchContent with
  | none => b
  | some k =>
    if b.decode.hasBatch || !b.bc.backFree || b.bc.backHolds k then b
    else (b.withDecode (fun d => { d with batch := some (b.store.newBatch g k none) })).withStore
      (Store.wantBatch (b.store.newBatch g k none))

/-! ### Completions -/

/-- A Page Prepare job completes (R127): its strip Open and Ready, or its failure handed to the Strip Store. -/
def Blocks.finishPage (g : Geometry) (j : PageJob) (decoded : Option Rows) (b : Blocks) : Blocks :=
  let c := b.withDecode (fun d => { d with running := none })
  match decoded with
  | none => c.failStored g j.id
  | some rows =>
    match c.store.findOpened j.id with
    | none => c
    | some e => c.withStore (Store.setOpened { e with ready := true, lastShown := b.bc.frame, rows := rows })

/-- A batch's strip completes (R131, R133, R135): written or filled, and the batch goes on, is suspended, or, when it
has been removed, leaves. -/
def Blocks.finishBatchStrip (g : Geometry) (sc : Scene) (q : Batch) (i : Nat) (stopping : Bool) (decoded : Option Rows)
    (b : Blocks) : Blocks :=
  let c := b.withDecode (fun d => { d with running := none })
  let failed := match decoded with
    | none => c.failStored g (q.strip i)
    | some _ => c
  if stopping then failed
  else
    let written := match decoded with
      | none => failed.writeBack q i .filled
      | some rows => failed.writeBack q i (.decoded rows)
    let r := (match decoded with
      | none => q.fill i
      | some _ => q.mark i .done).raise
    if !r.pendingStrips.isEmpty && written.suspends sc r then written.withDecode (fun d => { d with suspended := some r })
    else written.takeBatch sc r

/-- A Check's strip completes (R137): counted, a failure handed to the Strip Store, and the Check goes on or gives way
to work of the classes before it. -/
def Blocks.finishCheckStrip (g : Geometry) (c : CheckJob) (k : Strip) (intact : Bool) (b : Blocks) : Blocks :=
  let d := b.withDecode (fun d => { d with running := none })
  let e := if intact then d else d.failStored g k
  let n : CheckJob := if intact then { c with position := some k, checked := c.checked + 1 }
    else { c with
      position := some k, checked := c.checked + 1, bad := c.bad + 1
      firstBad := match c.firstBad with
        | none => some k
        | some f => some f }
  let ready := match e.decode.batch with
    | none => false
    | some q => e.eligible q
  if (e.store.unchecked n).isEmpty then e.takeCheck n
  else if !e.decode.pageJobs.isEmpty || ready || e.decode.suspended.isSome then
    e.withDecode (fun d => { d with check := some n })
  else e.takeCheck n

end Sys2Proof.Machine
end

