-- ==== Sys2Proof/Machine/EndOfEvent.lean ====
section
/-! DEFINITION. What every event of a Running station ends with: the room-wait retry (R118), the choice of jobs (R124), the
refill (R125), the prefetch test (R134), the readiness tests (R54, R93) and the queueing of Wants (R120), in the order
of log 8. The scene is read and never written. -/

namespace Sys2Proof.Machine

/-- One pair of the room-wait list acted on (R118); a Broken strip joins no list (R113, R119). -/
def Blocks.retryWait (g : Geometry) (change : Half) (b : Blocks) (w : RoomWait) : Blocks :=
  if b.store.isBroken w.id then b
  else if w.inOpen then
    if !b.store.isHeld w.id then b.withStore (Store.withWants (addRun w.id.asset w.id.index w.id.index))
    else if b.store.roles.pending.strips.contains w.id || b.store.roles.shown.strips.contains w.id then
      b.withDecode (Decode.offer change w.id)
    else b
  else if b.store.needed g w.id then b.withStore (Store.withWants (addRun w.id.asset w.id.index w.id.index))
  else b

/-- The room-wait list retried, oldest pair first, in an event that left some entry unpinned (R118). -/
def Blocks.retryRoom (g : Geometry) (change : Half) (b : Blocks) (before : Blocks) : Blocks :=
  if Store.unpinnedSince before.store b.store then
    b.store.roomWait.foldl (Blocks.retryWait g change) (b.withStore (fun s => { s with roomWait := [] }))
  else b

/-- The event is one at whose end the prefetch test is made (R134). -/
def prefetchDue (scBefore sc : Scene) (before b : Blocks) : Bool :=
  decide (scBefore.slides ≠ sc.slides) || decide (scBefore.show_ ≠ sc.show_) || decide (scBefore.loop ≠ sc.loop)
    || decide (scBefore.current ≠ sc.current) || decide (scBefore.pendingIndex ≠ sc.pendingIndex)
    || decide (before.bc.backFree ≠ b.bc.backFree) || (before.decode.hasBatch && !b.decode.hasBatch)

/-- The strip is on the room-wait list, in either form (R117). -/
def Store.waitsForRoom (s : Store) (k : Strip) : Bool := s.roomWait.any (fun w => w.id == k)

/-- The strip is settled for the readiness test: Broken, or Open and Ready, not Bad and not waiting for room (R54, R110,
R117). That a Broken strip is settled on the room-wait list too is read from R113 (log 51). -/
def Store.isSettled (s : Store) (k : Strip) : Bool := s.isBroken k || (s.isReady k && !s.isBad k && !s.waitsForRoom k)

/-- The band is ready for the pending page change: every strip of the need set settled, no asset unresolved (R54). -/
def Store.pageReady (s : Store) : Bool := s.roles.pending.unresolved.isEmpty && s.roles.pending.strips.all s.isSettled

/-- The readiness test of the page stream: Ready (page, C) queued once (R54). -/
def Blocks.pageReadiness (sc : Scene) (b : Blocks) : Blocks :=
  match sc.pendingPage with
  | none => b
  | some p =>
    if !b.decode.pageReadySent && b.store.pageReady then
      (b.enqueue (.ready { stream := 0, index := p, change := sc.pageChange })).withDecode
        (fun d => { d with pageReadySent := true })
    else b

/-- The readiness test of the slide stream: Ready (slide, i, S) queued once (R93). -/
def Blocks.slideReadiness (sc : Scene) (b : Blocks) : Blocks :=
  match sc.pendingIndex with
  | none => b
  | some i =>
    if !b.decode.slideReadySent && decide (b.decode.reported = some sc.slideChange) && b.bc.transition.isNone then
      (b.enqueue (.ready { stream := 1, index := i, change := sc.slideChange })).withDecode
        (fun d => { d with slideReadySent := true })
    else b

/-- A Want queued from the list when R120 allows one. -/
def Blocks.queueWant (b : Blocks) : Blocks :=
  if b.link.silent || decide (Config.wantQueueRoom ≤ b.link.queue.length) then b
  else match takeWant b.store.outstanding b.store.wants with
    | none => b
    | some (w, l) =>
      (b.enqueue (.want w)).withStore
        (fun s => { s with wants := l, outstanding := Stations.insert w.asset s.outstanding })

/-- Wants queued until R120 allows no more: each one leaves less room for the next. -/
def Blocks.queueWants (b : Blocks) : Blocks := b.queueWant.queueWant.queueWant.queueWant

/-- The end of an event: `scBefore` and `before` are the replica and the blocks as the event found them. -/
def Blocks.settle (g : Geometry) (scBefore sc : Scene) (before b : Blocks) : Blocks :=
  let chosen := ((((b.retryRoom g sc.pageChange before).chooseJobs sc chooseBound).refill sc.pageChange).chooseJobs sc
    chooseBound)
  let tested := if prefetchDue scBefore sc before chosen then (chosen.prefetch g sc).chooseJobs sc chooseBound else chosen
  ((tested.pageReadiness sc).slideReadiness sc).queueWants

/-- The end of an event at a station: only a Running station has work to end with. -/
def Station.settle (st : Station) (before : Station) : Station :=
  if st.mode = .running then
    st.withBlocks (Blocks.settle st.geometry before.scene st.scene before.blocks)
  else st

end Sys2Proof.Machine
end

