-- ==== Sys2Proof/Machine/Formats.lean ====
section
/-! DEFINITION. The bytes and bits of messages and segments: the check word (R167), the message frame and the body
layouts (R188, 12_formats_and_worked_sequences.md section 12.1), the admitted body lengths (R164, R188), the reading
of an accepted message into its command, and the segment layout (R189). Multi-byte fields are big-endian. -/

namespace Sys2Proof.Machine

/-! ### The check word -/

/-- One bit's step of the CRC register with the generator polynomial 0x1021 (R167). -/
def crcShift (r : Half) : Half := if r.getLsbD 15 then (r <<< 1) ^^^ 0x1021 else r <<< 1

/-- One byte taken into the register, most significant bit first (R167). -/
def crcByte (r : Half) (b : Byte) : Half :=
  crcShift (crcShift (crcShift (crcShift (crcShift (crcShift (crcShift (crcShift (r ^^^ ((b.setWidth 16) <<< 8)))))))))

/-- The check word of a run of bytes, from the initial value 0xFFFF (R167). -/
def checkWordOf (bytes : List Byte) : Half := bytes.foldl crcByte 0xFFFF

/-! ### Fields as bytes -/

/-- A one-byte field. -/
def put8 (n : Nat) : List Byte := [BitVec.ofNat 8 n]

/-- A two-byte field, most significant byte first. -/
def put16 (n : Nat) : List Byte := [BitVec.ofNat 8 (n / 256), BitVec.ofNat 8 n]

/-- A four-byte field, most significant byte first. -/
def put32 (n : Nat) : List Byte :=
  [BitVec.ofNat 8 (n / 16777216), BitVec.ofNat 8 (n / 65536), BitVec.ofNat 8 (n / 256), BitVec.ofNat 8 n]

/-- An optional one-byte field: 0xFF when absent. -/
def putOpt8 (o : Option Nat) : List Byte := put8 (o.getD 255)

/-- An optional two-byte field: 0xFFFF when absent. -/
def putOpt16 (o : Option Nat) : List Byte := put16 (o.getD 65535)

/-- An optional four-byte field of a Fault; the value of an absent one is free (log 15). -/
def putOpt32 (o : Option Nat) : List Byte := put32 (o.getD Config.absentLong.toNat)

/-- A flag as a byte: 1 when it is set, 0 when it is clear, as 12.1 says of every flag byte but an Answer's busy byte. DEDUCED
(log 57): the busy byte is written so too. -/
def putFlag (b : Bool) : List Byte := put8 (if b then 1 else 0)

/-- Eight scene words, W0 first. -/
def putWords (ws : List Half) : List Byte := ws.flatMap (fun w => put16 w.toNat)

/-- A set of IDs as a mask, bit k for ID k. -/
def maskOf (ids : List Nat) : Nat := ids.foldl (fun n k => n ||| 2 ^ k) 0

/-- The field of one byte at an offset. -/
def get8 (l : List Byte) (i : Nat) : Nat := (l.getD i 0).toNat

/-- The field of two bytes at an offset. -/
def get16 (l : List Byte) (i : Nat) : Nat := get8 l i * 256 + get8 l (i + 1)

/-- The field of four bytes at an offset. -/
def get32 (l : List Byte) (i : Nat) : Nat := get16 l i * 65536 + get16 l (i + 2)

/-- A wrapping count, word or check word at an offset. -/
def getHalf (l : List Byte) (i : Nat) : Half := BitVec.ofNat 16 (get16 l i)

/-- A colour or a frame count at an offset. -/
def getLong (l : List Byte) (i : Nat) : Long := BitVec.ofNat 32 (get32 l i)

/-! ### Messages as sent -/

/-- The kind code of a message the station queues (R188). -/
def messageKind : Message → Nat
  | .present _ _ => kindPresent
  | .claim => kindClaim
  | .switch _ => kindSwitch
  | .expire _ => kindExpire
  | .ready _ => kindReady
  | .cueHit _ => kindCueHit
  | .report _ => kindReport
  | .fault _ => kindFault
  | .want _ => kindWant
  | .answer _ => kindAnswer
  | .checkDone _ => kindCheckDone

/-- The data of an Answer (12.1). -/
def answerData : AnswerData → List Byte
  | .empty => []
  | .status mode speaker overflow overrun late free depth decodeDepth suspended =>
    put8 mode ++ put8 ((if speaker then 1 else 0) + (if overflow then 4 else 0) + (if overrun then 8 else 0))
      ++ put8 late ++ put16 free ++ put8 depth ++ put8 decodeDepth ++ putFlag suspended
  | .asset width height held skipped bad broken ready =>
    putOpt16 width ++ putOpt16 height ++ put16 held ++ put16 skipped ++ put16 bad ++ put16 broken ++ put16 ready
  | .digest shown pending selected activated a c s show_ held current pendingIndex words attempts =>
    putOpt8 shown ++ putOpt8 pending ++ putOpt8 selected ++ putFlag activated ++ put16 a.toNat ++ put16 c.toNat
      ++ put16 s.toNat ++ put8 show_ ++ putFlag held ++ put8 current ++ putOpt8 pendingIndex ++ putWords words ++ put8 attempts
  | .page state shown pending leaving buttons pictures buttonIds pictureIds =>
    putOpt8 state ++ put8 ((if shown then 1 else 0) + (if pending then 2 else 0) + (if leaving then 4 else 0))
      ++ put8 buttons ++ put8 pictures ++ put32 (maskOf buttonIds) ++ put16 (maskOf pictureIds)

/-- The body of a message the station queues (12.1); the codes of an Answer's busy byte are read by inference (log 57). -/
def messageBody : Message → List Byte
  | .present station units => put8 station ++ put16 units
  | .claim => []
  | .switch b => put8 b.stream ++ put8 b.index ++ put16 b.change.toNat ++ put32 b.target.toNat ++ put8 b.partialFlag
  | .expire b => put8 b.timer ++ put16 b.tag.toNat
  | .ready b => put8 b.stream ++ put8 b.index ++ put16 b.change.toNat
  | .cueHit b => put8 b.index ++ put8 b.kind ++ put32 b.trigger ++ put8 b.slide ++ put16 b.change.toNat
  | .report b =>
    put8 b.kind ++ put8 b.page ++ putOpt8 b.button ++ putOpt16 b.code ++ putOpt8 b.target ++ putOpt8 b.attempts
      ++ putWords b.words
  | .fault b =>
    put8 b.kind ++ putOpt8 b.refusedKind ++ putOpt8 b.refusedSource ++ putOpt8 b.streamOrForm ++ putOpt16 b.p
      ++ putOpt16 b.q ++ putOpt32 b.t ++ putOpt32 b.f ++ putOpt8 b.owners
  | .want b => put16 b.asset ++ put16 b.first ++ put8 b.count
  | .answer b => put8 b.topic ++ put16 b.argument ++ putFlag b.busy ++ answerData b.data
  | .checkDone b =>
    put32 b.checked ++ put32 b.bad ++ putOpt16 (b.firstBad.map Prod.fst) ++ putOpt16 (b.firstBad.map Prod.snd)
      ++ put32 b.remaining

/-- Kind code, source byte and body (12.1): the station number in bits 7 to 5. -/
def messageHead (src : Nat) (m : Message) : List Byte := put8 (messageKind m) ++ put8 (src * 32) ++ messageBody m

/-- The whole message: head and check word (R162, R188). -/
def messageBytes (src : Nat) (m : Message) : List Byte :=
  messageHead src m ++ put16 (checkWordOf (messageHead src m)).toNat

/-- The bits of a byte, most significant first (R162). -/
def byteBits (b : Byte) : List Bool :=
  [b.getLsbD 7, b.getLsbD 6, b.getLsbD 5, b.getLsbD 4, b.getLsbD 3, b.getLsbD 2, b.getLsbD 1, b.getLsbD 0]

/-- The bit cells of a message, in sending order (R162). -/
def messageBits (src : Nat) (m : Message) : List Bool := (messageBytes src m).flatMap byteBits

/-- A byte of eight bits, most significant first. -/
def bitsByte (bits : List Bool) : Byte := BitVec.ofNat 8 (bits.foldl (fun n b => 2 * n + (if b then 1 else 0)) 0)

/-- Received bits as bytes, the first bit the most significant of the first byte. -/
def bitsBytes : List Bool → List Byte
  | a :: b :: c :: d :: e :: f :: g :: h :: l => bitsByte [a, b, c, d, e, f, g, h] :: bitsBytes l
  | _ => []

/-- Link units a sender drives the wire low for a bit (R162). -/
def cellDrive (bit : Bool) : Nat := if bit then 2 else 5

/-- Link units from a message's first falling edge to its close (R162). -/
def closeAfter (bytes : Nat) (lastBit : Bool) : Nat := 64 * bytes + (if lastBit then 10 else 13)

/-! ### Admitted lengths (R188) -/

/-- The body lengths a kind admits; none for a kind the part does not know. -/
def admitted (kind : Nat) : Option (List Nat) :=
  match kind with
  | 0x01 => some [0]
  | 0x04 => some [13, 16, 19, 22]
  | 0x06 => some [3]
  | 0x08 => some [0]
  | 0x0A => some [9]
  | 0x0C => some [3]
  | 0x10 => some [4]
  | 0x18 => some [1]
  | 0x1A => some [1]
  | 0x1C => some [3]
  | 0x20 => some [4]
  | 0x21 => some [0]
  | 0x28 => some [15]
  | 0x29 => some [1]
  | 0x2A => some [0]
  | 0x2B => some [1]
  | 0x2C => some [0]
  | 0x2D => some [0]
  | 0x2E => some [1]
  | 0x30 => some [9]
  | 0x31 => some [1]
  | 0x32 => some [9]
  | 0x40 => some [22]
  | 0x41 => some [31, 35, 39, 43, 47]
  | 0x42 => some [8]
  | 0x43 => some [1]
  | 0x50 => some [23]
  | 0x52 => some [17]
  | 0x58 => some [5]
  | 0x60 => some [4]
  | 0x61 => some [4, 12, 14, 18, 35]
  | 0x62 => some [5]
  | 0x63 => some [16]
  | _ => none

/-- A kind code that the part knows (R166). -/
def knownKind (kind : Nat) : Bool := (admitted kind).isSome

/-- The tests 2 to 5 of R164: the message is damaged. -/
def damaged (bytes : List Byte) : Bool :=
  decide (bytes.length < 4) || decide (62 < bytes.length)
    || checkWordOf (bytes.take (bytes.length - 2)) != getHalf bytes (bytes.length - 2)
    || get8 bytes 1 % 32 != 0
    || (match admitted (get8 bytes 0) with
        | none => false
        | some lengths => !lengths.contains (bytes.length - 4))

/-! ### Accepted messages read into commands (R188) -/

/-- A word effect at an offset. -/
def getEffect (l : List Byte) (i : Nat) : RawEffect :=
  { kind := get8 l i, word := get8 l (i + 1), place := get8 l (i + 2), value := get8 l (i + 3) }

/-- Four-byte effects from an offset, `n` of them. -/
def getEffects (l : List Byte) (i : Nat) : Nat → List RawEffect
  | 0 => []
  | n + 1 => getEffect l i :: getEffects l (i + 4) n

/-- Three-byte band entries from an offset, `n` of them. -/
def getBands (l : List Byte) (i : Nat) : Nat → List Band
  | 0 => []
  | n + 1 => { owner := get8 l i, first := get16 l (i + 1) } :: getBands l (i + 3) n

/-- Scene words from an offset, `n` of them. -/
def getWords (l : List Byte) (i : Nat) : Nat → List Half
  | 0 => []
  | n + 1 => getHalf l i :: getWords l (i + 2) n

/-- The IDs a mask holds, below `n`. -/
def maskIds (mask n : Nat) : List Nat := (List.range n).filter (fun k => mask.testBit k)

/-- A four-byte field of a Fault, absent when it holds the absent value (log 15). -/
def optionalLong (n : Nat) : Option Nat := if n = Config.absentLong.toNat then none else some n

/-- The data of an Answer of a topic, by its length; a flag byte that is not 0 reads as set (log 57). -/
def getAnswer (topic : Nat) (l : List Byte) : AnswerData :=
  if l.length ≤ 4 then .empty
  else match topic with
    | 0 => .status (get8 l 4) ((get8 l 5).testBit 0) ((get8 l 5).testBit 2) ((get8 l 5).testBit 3) (get8 l 6) (get16 l 7)
        (get8 l 9) (get8 l 10) (get8 l 11 != 0)
    | 1 => .asset (optionalHalf (get16 l 4)) (optionalHalf (get16 l 6)) (get16 l 8) (get16 l 10) (get16 l 12) (get16 l 14)
        (get16 l 16)
    | 2 => .digest (optionalByte (get8 l 4)) (optionalByte (get8 l 5)) (optionalByte (get8 l 6)) (get8 l 7 != 0)
        (getHalf l 8) (getHalf l 10) (getHalf l 12) (get8 l 14) (get8 l 15 != 0) (get8 l 16) (optionalByte (get8 l 17))
        (getWords l 18 8) (get8 l 34)
    | 3 => .page (optionalByte (get8 l 4)) ((get8 l 5).testBit 0) ((get8 l 5).testBit 1) ((get8 l 5).testBit 2) (get8 l 6)
        (get8 l 7) (maskIds (get32 l 8) 32) (maskIds (get16 l 12) 16)
    | _ => .empty

/-- The command that the body of an accepted message of a known kind spells, field by field (12.1). -/
def readBody (kind src : Nat) (l : List Byte) : Option Instr :=
  match kind with
  | 0x01 => some (.sceneReset src)
  | 0x04 => some (.layout src
      { width := get16 l 0, height := get16 l 2, count := get8 l 4, prepareLimit := get8 l 5, placeholder := getLong l 6
        bands := getBands l 10 ((l.length - 10) / 3) })
  | 0x06 => some (.present src (get8 l 0) (get16 l 1))
  | 0x08 => some (.claimSpeaker src)
  | 0x0A => some (.switch src
      { stream := get8 l 0, index := get8 l 1, change := getHalf l 2, target := getLong l 4, partialFlag := get8 l 8 })
  | 0x0C => some (.expire src { timer := get8 l 0, tag := getHalf l 1 })
  | 0x10 => some (.ready src { stream := get8 l 0, index := get8 l 1, change := getHalf l 2 })
  | 0x18 => some (.key src (get8 l 0))
  | 0x1A => some (.go src (get8 l 0))
  | 0x1C => some (.wordSet src (get8 l 0) (getHalf l 1))
  | 0x20 => some (.guardSet src (getHalf l 0) (get8 l 2) (get8 l 3))
  | 0x21 => some (.guardFreeze src)
  | 0x28 => some (.slideAppend src
      { asset := get16 l 0, x := get16 l 2, y := get16 l 4, fill := getLong l 6, duration := get16 l 10
        kind := get8 l 12, length := get8 l 13, tag := get8 l 14 })
  | 0x29 => some (.slideRemove src (get8 l 0))
  | 0x2A => some (.slideClear src)
  | 0x2B => some (.slidePlay src (get8 l 0))
  | 0x2C => some (.slidePause src)
  | 0x2D => some (.slideStep src)
  | 0x2E => some (.slideSeek src (get8 l 0))
  | 0x30 => some (.cueSet src
      { index := get8 l 0, kind := get8 l 1, trigger := get32 l 2, effect := get8 l 6, word := get8 l 7, bit := get8 l 8 })
  | 0x31 => some (.cueClear src (get8 l 0))
  | 0x32 => some (.cueHit src
      { index := get8 l 0, kind := get8 l 1, trigger := get32 l 2, slide := get8 l 6, change := getHalf l 7 })
  | 0x40 => some (.definePage src
      { page := get8 l 0, asset := get16 l 1, colour := getLong l 3, x := get16 l 7, y := get16 l 9, default := get8 l 11
        timeout := get8 l 12, onTimeout := get8 l 13, goPage := get8 l 14, guardLevel := get8 l 15
        entry := getEffect l 16, buttons := get8 l 20, pictures := get8 l 21 })
  | 0x41 => some (.defineButton src
      { page := get8 l 0, button := get8 l 1, x := get16 l 2, y := get16 l 4, width := get16 l 6, height := get16 l 8
        normal := get16 l 10, selected := get16 l 12, activated := get16 l 14
        up := get8 l 16, down := get8 l 17, left := get8 l 18, right := get8 l 19
        enableWord := get8 l 20, mask := getHalf l 21, value := getHalf l 23, sense := get8 l 25
        number := get8 l 26, goPage := get8 l 27, report := get16 l 28, count := get8 l 30
        effects := getEffects l 31 ((l.length - 31) / 4) })
  | 0x42 => some (.definePicture src
      { page := get8 l 0, picture := get8 l 1, asset := get16 l 2, x := get16 l 4, y := get16 l 6 })
  | 0x43 => some (.dropPage src (get8 l 0))
  | 0x50 => some (.report src
      { kind := get8 l 0, page := get8 l 1, button := optionalByte (get8 l 2), code := optionalHalf (get16 l 3)
        target := optionalByte (get8 l 5), attempts := optionalByte (get8 l 6), words := getWords l 7 8 })
  | 0x52 => some (.fault src
      { kind := get8 l 0, refusedKind := optionalByte (get8 l 1), refusedSource := optionalByte (get8 l 2)
        streamOrForm := optionalByte (get8 l 3), p := optionalHalf (get16 l 4), q := optionalHalf (get16 l 6)
        t := optionalLong (get32 l 8), f := optionalLong (get32 l 12), owners := optionalByte (get8 l 16) })
  | 0x58 => some (.want src { asset := get16 l 0, first := get16 l 2, count := get8 l 4 })
  | 0x60 => some (.ask src (get8 l 0) (get8 l 1) (get16 l 2))
  | 0x61 => some (.answer src
      { topic := get8 l 0, argument := get16 l 1, busy := get8 l 3 != 0, data := getAnswer (get8 l 0) l })
  | 0x62 => some (.check src (get8 l 0) (get16 l 1) (get16 l 3))
  | 0x63 => some (.checkDone src
      { checked := get32 l 0, bad := get32 l 4
        firstBad := match optionalHalf (get16 l 8), optionalHalf (get16 l 10) with
          | some a, some k => some (a, k)
          | _, _ => none
        remaining := get32 l 12 })
  | _ => none

/-- The command that an undamaged message's close is (R166, R188); none for a damaged message. -/
def readMessage (bytes : List Byte) : Option Instr :=
  if damaged bytes then none
  else if knownKind (get8 bytes 0) && decide (get8 bytes 1 / 32 ≤ 5) then
    readBody (get8 bytes 0) (get8 bytes 1 / 32) ((bytes.drop 2).take (bytes.length - 4))
  else some (.unknownKindClose (get8 bytes 0) (get8 bytes 1 / 32))

/-! ### Asset segments (R103, R189) -/

/-- A segment's header, data and check word, and whether the check word passes. -/
structure Segment where
  asset : Nat
  width : Nat
  height : Nat
  index : Nat
  length : Nat
  data : List Byte
  checkWord : Half
  passes : Bool
  deriving DecidableEq, Repr

/-- The bytes one segment frame encloses, read in the layout of R189: a frame that does not enclose exactly 12 + L
bytes is not a segment. -/
def readSegment (bytes : List Byte) : Option Segment :=
  if bytes.length < 12 then none
  else if bytes.length ≠ 12 + get16 bytes 8 then none
  else some
    { asset := get16 bytes 0, width := get16 bytes 2, height := get16 bytes 4, index := get16 bytes 6
      length := get16 bytes 8, data := (bytes.drop 10).take (get16 bytes 8)
      checkWord := getHalf bytes (bytes.length - 2)
      passes := checkWordOf (bytes.take (bytes.length - 2)) == getHalf bytes (bytes.length - 2) }

end Sys2Proof.Machine
end

