-- ==== Sys2Proof/Machine/Wire.lean ====
section
/-! DEFINITION. The Link Interface on the wire: the classes of lows (R160), the receive states (R163), calibration (R161, R174),
voiding (R165, R170), contention (R168), the end window's test (R164), and the close of a message (R166). -/

namespace Sys2Proof.Machine

/-! ### Lows -/

/-- The classes of a low (R160). -/
inductive LowClass where
  | bit (b : Bool)
  | framing
  | objection
  | calibration
  deriving DecidableEq, Repr

/-- A length in whole link units, any fraction dropped (R160, log 14). -/
def measure (unit256 raw : Nat) : Nat := 256 * raw / unit256

/-- The class of a low of this many link units (R160). -/
def classOf (lu : Nat) : LowClass :=
  if lu ≤ 3 then .bit true
  else if lu ≤ 7 then .bit false
  else if lu ≤ 31 then .framing
  else if lu ≤ 200 then .objection
  else if lu ≤ 239 then .framing
  else .calibration

/-- The station frames messages, objects and sends (R159). -/
def Mode.frames (m : Mode) : Bool :=
  match m with
  | .joining => true
  | .running => true
  | .spare => true
  | _ => false

/-- Present, as a station queues it (R175). -/
def Station.present (st : Station) : Message := .present st.number Config.storeUnits

/-- A calibration pulse taken: the unit set, nothing being received or sent, Waiting; an Uncalibrated station becomes
Joining and queues Present (R161, R163, R174). -/
def Station.calibrate (raw : Nat) (st : Station) : Station :=
  let c := st.withBlocks (fun b => b.withLink (fun l => { l with
    unit256 := raw, rx := .waiting, errorMark := false, rxBits := [], sending := .none }))
  if st.mode = .uncalibrated then { c with mode := .joining }.enqueue st.present else c

/-- The message on the wire is voided by a low that is no calibration pulse: the state is Waiting, and a head that was
sent whole counts an objection (R165, R170). DESIGN CHOICE (log 56): the error mark of the voided message is cleared here. -/
def Blocks.void (b : Blocks) : Blocks :=
  let c := b.withLink (fun l => { l with rx := .waiting, errorMark := false, rxBits := [], sending := .none })
  if b.link.sending = .whole then c.objected else c

/-- The Link Interface at a low of this class that is no calibration pulse, in a station that frames (R163). -/
def Blocks.receive (k : LowClass) (b : Blocks) : Blocks :=
  match b.link.rx with
  | .waiting => b
  | .idle =>
    match k with
    | .bit v => b.withLink (fun l => { l with rx := .receiving, errorMark := false, rxBits := [v] })
    | _ => b.withLink (fun l => { l with rx := .waiting })
  | .receiving =>
    match k with
    | .bit v => b.withLink (fun l => { l with rxBits := l.rxBits ++ [v] })
    | _ => b.withLink (fun l => { l with errorMark := true })
  | .endWindow => b.void
  | .objecting => b.void

/-- The length of a low that a station drives for this many link units, in clock periods. DESIGN CHOICE (log 46): a whole
number of periods, rounded up. -/
def drivenLow (unit256 lu : Nat) : Nat := (lu * unit256 + 255) / 256

/-- The low that an objecting station drives: 40 lu (R164). -/
def objectionDrive (unit256 : Nat) : Nat := drivenLow unit256 Config.objectionDrive

/-- The low on the wire, when the others drive it low for this long: while the station objects it holds the wire low itself,
and the lows overlap into one (R164). -/
def Link.wireLow (raw : Nat) (l : Link) : Nat := if l.rx = .objecting then max raw (objectionDrive l.unit256) else raw

/-- A low of this length on the wire, taken at its rising edge (R159 to R165). -/
def Station.takeWire (low : Nat) (st : Station) : Station :=
  if st.lineAsserted ∨ st.mode = .strapFault then st
  else if classOf (measure st.blocks.link.unit256 low) = .calibration then st.calibrate low
  else if st.mode = .uncalibrated then st.withBlocks (fun b => b.withLink (fun l => { l with rx := .waiting }))
  else st.withBlocks (Blocks.receive (classOf (measure st.blocks.link.unit256 low)))

/-- A low that the others drive this long, with this station's own objection on the wire (R164). -/
def Station.takeLow (raw : Nat) (st : Station) : Station := st.takeWire (st.blocks.link.wireLow raw)

/-- Lows taken in order. -/
def Station.takeLows (lows : List Nat) (st : Station) : Station := lows.foldl (fun st low => st.takeLow low) st

/-- The station stands in a message's end window, whatever it has received of the message (R165). -/
def Station.inEndWindow (st : Station) : Station :=
  if st.mode.frames && !st.lineAsserted && decide (st.blocks.link.rx ≠ .objecting) then
    st.withBlocks (fun b => b.withLink (fun l => { l with rx := .endWindow }))
  else st

/-- The wire high for 16 lu: Waiting gives way to Idle (R163). -/
def Station.reachIdle (st : Station) : Station :=
  if st.lineAsserted ∨ st.mode = .strapFault ∨ st.blocks.link.rx ≠ .waiting then st
  else st.withBlocks (fun b => b.withLink (fun l => { l with rx := .idle }))

/-! ### The end window -/

/-- The message received is damaged (R164 steps 1 to 5). -/
def Link.finds (l : Link) : Bool := l.errorMark || l.rxBits.length % 8 != 0 || damaged (bitsBytes l.rxBits)

/-- The entry to End Window: the message tested, and objected to when it is damaged (R163, R164). -/
def Station.enterWindow (st : Station) : Station :=
  if st.mode.frames && !st.lineAsserted && decide (st.blocks.link.rx = .receiving) then
    st.withBlocks (fun b => b.withLink (fun l => { l with rx := if l.finds then .objecting else .endWindow }))
  else st

/-! ### Contention -/

/-- The length that a sender drives for a bit, in clock periods (R162, log 46). -/
def driveOf (unit256 : Nat) (bit : Bool) : Nat := drivenLow unit256 (cellDrive bit)

/-- The wire's lows, cell by cell, while the head's bits are sent into it, and whether the head was sent whole: a sender
that sent 1 and reads the wire low at 4 lu has lost, and drives no more (R168, log 26). -/
def contention (unit256 : Nat) : List Bool → List Nat → List Nat × Bool
  | [], lows => (lows, true)
  | b :: bits, lows =>
    let low := max (lows.headD 0) (driveOf unit256 b)
    if b && decide (4 ≤ measure unit256 low) then (low :: lows.tail, false)
    else ((low :: (contention unit256 bits lows.tail).1), (contention unit256 bits lows.tail).2)

/-- The station contends: its head is sent into the wire, and it receives what the wire carries (R168). -/
def Station.contend (lows : List Nat) (st : Station) : Station :=
  if st.lineAsserted ∨ !st.mode.frames ∨ st.blocks.link.silent ∨ st.blocks.link.rx ≠ .idle then st
  else match st.blocks.link.queue with
    | [] => st
    | m :: _ =>
      let w := contention st.blocks.link.unit256 (messageBits st.number m) lows
      let t := st.takeLows w.1
      if t.blocks.link.rx = .receiving then
        t.withBlocks (fun b => b.withLink (fun l => { l with sending := if w.2 then .whole else .lost }))
      else t

/-! ### The close of a message -/

/-- The station frames messages now, and is not objecting to the one on the wire (R159, R164, log 3). -/
def Station.framing (st : Station) : Bool :=
  !st.lineAsserted && st.mode.frames && decide (st.blocks.link.rx ≠ .objecting)

/-- The close of an accepted message (R166): its own head settled first, then, unless the source is 6 or 7, the message's
rule, then the end of the event. `own` is the message as this station would have queued it. -/
def Station.close (src : Nat) (own : Option Message) (rule : Station → Station) (st : Station) : Station :=
  if st.framing then
    let settled := st.withBlocks (fun b => b.withLink (Link.closeMessage (decide (src = st.number)) own))
    (if src < 6 then rule settled else settled).settle st
  else st

end Sys2Proof.Machine
end

