-- ==== Sys2Proof/Machine/Defining.lean ====
section
/-! DEFINITION. The meanings of the defining messages (R6 to R13): DEFINE_PAGE, DEFINE_BUTTON, DEFINE_PICTURE and DROP_PAGE. -/

namespace Sys2Proof.Machine

/-- A defining message is taken from source 0 or source 1 (R2). -/
def definer (src : Nat) : Bool := decide (src ≤ 1)

/-- The placements that a maker satisfying `f` made withdrawn, and others added (R13, R108). -/
def Store.replacePlacements (f : Maker → Bool) (added : List Placement) (s : Store) : Store :=
  { s with placements := s.placements.filter (fun pl => !f pl.maker) ++ added }

/-- Every placement of a page. -/
def Maker.ofPage (p : Nat) (m : Maker) : Bool := decide (m.page = some p)

/-- The placement change of a taken defining message handed to the Strip Store (R13). -/
def Station.place (f : Maker → Bool) (added : List Placement) (st : Station) : Station :=
  st.withBlocks (fun b => b.withStore (Store.replacePlacements f added))

/-- A Define Page from an allowed source (R6, R7). -/
def Station.applyDefinePage (src : Nat) (b : DefinePageBody) (st : Station) : Station :=
  if !definer src then st
  else match st.scene.definePage b with
    | .error k => st.refuse k { kind := kindDefinePage, src := src } (some b.page) none
    | .ok pg =>
      (st.withScene (fun sc => sc.setPage b.page (Page.ofBody pg))).place (Maker.ofPage b.page)
        (backgroundPlacements b.page pg.header)

/-- DEFINE_PAGE (R7). -/
def execDefinePage (src : Nat) (body : DefinePageBody) (s : State) : Host.Outcome State Fault Refusal :=
  s.event (Station.close src none (Station.whenRunning (Station.applyDefinePage src body)))

/-- A Define Button from an allowed source (R6, R8). -/
def Station.applyDefineButton (src : Nat) (b : DefineButtonBody) (st : Station) : Station :=
  if !definer src then st
  else match st.scene.defineButton b with
    | .error k => st.refuse k { kind := kindDefineButton, src := src } (some b.page) (some b.button)
    | .ok (pg, o) =>
      (st.withScene (fun sc => sc.setPage b.page (Page.ofBody pg))).place
        (fun m => decide (m = .button b.page o.id)) (buttonPlacements b.page o)

/-- DEFINE_BUTTON (R8). -/
def execDefineButton (src : Nat) (body : DefineButtonBody) (s : State) : Host.Outcome State Fault Refusal :=
  s.event (Station.close src none (Station.whenRunning (Station.applyDefineButton src body)))

/-- A Define Picture from an allowed source (R6, R9). -/
def Station.applyDefinePicture (src : Nat) (b : DefinePictureBody) (st : Station) : Station :=
  if !definer src then st
  else match st.scene.definePicture b with
    | .error k => st.refuse k { kind := kindDefinePicture, src := src } (some b.page) (some b.picture)
    | .ok (pg, o) =>
      (st.withScene (fun sc => sc.setPage b.page (Page.ofBody pg))).place
        (fun m => decide (m = .picture b.page o.id)) [picturePlacement b.page o]

/-- DEFINE_PICTURE (R9). -/
def execDefinePicture (src : Nat) (body : DefinePictureBody) (s : State) : Host.Outcome State Fault Refusal :=
  s.event (Station.close src none (Station.whenRunning (Station.applyDefinePicture src body)))

/-- A Drop Page from an allowed source (R6, R11). -/
def Station.applyDropPage (src page : Nat) (st : Station) : Station :=
  if !definer src then st
  else match st.scene.checkPage page with
    | .error k => st.refuse k { kind := kindDropPage, src := src } (some page) none
    | .ok _ => (st.withScene (fun sc => sc.setPage page .undefined)).place (Maker.ofPage page) []

/-- DROP_PAGE (R11). -/
def execDropPage (src page : Nat) (s : State) : Host.Outcome State Fault Refusal :=
  s.event (Station.close src none (Station.whenRunning (Station.applyDropPage src page)))

end Sys2Proof.Machine
end

