-- ==== Sys2Proof/Machine/Draw.lean ====
section
/-! DEFINITION. What a composition draws (R147 to R150, R156): the pixels of the band image of a snapshot, layer by layer,
and the placements whose strips a snapshot draws (R146). -/

namespace Sys2Proof.Machine

/-! ### Colours -/

/-- Channel `i` of a colour, 0 the alpha, then red, green and blue (section 4.3). -/
def channel (i : Nat) (c : Colour) : Nat := c.toNat / 2 ^ (8 * (3 - i)) % 256

/-- The alpha of a colour. -/
def alphaOf (c : Colour) : Nat := channel 0 c

/-- A colour of four channels. -/
def colourOf (a r g b : Nat) : Colour := BitVec.ofNat 32 (a * 16777216 + r * 65536 + g * 256 + b)

/-- A sum divided by 255 and rounded to the nearest integer (R147); a sum of integers never lies halfway. -/
def over255 (n : Nat) : Nat := (2 * n + 255) / 510

/-- A colour channel of a layer pixel over the image beneath (R147). -/
def mixChannel (a top below : Nat) : Nat := over255 (top * a + below * (255 - a))

/-- A layer pixel laid over the image beneath (R147, log 16). -/
def blend (top below : Colour) : Colour :=
  colourOf (alphaOf top + over255 (alphaOf below * (255 - alphaOf top)))
    (mixChannel (alphaOf top) (channel 1 top) (channel 1 below))
    (mixChannel (alphaOf top) (channel 2 top) (channel 2 below))
    (mixChannel (alphaOf top) (channel 3 top) (channel 3 below))

/-- A pixel with its alpha halved, rounded down (R149). -/
def fadedPixel (c : Colour) : Colour := colourOf (alphaOf c / 2) (channel 1 c) (channel 2 c) (channel 3 c)

/-- One channel of a Fade at step `k` of `l`: a half rounded up (R150). -/
def fadeChannel (k l front back : Nat) : Nat := (2 * (front * (l - k) + back * k) + l) / (2 * l)

/-- A pixel of a Fade at step `k` of `l` (R150). -/
def fadePixel (k l : Nat) (front back : Colour) : Colour :=
  colourOf (fadeChannel k l (channel 0 front) (channel 0 back)) (fadeChannel k l (channel 1 front) (channel 1 back))
    (fadeChannel k l (channel 2 front) (channel 2 back)) (fadeChannel k l (channel 3 front) (channel 3 back))

/-! ### Rows of pixels -/

/-- Pixel (`x`, `y`) of some rows; transparent where the rows hold none. -/
def pixelAt (rows : Rows) (x y : Nat) : Colour := (rows.getD y []).getD x transparent

/-- The pixel lies within a placement's drawn area: to the right of and below its corner, on the screen and within its
rectangle (R147). -/
def Placement.inside (g : Geometry) (pl : Placement) (x y : Nat) : Bool :=
  decide (pl.x ≤ x) && decide (pl.y ≤ y) && decide (x < g.width) && decide (y < pl.bottom g)
    && (match pl.clip with
      | none => true
      | some r => decide (x < r.x + r.width))

/-- The asset record that a snapshot holds. -/
def Snapshot.asset (s : Snapshot) (a : Nat) : Option Asset := Table.find Asset.key { asset := a, index := 0 } s.assets

/-- The Open strip that the snapshot names Ready. -/
def Snapshot.strip (s : Snapshot) (k : Strip) : Option Opened := Table.find Opened.id k s.ready

/-- The pixel that a placement of an asset lays at (`x`, `y`), none where it covers nothing: the Open strip's, or the
placeholder colour (R147, R148). -/
def Snapshot.placed (s : Snapshot) (pl : Placement) (x y : Nat) : Option Colour :=
  if !pl.inside s.geometry x y then none
  else match s.asset pl.asset with
    | none => some s.placeholder
    | some a =>
      if a.width ≤ x - pl.x ∨ a.height ≤ y - pl.y then none
      else match s.strip { asset := pl.asset, index := (y - pl.y) / 8 } with
        | none => some s.placeholder
        | some e => some (pixelAt e.rows (x - pl.x) ((y - pl.y) % 8))

/-- A layer that may cover a pixel laid over the image beneath. -/
def layOver (top : Option Colour) (below : Colour) : Colour :=
  match top with
  | none => below
  | some c => blend c below

/-! ### The slide layer (R150) -/

/-- The rows of a surface at a pixel: decoded, or filled across the asset's width in the fill colour (R131). -/
def SurfaceStrip.pixel (k : Content) (e : SurfaceStrip) (x y : Nat) : Option Colour :=
  if x < k.x ∨ y < k.y ∨ e.width ≤ x - k.x ∨ e.height ≤ y - k.y ∨ (y - k.y) / 8 ≠ e.index then none
  else match e.rows with
    | .filled => some k.fill
    | .decoded rows => some (pixelAt rows (x - k.x) ((y - k.y) % 8))

/-- The slide image of a surface: the fill colour with the surface's rows laid over it; a surface that names no content
is transparent (R150). -/
def Surface.pixel (f : Surface) (x y : Nat) : Colour :=
  match f.content with
  | none => transparent
  | some k => f.strips.foldl (fun below e => layOver (e.pixel k x y) below) k.fill

/-- The first screen row that a Wipe Down still shows the front image in (R150). -/
def wipeBoundary (height k l : Nat) : Nat := height * k / l

/-- The slide layer at a pixel (R150). -/
def Snapshot.slidePixel (s : Snapshot) (x y : Nat) : Colour :=
  match s.transition with
  | none => s.front.pixel x y
  | some t =>
    if t.wipe then
      if y < wipeBoundary s.geometry.height t.step t.length then s.back.pixel x y else s.front.pixel x y
    else fadePixel t.step t.length (s.front.pixel x y) (s.back.pixel x y)

/-! ### The page layers (R147 to R149) -/

/-- The asset a button is drawn with (R149). -/
def Button.appearance (b : Button) (l : Live) : Nat :=
  if !l.enabled then b.normal
  else match l.state with
    | .normal => b.normal
    | .selected => b.selected
    | .activated => b.activated.getD b.selected

/-- The placement of a button in its drawn appearance. -/
def Button.drawn (p : Nat) (b : Button) (l : Live) : Placement :=
  { asset := b.appearance l, x := b.rect.x, y := b.rect.y, clip := some b.rect, maker := .button p b.id }

/-- The state a button is drawn in. -/
def DrawnPage.live (d : DrawnPage) (id : Nat) : Live := d.states[id]?.getD { enabled := false, state := .normal }

/-- The background at a pixel (R147). -/
def Snapshot.backgroundPixel (s : Snapshot) (d : DrawnPage) (x y : Nat) : Option Colour :=
  match d.body.header.background with
  | .colour c => some c
  | .asset a px py => s.placed { asset := a, x := px, y := py, clip := none, maker := .background d.number } x y

/-- A button at a pixel; a disabled button's pixels have their alpha halved (R149). -/
def Snapshot.buttonPixel (s : Snapshot) (d : DrawnPage) (b : Button) (x y : Nat) : Option Colour :=
  let c := s.placed (b.drawn d.number (d.live b.id)) x y
  if (d.live b.id).enabled then c else c.map fadedPixel

/-- The page layers laid over the image beneath: background, pictures by ID, buttons by ID (R147). -/
def Snapshot.pagePixel (s : Snapshot) (d : DrawnPage) (x y : Nat) (below : Colour) : Colour :=
  let back := layOver (s.backgroundPixel d x y) below
  let pictures := d.body.pictures.foldl (fun c o => layOver (s.placed (picturePlacement d.number o) x y) c) back
  d.body.buttons.foldl (fun c b => layOver (s.buttonPixel d b x y) c) pictures

/-- A pixel of the composition of a snapshot (R147). -/
def Snapshot.pixel (s : Snapshot) (x y : Nat) : Colour :=
  let slide := if s.layerOn then blend (s.slidePixel x y) transparent else transparent
  match s.page with
  | none => slide
  | some d => s.pagePixel d x y slide

/-! ### Images and the port (R156) -/

/-- A pixel of a band image. -/
def Image.pixel (i : Image) (x y : Nat) : Colour :=
  match i with
  | .blank => transparent
  | .composed s => s.pixel x y

/-- The rows that a band image drives for a band: each row of the band, each pixel of the screen's width; no band, no
row (R156). -/
def Image.rows (g : Geometry) (i : Image) : Rows :=
  (List.range (g.last - g.first)).map (fun y => (List.range g.width).map (fun x => i.pixel x (g.first + y)))

/-! ### The strips that a snapshot draws (R146) -/

/-- The placements that a drawn page lays: background, pictures, and each button in its drawn appearance. -/
def DrawnPage.placements (d : DrawnPage) : List Placement :=
  backgroundPlacements d.number d.body.header ++ d.body.pictures.map (picturePlacement d.number)
    ++ d.body.buttons.map (fun b => b.drawn d.number (d.live b.id))

/-- The composition draws rows of this strip (R146). -/
def Snapshot.draws (s : Snapshot) (k : Strip) : Bool :=
  match s.page, s.asset k.asset with
  | some d, some a =>
    d.placements.any (fun pl => pl.asset == k.asset && pl.columnsDrawn s.geometry && pl.reaches s.geometry a.height k.index)
  | _, _ => false

end Sys2Proof.Machine
end

