-- ==== Sys2Proof/Machine/Compositor.lean ====
section
/-! DEFINITION. The Band Compositor: the hand-overs of switches (R143, R151) and of a cancellation (R154), and the steps of a
strobe (R141): the page switch (R143), the slide step (R152, R153), the output and the snapshot (R145, R146). -/

namespace Sys2Proof.Machine

/-! ### Hand-overs -/

/-- The catch-up of R143: an earlier page switch not yet reached is treated as reached at once. -/
def Blocks.catchUp (b : Blocks) : Blocks :=
  match b.bc.pageSwitch with
  | none => b
  | some e =>
    (b.withBc (fun c => { c with displayPage := some e.page, heldButtons := none, pageSwitch := none })).withStore
      (Store.setRoles (fun r => { r with display := r.shown }))

/-- A page Switch handed to the Band Compositor (R143): the catch-up, the hold with the buttons `live` of the page being
left, and the lateness test. The overrun report mark is cleared (R155). -/
def Blocks.handPage (page : Nat) (change : Half) (target : Long) (live : List Live) (b : Blocks) : Blocks :=
  let c := b.catchUp
  (c.withBc (fun d => { d with
    heldButtons := if d.displayPage.isSome ∧ d.displayPage ≠ some page then some live else none
    pageSwitch := some { page := page, change := change, target := target, late := isLate d.frame target }
    overrunReported := false })).noteLate .page change target

/-- The kind a switch takes effect by: a length of 0 or 1 makes it a Cut (R79, R151). -/
def effectiveKind (kind : TransitionKind) (length : Nat) : TransitionKind := if length ≤ 1 then .cut else kind

/-- A slide Switch handed to the Band Compositor (R151): an earlier one is dropped. -/
def Blocks.handSlide (e : Slide) (change : Half) (target : Long) (b : Blocks) : Blocks :=
  (b.withBc (fun d => { d with
    slideSwitch := some
      { content := e.content, change := change, kind := effectiveKind e.kind e.length, length := e.length
        target := target, late := isLate d.frame target, awaitingContent := false } })).noteLate .slide change target

/-- The slide layer handed over as off (R154). -/
def Compositor.layerOff (c : Compositor) : Compositor := { c with layerOn := false, transition := none, slideSwitch := none }

/-! ### The page switch step -/

/-- The held page switch is made at the strobe that brings the count to `frame`: it is late, or that is its target
(R143). -/
def Compositor.pageDue (frame : Long) (c : Compositor) : Bool :=
  match c.pageSwitch with
  | none => false
  | some e => e.late || decide (e.target = frame)

/-- The page switch step of R141 (R143). -/
def Blocks.pageStep (b : Blocks) : Blocks := if b.bc.pageDue b.bc.frame then b.catchUp else b

/-! ### The slide step -/

/-- The running transition ends at the next slide step (R153). -/
def Compositor.transitionEnds (c : Compositor) : Bool :=
  match c.transition with
  | none => false
  | some t => decide (t.length ≤ t.step + 1)

/-- The fading role is empty (R115, R152, R153). -/
def Store.emptyFading (s : Store) : Store := s.setRoles (fun r => { r with fading := RoleSet.empty })

/-- The front and back surfaces exchanged. -/
def Compositor.exchange (c : Compositor) : Compositor := { c with front := c.back, back := c.front }

/-- A running transition advances, or ends with the surfaces exchanged (R153). -/
def Blocks.transitionStep (b : Blocks) : Blocks :=
  match b.bc.transition with
  | none => b
  | some t =>
    if t.length ≤ t.step + 1 then
      (b.withBc (fun c => { c.exchange with transition := none })).withStore Store.emptyFading
    else b.withBc (fun c => { c with transition := some { t with step := t.step + 1 } })

/-- A held slide switch that the strobe reaches awaits its content (R152). -/
def SlideSwitch.reach (frame : Long) (w : SlideSwitch) : SlideSwitch :=
  if w.late ∨ w.target = frame then { w with awaitingContent := true } else w

/-- A held slide switch becomes visible now: it awaits its content, no transition runs and the back surface is whole with
it (R152). -/
def Compositor.shows (w : SlideSwitch) (c : Compositor) : Bool :=
  w.awaitingContent && c.transition.isNone && decide (c.back.content = some w.content) && c.back.whole

/-- A slide switch takes effect (R152): a Cut, or any kind while the layer is off, exchanges the surfaces; else a
transition begins at step 1. -/
def Blocks.makeVisible (w : SlideSwitch) (b : Blocks) : Blocks :=
  if w.kind = .cut ∨ b.bc.layerOn = false then
    (b.withBc (fun c => { c.exchange with layerOn := true, slideSwitch := none })).withStore Store.emptyFading
  else
    b.withBc (fun c => { c with
      slideSwitch := none
      transition := some { wipe := decide (w.kind = .wipeDown), length := w.length, step := 1 } })

/-- The examination of the held slide switch (R152). -/
def Blocks.switchStep (b : Blocks) : Blocks :=
  match b.bc.slideSwitch with
  | none => b
  | some w =>
    if b.bc.shows (w.reach b.bc.frame) then b.makeVisible (w.reach b.bc.frame)
    else b.withBc (fun c => { c with slideSwitch := some (w.reach b.bc.frame) })

/-- The slide step of R141. -/
def Blocks.slideStep (b : Blocks) : Blocks := b.transitionStep.switchStep

/-- The held slide switch becomes visible at the next strobe. -/
def Blocks.slideDue (b : Blocks) : Bool :=
  let c := (b.withBc (fun c => { c with frame := c.frame + 1 })).transitionStep
  match c.bc.slideSwitch with
  | none => false
  | some w => c.bc.shows (w.reach c.bc.frame)

/-! ### The output step and the snapshot -/

/-- The page a snapshot copies: the display page, in the states of the held record or the live ones (R145). -/
def Scene.drawnPage (sc : Scene) (c : Compositor) : Option DrawnPage :=
  c.displayPage.bind (fun p => (sc.body p).map
    (fun b => { number := p, body := b, states := c.heldButtons.getD sc.live }))

/-- The Open entries that a snapshot names Ready: those of the display page's strips, but for a strip whose Packed form is
Skipped or Bad, which is drawn in the placeholder colour (R145, R148). -/
def Store.readyToDraw (s : Store) : List Opened :=
  s.opened.filter (fun e => e.ready && s.roles.display.strips.contains e.id && !s.isSpoiled e.id)

/-- The snapshot (R145). -/
def Blocks.snapshot (g : Geometry) (placeholder : Colour) (sc : Scene) (b : Blocks) : Snapshot :=
  { frame := b.bc.frame
    geometry := g
    placeholder := placeholder
    page := sc.drawnPage b.bc
    assets := b.store.assets
    ready := b.store.readyToDraw
    layerOn := b.bc.layerOn
    front := b.bc.front
    back := b.bc.back
    transition := b.bc.transition }

/-- The last-shown frames of the Ready strips that a snapshot draws set to its frame count (R146). -/
def Store.showStrips (s : Snapshot) (t : Store) : Store :=
  { t with opened := t.opened.map (fun e =>
      if (s.strip e.id).isSome && s.draws e.id then { e with lastShown := s.frame } else e) }

/-- The output step and the snapshot step of R141: the port takes the last image, and the composition of a new snapshot
begins. -/
def Blocks.beginFrame (g : Geometry) (placeholder : Colour) (sc : Scene) (b : Blocks) : Blocks :=
  let s := b.snapshot g placeholder sc
  (b.withBc (fun c => { c with port := c.lastImage, composing := some s })).withStore (Store.showStrips s)

/-- The steps of the strobe event of a Running station (R141). -/
def Blocks.strobe (g : Geometry) (placeholder : Colour) (sc : Scene) (b : Blocks) : Blocks :=
  ((((b.noteOverrun.withBc (fun c => { c with frame := c.frame + 1 })).pageStep).slideStep).beginFrame g placeholder sc)

/-- A composition completes: its band image becomes the last image (R155). -/
def Compositor.complete (c : Compositor) : Compositor :=
  match c.composing with
  | none => c
  | some s => { c with lastImage := .composed s, composing := none }

end Sys2Proof.Machine
end

