-- ==== Sys2Proof/Machine/Change.lean ====
section
/-! DEFINITION. Page changes: requests (R49), the guard's test of a request (R71, R72), the beginning of a change (R50 to R53),
activation (R35 to R37), the switch (R56 to R58), and the speaker's takeover (R65, R66). -/

namespace Sys2Proof.Machine

/-! ### A page change begins (R50) -/

/-- Steps 1 to 5 of R50 in the replica: C raised, the page pending, the ready set emptied, A raised. -/
def Scene.beginPage (p : Nat) (sc : Scene) : Scene :=
  { sc with pageChange := sc.pageChange + 1, pendingPage := some p, pageReady := [], activity := sc.activity + 1 }

/-- Step 7 of R50: the speaker's prepare-limit timer started and its mark cleared; elsewhere the absence counter
restarted (R63). -/
def Timers.beginPage (speaker : Bool) (limit : Nat) (change : Half) (t : Timers) : Timers :=
  if speaker then { t with pagePrepare := some { tag := change, remaining := limit }, pageMark := false }
  else { t with absence := some 0 }

/-- The jobs of a superseded change removed (R51, R128). -/
def Decode.dropTagged (change : Half) (d : Decode) : Decode :=
  { d with pageJobs := d.pageJobs.filter (fun j => decide (j.tag ≠ change)) }

/-- The strips of a set whose Packed form is Held and whose Open form is not Ready: those offered as jobs (R53). -/
def Store.offerable (r : RoleSet) (s : Store) : List Strip := r.strips.filter (fun k => s.isHeld k && !s.isReady k)

/-- Step 6 of R50 in the band owner: the superseded change's jobs removed, the need set pinned, its jobs offered and its
short strips put on the Want list (R51 to R53); the exhaustion mark is cleared (R117). DESIGN CHOICE (log 48): the jobs are
offered in order of asset ID and then strip index, and the offers past the thirtieth job are the ones declined. -/
def Blocks.beginPage (g : Geometry) (superseded : Option Half) (change : Half) (pls : List Placement) (b : Blocks) : Blocks :=
  let dropped := match superseded with
    | none => b
    | some old => b.withDecode (Decode.dropTagged old)
  let need := dropped.store.roleSet g pls
  let pinned := dropped.withStore (fun s => { s.setRoles (fun r => { r with pending := need }) with exhausted := false })
  let offered := pinned.withDecode (fun d => { d.offerAll change (pinned.store.offerable need) with pageReadySent := false })
  offered.withStore (Store.wantSet need)

/-- A change to page `p`, whose record is `body`, begins (R50). -/
def Station.beginPage (p : Nat) (body : PageBody) (st : Station) : Station :=
  let superseded := st.scene.pendingPage.map (fun _ => st.scene.pageChange)
  ((st.withScene (Scene.beginPage p)).withTimers
    (Timers.beginPage st.isSpeaker st.prepareLimit (st.scene.pageChange + 1))).withBlocks
    (Blocks.beginPage st.geometry superseded (st.scene.pageChange + 1) (pagePlacements p body))

/-! ### Requests (R49, R71, R72) -/

/-- The guard's wait set or dropped. -/
def Scene.setWait (w : Option Wait) (sc : Scene) : Scene := { sc with guard := { sc.guard with wait := w } }

/-- The request for the prompt page that a wait raises (R72): the answer says whether a change began. -/
def Station.requestPrompt (c : Cause) (st : Station) : Bool × Station :=
  match st.scene.completeBody st.scene.guard.prompt with
  | none => (false, (st.withScene (Scene.setWait none)).refuse .pageUnusable c (some st.scene.guard.prompt) none)
  | some b =>
    if st.scene.guard.allowance < b.header.guardLevel then
      (false, (st.withScene (Scene.setWait none)).refuse .pageUnusable c (some st.scene.guard.prompt) none)
    else (true, st.beginPage st.scene.guard.prompt b)

/-- A request for page `p` (R49), `passed` when a guard success raised it (R71 step 2): the answer says whether a change
began. -/
def Station.request (c : Cause) (passed : Bool) (p : Nat) (st : Station) : Bool × Station :=
  match st.scene.completeBody p with
  | none => (false, st.refuse .pageUnusable c (some p) none)
  | some b =>
    if b.header.guardLevel ≤ st.scene.guard.allowance ∨ passed = true then (true, st.beginPage p b)
    else if st.scene.guard.closed then (false, st.refuse .guardClosed c (some p) none)
    else if st.scene.guard.code.isNone then (true, st.beginPage p b)
    else (st.withScene (Scene.setWait (some { target := p, origin := st.scene.shown }))).requestPrompt c

/-! ### Activation (R35 to R37) -/

/-- The button record of the shown page with this ID. -/
def Scene.buttonOf (sc : Scene) (i : Nat) : Option Button :=
  ((sc.shownBody.map PageBody.buttons).getD []).find? (fun b => b.id == i)

/-- Steps 1 to 3 of an activation: the button Activated and every other one Normal, its effects applied, the entry
emptied (R35). -/
def Scene.activate (i : Nat) (effects : List WordEffect) (sc : Scene) : Scene :=
  { ({ sc with live := markOnly (some i) .activated 0 sc.live }).runEffects effects with entry := [] }

/-- The Report of an activation (R36). -/
def Scene.activationReport (sc : Scene) (i code : Nat) : ReportBody :=
  { kind := 0, page := sc.shown.getD 255, button := some i, code := some code, target := none, attempts := none
    words := sc.words }

/-- Step 4: the speaker queues the Report of a button that carries a report code (R36). -/
def Station.reportActivation (b : Button) (st : Station) : Station :=
  match b.report with
  | none => st
  | some code => if st.isSpeaker then st.enqueue (.report (st.scene.activationReport b.id code)) else st

/-- The activation-hold timer started: 8 frames, tagged with the current A (R39). -/
def Station.startHold (st : Station) : Station :=
  if st.isSpeaker then
    st.withTimers (fun t => { t with hold := some { tag := st.scene.activity, remaining := Config.holdFrames } })
  else st

/-- An activation of button `i` of the shown page (R35 to R37): the answer says whether a page change began. -/
def Station.activate (c : Cause) (i : Nat) (st : Station) : Bool × Station :=
  match st.scene.buttonOf i with
  | none => (false, st)
  | some b =>
    let reported := (st.withScene (Scene.activate i b.effects)).reportActivation b
    match b.goPage with
    | none => (false, reported.startHold)
    | some q =>
      let r := reported.request c false q
      if r.1 then r else (false, r.2.startHold)

/-! ### The Switch of a page change -/

/-- The Switch that closes the pending page change; its target is two frames on (R56, R57). -/
def Station.pageSwitchBody (isPartial : Bool) (p : Nat) (st : Station) : SwitchBody :=
  { stream := 0, index := p, change := st.scene.pageChange, target := st.blocks.bc.frame + Config.switchLead
    partialFlag := if isPartial then 1 else 0 }

/-- The speaker queues the Switch of the pending page change, and after a partial one Fault (Prepare Overdue), and sets
the mark (R56, R57, R66). -/
def Station.queuePageSwitch (isPartial : Bool) (p : Nat) (st : Station) : Station :=
  let marked := (st.enqueue (.switch (st.pageSwitchBody isPartial p))).withTimers
    (fun t => { t with pageMark := true, pagePrepare := none })
  if isPartial then
    marked.enqueue (.fault (overdueFault .page st.scene.pageChange (st.scene.missing st.scene.pageReady)))
  else marked

/-- The Switch of the pending slide change (R94). -/
def Station.slideSwitchBody (isPartial : Bool) (i : Nat) (st : Station) : SwitchBody :=
  { stream := 1, index := i, change := st.scene.slideChange, target := st.blocks.bc.frame + Config.switchLead
    partialFlag := if isPartial then 1 else 0 }

/-- The speaker queues the Switch of the pending slide change, with Fault (Prepare Overdue) after a partial one (R94). -/
def Station.queueSlideSwitch (isPartial : Bool) (i : Nat) (st : Station) : Station :=
  let marked := (st.enqueue (.switch (st.slideSwitchBody isPartial i))).withTimers
    (fun t => { t with slideMark := true, slidePrepare := none })
  if isPartial then
    marked.enqueue (.fault (overdueFault .slide st.scene.slideChange (st.scene.missing st.scene.slideReady)))
  else marked

/-- The page-timeout timer's start for the shown page: its full length, or nothing for a page without a timeout (R40). -/
def Scene.pageTimer (sc : Scene) : Option Timer :=
  match sc.shownBody with
  | none => none
  | some b => if b.header.timeout = 0 then none else some { tag := sc.activity, remaining := 8 * b.header.timeout }

/-- A slide change is pending and not held by a tagged cue (R63). -/
def Scene.slideWaits (sc : Scene) : Bool := sc.pendingIndex.isSome && !sc.held

/-- The absence counter when a Switch has been applied or a Claim: running from 0 while a change is pending (R63, R65). -/
def Scene.absenceStart (sc : Scene) : Option Nat := if sc.pendingPage.isSome || sc.slideWaits then some 0 else none

/-- Step 9 of R58. -/
def Timers.pageSwitched (speaker : Bool) (sc : Scene) (t : Timers) : Timers :=
  if speaker then { t with pageTimeout := sc.pageTimer, pagePrepare := none } else { t with absence := sc.absenceStart }

/-- Step 4 of R58 and the jobs it removes: the shown role takes the pending set, and a job stays queued only for a strip
of the new shown set (R58, R115, R128). -/
def Blocks.shiftPageRoles (b : Blocks) : Blocks :=
  (b.withStore (Store.setRoles (fun r => { r with shown := r.pending, pending := RoleSet.empty }))).withDecode
    (fun d => { d with pageJobs := d.pageJobs.filter (fun j => b.store.roles.pending.strips.contains j.id) })

/-- An applied page Switch (R58), its tests already passed. -/
def Station.switchPage (p : Nat) (target : Long) (st : Station) : Station :=
  let sc := st.scene.switchPage p
  ((st.withBlocks (fun b => (b.handPage p st.scene.pageChange target st.scene.live).shiftPageRoles)).withScene
    (fun _ => sc)).withTimers (Timers.pageSwitched st.isSpeaker sc)

/-- The tests of R58: the source is the speaker, the change number current, the page pending. -/
def Scene.takesPageSwitch (sc : Scene) (src p : Nat) (change : Half) : Bool :=
  decide (sc.speaker = some src) && decide (sc.pendingPage = some p) && decide (sc.pageChange = change)

/-! ### Ready -/

/-- A Ready of the page stream joins the ready set (R55). -/
def Scene.takesPageReady (sc : Scene) (src p : Nat) (change : Half) : Bool :=
  sc.owners.contains src && decide (sc.pendingPage = some p) && decide (sc.pageChange = change)

/-- The speaker's full Switch when the page ready set becomes complete with the mark clear (R56). -/
def Station.closePage (p : Nat) (st : Station) : Station :=
  if st.isSpeaker && !st.timers.pageMark && st.scene.allIn st.scene.pageReady then st.queuePageSwitch false p else st

/-- A page Ready taken (R55, R56); a source already in the set changes nothing. -/
def Station.takePageReady (src p : Nat) (st : Station) : Station :=
  if st.scene.pageReady.contains src then st
  else (st.withScene (fun sc => { sc with pageReady := Stations.insert src sc.pageReady })).closePage p

/-! ### Claim Speaker (R65, R66, R101) -/

/-- The timers of a station that is not the speaker after a Claim: those it kept idle without expiry, its marks cleared,
the absence counter from 0 (R65). -/
def Timers.standDown (sc : Scene) : Timers := { Timers.reset with absence := sc.absenceStart }

/-- The timers of a station that becomes the speaker, or that is it already and claims again (R65, R66, R101). DESIGN CHOICE
(log 39): a timer of the latter that R66 and R101 do not start again is idle. -/
def Timers.takeUp (sc : Scene) (t : Timers) : Timers :=
  { t with
    pageTimeout := sc.pageTimer
    hold := if sc.activatedButton.isSome ∧ sc.pendingPage = none then
        some { tag := sc.activity, remaining := Config.holdFrames }
      else none
    slideDuration := if sc.show_ = .playing ∧ sc.pendingIndex = none then
        sc.slides[sc.current]?.bind (fun e =>
          if e.duration = 0 then none else some { tag := sc.slideChange, remaining := e.duration })
      else none
    pagePrepare := none
    slidePrepare := none
    elapsed := 0
    remaining := none
    absence := none }

/-- The new speaker closes the pending page change as at its prepare limit (R66). -/
def Station.claimPage (st : Station) : Station :=
  match st.scene.pendingPage with
  | none => st
  | some p => st.queuePageSwitch (!st.scene.allIn st.scene.pageReady) p

/-- The new speaker closes the pending slide change, unless it is held (R66, R101). -/
def Station.claimSlide (st : Station) : Station :=
  match st.scene.pendingIndex with
  | none => st
  | some i => if st.scene.held then st else st.queueSlideSwitch (!st.scene.allIn st.scene.slideReady) i

/-- An applied Claim Speaker from a band owner (R65, R66). -/
def Station.claim (src : Nat) (st : Station) : Station :=
  let named := (st.withScene (fun sc => { sc with speaker := some src })).withBlocks (fun b => b.withLink Link.dropClaims)
  if src = st.number then ((named.withTimers (Timers.takeUp named.scene)).claimPage).claimSlide
  else named.withTimers (fun _ => Timers.standDown named.scene)

end Sys2Proof.Machine
end

