-- ==== Sys2Proof/Machine/Navigation.lean ====
section
/-! DEFINITION. Keys (R24 to R34), the guard's Enter (R73 to R76), and the action of a valid Expire for the shown page (R41 to
R43). -/

namespace Sys2Proof.Machine

/-! ### The guard's Enter -/

/-- The Report of a refused code (R75). -/
def Scene.refusedReport (sc : Scene) (target : Nat) : ReportBody :=
  { kind := 1, page := sc.shown.getD 255, button := none, code := none, target := some target
    attempts := some sc.guard.attempts, words := sc.words }

/-- A guard success in the replica (R74 steps 1 to 3). -/
def Scene.guardSuccess (sc : Scene) : Scene :=
  { sc with entry := [], guard := { sc.guard with attempts := 4, closed := false, wait := none } }

/-- A wrong code in the replica (R75 steps 1 and 2). -/
def Scene.spendAttempt (sc : Scene) : Scene :=
  { sc with entry := [], guard := { sc.guard with attempts := sc.guard.attempts - 1 } }

/-- The guard closed in the replica (R76 steps 1 and 2). -/
def Scene.closeGuard (sc : Scene) : Scene := { sc with guard := { sc.guard with closed := true, wait := none } }

/-- The viewer returned to the origin page when the guard closes (R76 step 3). -/
def Station.returnToOrigin (c : Cause) (w : Wait) (st : Station) : Bool × Station :=
  match w.origin with
  | none => (false, st)
  | some o => st.request c false o

/-- Four digits unequal to the code (R75, R76). -/
def Station.refuseCode (c : Cause) (w : Wait) (st : Station) : Bool × Station :=
  let spent := st.withScene Scene.spendAttempt
  let reported := if spent.isSpeaker then spent.enqueue (.report (spent.scene.refusedReport w.target)) else spent
  if spent.scene.guard.attempts = 0 then (reported.withScene Scene.closeGuard).returnToOrigin c w else (false, reported)

/-- The Selected button activated, if there is one (R33 step 2). -/
def Station.enterSelected (c : Cause) (st : Station) : Bool × Station :=
  match st.scene.selectedButton with
  | none => (false, st)
  | some i => st.activate c i

/-- The entry of four digits passes: it equals the code digit by digit, or the code is absent (R73). -/
def Guard.passes (entry : List Nat) (g : Guard) : Bool :=
  match g.code with
  | none => true
  | some d => decide (entry = d)

/-- Enter on the prompt page while a wait is present (R73). -/
def Station.enterGuard (c : Cause) (w : Wait) (st : Station) : Bool × Station :=
  if st.scene.entry.isEmpty then st.enterSelected c
  else if st.scene.entry.length < 4 then (false, st)
  else if st.scene.guard.passes st.scene.entry then (st.withScene Scene.guardSuccess).request c true w.target
  else st.refuseCode c w

/-! ### Keys -/

/-- Enter on a page that does not serve the guard (R33). -/
def Station.enterPlain (c : Cause) (st : Station) : Bool × Station :=
  match st.scene.numberedButton with
  | some i => st.activate c i
  | none => st.enterSelected c

/-- The wait that Enter on the shown page serves (R73). -/
def Scene.servedWait (sc : Scene) : Option Wait := if sc.shown = some sc.guard.prompt then sc.guard.wait else none

/-- Enter (R25 step 3). -/
def Station.enter (c : Cause) (st : Station) : Bool × Station :=
  match st.scene.servedWait with
  | some w => st.enterGuard c w
  | none => st.enterPlain c

/-- The action of a key; `origin` is the button Selected or Activated when the Key was applied (R24, R28 to R33). -/
def Station.keyAction (c : Cause) (origin : Option Nat) (a : KeyAction) (st : Station) : Bool × Station :=
  match a with
  | .digit d => (false, st.withScene (fun sc => { sc with entry := appendDigit sc.entry d }))
  | .move d => (false, st.withScene (fun sc => sc.move origin d))
  | .enter => st.enter c
  | .clear => (false, st.withScene (fun sc => { sc with entry := [] }))
  | .nothing => (false, st)

/-- The speaker's page timeout restarted by a Key whose event began no page change (R25 step 4, R40). -/
def Station.restartTimeout (began : Bool) (st : Station) : Station :=
  if st.isSpeaker && !began then
    match st.scene.pageTimer with
    | none => st
    | some t => st.withTimers (fun u => { u with pageTimeout := some t })
  else st

/-- A Key applied while a page is shown (R25). -/
def Station.pressKey (c : Cause) (a : KeyAction) (st : Station) : Station :=
  let origin := st.scene.chosenButton
  let r := (st.withScene (fun sc => sc.raiseActivity.closeActivation)).keyAction c origin a
  r.2.restartTimeout r.1

/-! ### Expire -/

/-- The shown page's on-timeout action (R43). -/
def Station.timeoutAction (c : Cause) (a : OnTimeout) (st : Station) : Station :=
  match a with
  | .none => st
  | .go q => (st.request c false q).2
  | .activateSelected => (st.enterSelected c).2

/-- A valid Expire (Page Timeout): the action of the shown page's record (R43). -/
def Station.takeTimeout (c : Cause) (st : Station) : Station :=
  match st.scene.shownBody with
  | none => st
  | some b => st.timeoutAction c b.header.onTimeout

end Sys2Proof.Machine
end

