-- ==== Sys2Proof/Machine/Input.lean ====
section
/-! DEFINITION. The meanings of the player controller's messages to the scene: KEY (R25), GO (R48), WORD_SET (R16), GUARD_SET
(R69) and GUARD_FREEZE (R70). -/

namespace Sys2Proof.Machine

/-- A Key from source 0 while a page is shown (R24, R25). -/
def Station.applyKey (src code : Nat) (st : Station) : Station :=
  if src = 0 ∧ st.scene.shown.isSome then st.pressKey { kind := kindKey, src := src } (readKey code) else st

/-- KEY (R25). -/
def execKey (src code : Nat) (s : State) : Host.Outcome State Fault Refusal :=
  s.event (Station.close src none (Station.whenRunning (Station.applyKey src code)))

/-- A Go from source 0 (R48): a page number above 63 raises no request and is refused. -/
def Station.applyGo (src page : Nat) (st : Station) : Station :=
  if src ≠ 0 then st
  else if 63 < page then st.refuse .pageUnusable { kind := kindGo, src := src } (some page) none
  else (st.request { kind := kindGo, src := src } false page).2

/-- GO (R48). -/
def execGo (src page : Nat) (s : State) : Host.Outcome State Fault Refusal :=
  s.event (Station.close src none (Station.whenRunning (Station.applyGo src page)))

/-- A Word Set from source 0 (R16): a word number above 7 is refused. -/
def Station.applyWordSet (src word : Nat) (value : Half) (st : Station) : Station :=
  if src ≠ 0 then st
  else if 7 < word then st.refuse .badDefinition { kind := kindWordSet, src := src } (some word) none
  else st.withScene (fun sc => sc.setWord word value)

/-- WORD_SET (R16). -/
def execWordSet (src word : Nat) (value : Half) (s : State) : Host.Outcome State Fault Refusal :=
  s.event (Station.close src none (Station.whenRunning (Station.applyWordSet src word value)))

/-- A Guard Set from source 0 or 1, decided in the order of R69. -/
def Station.applyGuardSet (src : Nat) (code : Half) (allowance prompt : Nat) (st : Station) : Station :=
  if 1 < src then st
  else if st.scene.guard.frozen then st.refuse .guardFrozen { kind := kindGuardSet, src := src } none none
  else match readCode code with
    | none => st.refuse .badDefinition { kind := kindGuardSet, src := src } none none
    | some digits =>
      if 7 < allowance ∨ 63 < prompt then st.refuse .badDefinition { kind := kindGuardSet, src := src } none none
      else st.withScene (fun sc => { sc with guard := { sc.guard with code := digits, allowance := allowance, prompt := prompt } })

/-- GUARD_SET (R69). -/
def execGuardSet (src : Nat) (code : Half) (allowance prompt : Nat) (s : State) : Host.Outcome State Fault Refusal :=
  s.event (Station.close src none (Station.whenRunning (Station.applyGuardSet src code allowance prompt)))

/-- A Guard Freeze from source 0 (R70). -/
def Station.applyGuardFreeze (src : Nat) (st : Station) : Station :=
  if src = 0 then st.withScene (fun sc => { sc with guard := { sc.guard with frozen := true } }) else st

/-- GUARD_FREEZE (R70). -/
def execGuardFreeze (src : Nat) (s : State) : Host.Outcome State Fault Refusal :=
  s.event (Station.close src none (Station.whenRunning (Station.applyGuardFreeze src)))

end Sys2Proof.Machine
end

