-- ==== Sys2Proof/Machine/Joining.lean ====
section
/-! DEFINITION. The meanings of the messages that the station state logic takes: SCENE_RESET (R180), LAYOUT (R176 to R178) and
PRESENT (R175). -/

namespace Sys2Proof.Machine

/-! ### Scene Reset -/

/-- The scene replica after a Scene Reset in Running: emptied, the band-owner list kept, the lowest-numbered owner the
speaker (R23, R67, R78, R102). -/
def Scene.emptied (sc : Scene) : Scene := { Scene.reset with owners := sc.owners, speaker := sc.owners.min? }

/-- The Link Interface after a Scene Reset: the queue emptied, the count 0, Link Silent cleared (R158). -/
def Link.emptied (l : Link) : Link := { l with queue := [], objections := 0, silent := false }

/-- The Band Compositor after a Scene Reset in Running: the frame count, the overrun flag and the late-switch count kept
(R142, R157); the port drives blank (log 30). -/
def Compositor.emptied (c : Compositor) : Compositor :=
  { Compositor.reset with frame := c.frame, overrun := c.overrun, lateCount := c.lateCount }

/-- The strip that a Check in progress tests still lies after its position. -/
def Running.checkJob (r : Running) : Option CheckJob :=
  match r with
  | .check c _ => some c
  | _ => none

/-- The Check queued or in progress (R136). -/
def Decode.currentCheck (d : Decode) : Option CheckJob :=
  match d.check with
  | some c => some c
  | none => d.running.bind Running.checkJob

/-- The Check Done of a Check cut short: its strips not yet checked counted in the directory as it stood (R139). -/
def Blocks.cutShort (b : Blocks) : Option CheckDoneBody :=
  b.decode.currentCheck.map (fun c => c.report (b.store.unchecked c).length)

/-- The blocks after a Scene Reset in Running; a Check cut short queues its Check Done into the emptied queue (R122, R138,
R139, R157, R158). -/
def Blocks.emptied (b : Blocks) : Blocks :=
  let e : Blocks := { link := b.link.emptied, store := Store.reset, decode := Decode.reset, bc := b.bc.emptied }
  match b.cutShort with
  | none => e
  | some d => e.enqueue (.checkDone d)

/-- A Scene Reset from source 0 by station state (R180). -/
def Station.sceneReset (st : Station) : Station :=
  match st.mode with
  | .running => { st with scene := st.scene.emptied, timers := Timers.reset, blocks := st.blocks.emptied }
  | .joining => (st.withBlocks (fun b => b.withLink Link.emptied)).enqueue st.present
  | .spare => st.withBlocks (fun b => b.withLink Link.emptied)
  | _ => st

/-- SCENE_RESET (R180): from any source but 0 it is ignored. -/
def execSceneReset (src : Nat) (s : State) : Host.Outcome State Fault Refusal :=
  s.event (Station.close src none (fun st => if src = 0 then st.sceneReset else st))

/-! ### Layout -/

/-- The owners a Layout names, in station-number order (R177). -/
def Layout.owners (l : Layout) : List Nat := Stations.sort (l.bands.map Band.owner)

/-- The scene replica of a station that becomes Running (R177). -/
def Scene.started (owners : List Nat) : Scene := { Scene.reset with owners := owners, speaker := owners.min? }

/-- A Layout taken by a Joining station (R177): Running when it names the station, else Spare. -/
def Station.takeLayout (l : Layout) (st : Station) : Station :=
  if l.owners.contains st.number then
    { st with
      mode := .running
      layout := some l
      scene := Scene.started l.owners
      timers := Timers.reset
      blocks := { st.blocks with
        store := Store.reset, decode := Decode.reset, bc := { Compositor.reset with frame := st.blocks.bc.frame } } }
  else { st with mode := .spare, layout := some l }

/-- A Layout from source 0 by station state (R176, R178): refused in Running, taken in Joining when valid. -/
def Station.applyLayout (b : LayoutBody) (st : Station) : Station :=
  match st.mode with
  | .running => st.refuse .layoutRefused { kind := kindLayout, src := 0 } none none
  | .joining => if layoutValid b then st.takeLayout (layoutOf b) else st
  | _ => st

/-- LAYOUT (R177): from any source but 0 it is ignored. -/
def execLayout (src : Nat) (body : LayoutBody) (s : State) : Host.Outcome State Fault Refusal :=
  s.event (Station.close src none (fun st => if src = 0 then st.applyLayout body else st))

/-! ### Present -/

/-- PRESENT (R175): passed over; the sender's own head is settled. -/
def execPresent (src station units : Nat) (s : State) : Host.Outcome State Fault Refusal :=
  s.event (Station.close src (some (.present station units)) id)

end Sys2Proof.Machine
end

