-- ==== Sys2Proof/Machine/Answers.lean ====
section
/-! DEFINITION. The Answer logic (R181 to R186). -/

namespace Sys2Proof.Machine

/-- The station state as Station Status carries it (12.1). -/
def Mode.code : Mode → Nat
  | .joining => 0
  | .running => 1
  | .spare => 2
  | .strapFault => 0
  | .uncalibrated => 0

/-- Jobs in the Decode Unit's queue: not the one in progress, not the suspended batch (R123, R182). -/
def Decode.depth (d : Decode) : Nat :=
  d.pageJobs.length + (if d.batch.isSome then 1 else 0) + (if d.check.isSome then 1 else 0)

/-- Station Status (R182). -/
def Station.statusData (st : Station) : AnswerData :=
  .status st.mode.code (decide (st.mode = .running) && st.isSpeaker) st.blocks.link.overflow st.blocks.bc.overrun
    st.blocks.bc.lateCount st.blocks.store.freeUnits st.blocks.link.queue.length st.blocks.decode.depth
    st.blocks.decode.suspended.isSome

/-- Packed entries of an asset that satisfy `f`. -/
def Store.countPacked (f : Packed → Bool) (a : Nat) (s : Store) : Nat :=
  (s.packed.filter (fun e => e.id.asset == a && f e)).length

/-- Asset (R183). -/
def Store.assetData (a : Nat) (s : Store) : AnswerData :=
  match s.asset a with
  | none => .asset none none 0 0 0 0 0
  | some r => .asset (some r.width) (some r.height)
      (s.countPacked (fun e => e.state == .held) a) (s.countPacked (fun e => e.state == .skipped) a)
      (s.countPacked (fun e => e.state == .bad && e.failures == 1) a)
      (s.countPacked (fun e => e.state == .bad && decide (2 ≤ e.failures)) a)
      ((s.opened.filter (fun e => e.id.asset == a && e.ready)).length)

/-- The job in progress is on a strip of the asset (R183). -/
def Decode.worksOn (a : Nat) (d : Decode) : Bool :=
  match d.running with
  | none => false
  | some r => r.strip.asset == a

/-- The slide state as Scene Digest carries it (12.1). -/
def Show.code : Show → Nat
  | .stopped => 0
  | .playing => 1
  | .paused => 2

/-- Scene Digest (R184). -/
def Scene.digestData (sc : Scene) : AnswerData :=
  .digest sc.shown sc.pendingPage sc.chosenButton sc.activatedButton.isSome sc.activity sc.pageChange sc.slideChange
    sc.show_.code sc.held sc.current sc.pendingIndex sc.words sc.guard.attempts

/-- A change of either stream is pending, held or not (R184). -/
def Scene.changing (sc : Scene) : Bool := sc.pendingPage.isSome || sc.pendingIndex.isSome

/-- Page (R185). -/
def Scene.pageData (p : Nat) (sc : Scene) : AnswerData :=
  if 63 < p then .page none false false false 0 0 [] []
  else match sc.pages.getD p .undefined with
    | .undefined => .page (some 0) (decide (sc.shown = some p)) (decide (sc.pendingPage = some p))
        (decide (sc.leaving = some p)) 0 0 [] []
    | .defining b => .page (some 1) (decide (sc.shown = some p)) (decide (sc.pendingPage = some p))
        (decide (sc.leaving = some p)) b.header.buttons b.header.pictures (b.buttons.map Button.id) (b.pictures.map Picture.id)
    | .complete b => .page (some 2) (decide (sc.shown = some p)) (decide (sc.pendingPage = some p))
        (decide (sc.leaving = some p)) b.header.buttons b.header.pictures (b.buttons.map Button.id) (b.pictures.map Picture.id)

/-- The Answer to an Ask (R181 to R186): only a Running station holds a scene and keeps strips. -/
def Station.answer (topic argument : Nat) (st : Station) : AnswerBody :=
  if topic = 0 then { topic := topic, argument := argument, busy := false, data := st.statusData }
  else if st.mode = .running then
    match topic with
    | 1 => { topic := topic, argument := argument, busy := st.blocks.decode.worksOn argument
             data := st.blocks.store.assetData argument }
    | 2 => { topic := topic, argument := argument, busy := st.scene.changing, data := st.scene.digestData }
    | 3 => { topic := topic, argument := argument, busy := false, data := st.scene.pageData argument }
    | _ => { topic := topic, argument := argument, busy := true, data := .empty }
  else { topic := topic, argument := argument, busy := true, data := .empty }

/-- The Answer queued; the overflow flag is cleared first when its topic is Station Status (R172, R181, R182). -/
def Station.giveAnswer (topic argument : Nat) (st : Station) : Station :=
  let cleared := if topic = 0 then st.withBlocks (fun b => b.withLink Link.takeOverflow) else st
  cleared.enqueue (.answer (st.answer topic argument))

end Sys2Proof.Machine
end

