-- ==== Sys2Proof/Machine/Line.lean ====
section
/-! DEFINITION. The meanings of the commands of the reset line and of the wire: RESET_RELEASE, RESET_ASSERTED, CALIBRATION_PULSE,
CONTEND, END_WINDOW, MESSAGE_VOIDED, IDLE_REACHED, STRAY_LOW, UNKNOWN_KIND_CLOSE. -/

namespace Sys2Proof.Machine

/-- RESET_RELEASE (R173): every block takes its reset values, and the straps give the number. -/
def execResetRelease (straps : Nat) (s : State) : Host.Outcome State Fault Refusal :=
  s.event (fun _ => Station.atRelease straps)

/-- The station while the reset line is asserted: it drives nothing on the wire and the blank image on the port (R173,
log 28). -/
def Station.holdReset (st : Station) : Station :=
  { st.withBlocks (fun b => (b.withLink (fun l => { l with sending := .none })).withBc (fun c => { c with port := .blank })) with
    lineAsserted := true }

/-- RESET_ASSERTED (R173). -/
def execResetAsserted (s : State) : Host.Outcome State Fault Refusal := s.event Station.holdReset

/-- CALIBRATION_PULSE (R161): a low of this length ends. -/
def execCalibrationPulse (low : Nat) (s : State) : Host.Outcome State Fault Refusal := s.event (Station.takeLow low)

/-- CONTEND (R168). -/
def execContend (lows : List Nat) (s : State) : Host.Outcome State Fault Refusal := s.event (Station.contend lows)

/-- END_WINDOW (R164): the last lows of the message, then 12 lu of high. -/
def execEndWindow (lows : List Nat) (s : State) : Host.Outcome State Fault Refusal :=
  s.event (fun st => (st.takeLows lows).enterWindow)

/-- A low that began in a message's end window ends (R165), with the end of the event for the Wants it may bring
(R120). -/
def Station.voidMessage (low : Nat) (st : Station) : Station :=
  if st.lineAsserted then st else (st.inEndWindow.takeLow low).settle st

/-- MESSAGE_VOIDED (R165). -/
def execMessageVoided (low : Nat) (s : State) : Host.Outcome State Fault Refusal := s.event (Station.voidMessage low)

/-- IDLE_REACHED (R163). -/
def execIdleReached (s : State) : Host.Outcome State Fault Refusal := s.event Station.reachIdle

/-- STRAY_LOW (R163). -/
def execStrayLow (low : Nat) (s : State) : Host.Outcome State Fault Refusal := s.event (Station.takeLow low)

/-- UNKNOWN_KIND_CLOSE (R166): the message is ignored, its close is not; a kind that the part knows, from a source that
may send, closes by its own command. -/
def execUnknownKindClose (kind src : Nat) (s : State) : Host.Outcome State Fault Refusal :=
  s.event (fun st => if knownKind kind && decide (src < 6) then st else st.close src none id)

end Sys2Proof.Machine
end

