-- ==== Sys2Proof/Machine/Services.lean ====
section
/-! DEFINITION. The meanings of the messages that the Strip Store, the Decode Unit and the Answer logic take, and of the messages
that every station passes over: WANT (R121), CHECK (R136), ASK (R181), REPORT, FAULT, ANSWER and CHECK_DONE (R166). -/

namespace Sys2Proof.Machine

/-- A Want from an EW412 station (R121): the station's own ends its outstanding state, another's trims the Want list. -/
def Station.applyWant (src : Nat) (b : WantBody) (st : Station) : Station :=
  if src < 2 ∨ 5 < src then st
  else if src = st.number then
    st.withBlocks (fun c => c.withStore (fun s => { s with outstanding := s.outstanding.erase b.asset }))
  else st.withBlocks (fun c => c.withStore (Store.withWants (removeWanted b)))

/-- WANT (R121). -/
def execWant (src : Nat) (body : WantBody) (s : State) : Host.Outcome State Fault Refusal :=
  s.event (Station.close src (some (.want body)) (Station.whenRunning (Station.applyWant src body)))

/-- The Check job of a range: `count` assets from `first`, to asset 1023 at most; count 0 runs to the last (R136). A count
above 1024 reaches asset 1023 as well (log 24). -/
def checkJobOf (first count : Nat) : CheckJob :=
  { first := first, stop := if count = 0 then 1024 else min 1024 (first + count)
    position := none, checked := 0, bad := 0, firstBad := none }

/-- A Check is queued or in progress (R136). -/
def Decode.checking (d : Decode) : Bool :=
  d.check.isSome || (match d.running with
    | some (.check _ _) => true
    | _ => false)

/-- A Check from source 0 to this station (R136): a first asset above 1023 gives an empty range, and the job completes at
once. -/
def Station.applyCheck (src station first count : Nat) (st : Station) : Station :=
  if src ≠ 0 ∨ station ≠ st.number then st
  else if st.blocks.decode.checking then st.enqueue (.fault (checkBusyFault first count))
  else if 1023 < first then st.enqueue (.checkDone ((checkJobOf first count).report 0))
  else st.withBlocks (fun b => b.withDecode (fun d => { d with check := some (checkJobOf first count) }))

/-- CHECK (R136). -/
def execCheck (src station first count : Nat) (s : State) : Host.Outcome State Fault Refusal :=
  s.event (Station.close src none (Station.whenRunning (Station.applyCheck src station first count)))

/-- An Ask from source 0 to this station (R181). -/
def Station.applyAsk (src station topic argument : Nat) (st : Station) : Station :=
  if src = 0 ∧ station = st.number then st.giveAnswer topic argument else st

/-- ASK (R181): applied in Joining, Running and Spare. -/
def execAsk (src station topic argument : Nat) (s : State) : Host.Outcome State Fault Refusal :=
  s.event (Station.close src none (Station.applyAsk src station topic argument))

/-- REPORT (R166): passed over; the sender's own head is settled. -/
def execReport (src : Nat) (body : ReportBody) (s : State) : Host.Outcome State Fault Refusal :=
  s.event (Station.close src (some (.report body)) id)

/-- FAULT (R187): passed over; the sender's own head is settled. -/
def execFault (src : Nat) (body : FaultBody) (s : State) : Host.Outcome State Fault Refusal :=
  s.event (Station.close src (some (.fault body)) id)

/-- ANSWER (R166): passed over; the sender's own head is settled. -/
def execAnswer (src : Nat) (body : AnswerBody) (s : State) : Host.Outcome State Fault Refusal :=
  s.event (Station.close src (some (.answer body)) id)

/-- CHECK_DONE (R166): passed over; the sender's own head is settled. -/
def execCheckDone (src : Nat) (body : CheckDoneBody) (s : State) : Host.Outcome State Fault Refusal :=
  s.event (Station.close src (some (.checkDone body)) id)

end Sys2Proof.Machine
end

