-- ==== Sys2Proof/Machine/SlideShow.lean ====
section
/-! DEFINITION. The slide show: the slide list (R79 to R82), the slide messages' tests (R84), play, pause, step and seek (R85
to R88), the slide change protocol (R92 to R96) and the cues (R97 to R100). -/

namespace Sys2Proof.Machine

/-! ### Cues that fire -/

/-- The cue is an armed Tagged cue on this tag (R98). -/
def Cue.firesOn (tag : Nat) (c : Cue) : Bool := c.armed && !c.forced && decide (c.trigger = tag)

/-- A cue disarmed. -/
def Cue.disarm (c : Cue) : Cue := { c with armed := false }

/-- A bit set in a scene word by a Forced cue, with the decision of R18 (R100). -/
def Scene.setBit (w b : Nat) (sc : Scene) : Scene := sc.runEffects [.setBit w b]

/-- The effect of a Tagged cue that fires (R98); what a changed word decides waits for the event's end (R18). -/
def Scene.tagEffect (e : CueEffect) (sc : Scene) : Scene :=
  match e with
  | .pause => { sc with show_ := .paused, held := true }
  | .reportOnly => sc
  | .setBit w b => { sc with words := applyEffect sc.entry sc.words (.setBit w b) }

/-- The effect changes a scene word. -/
def CueEffect.setsWord (e : CueEffect) : Bool :=
  match e with
  | .setBit _ _ => true
  | _ => false

/-- The effects of the cues that fire, in order, and then one decision of the enabled states when a word was set (R18,
R98). -/
def Scene.tagEffects (l : List Cue) (sc : Scene) : Scene :=
  let fired := l.foldl (fun s c => s.tagEffect c.effect) sc
  if l.any (fun c => c.effect.setsWord) then fired.recompute else fired

/-- The cues that fire on a tag: their numbers, in index order (R98). -/
def firing (tag : Nat) : Nat → List Cue → List Nat
  | _, [] => []
  | i, c :: l => if c.firesOn tag then i :: firing tag (i + 1) l else firing tag (i + 1) l

/-- The Tagged cues of an entry fire: their effects in index order, each cue disarmed (R98). -/
def Scene.fireTagged (tag : Nat) (sc : Scene) : Scene :=
  let fired := sc.tagEffects (sc.cues.filter (Cue.firesOn tag))
  { fired with cues := fired.cues.map (fun c => if c.firesOn tag then c.disarm else c) }

/-- The Cue Hit of a Tagged cue (R98). -/
def Scene.taggedHit (sc : Scene) (tag slide i : Nat) : CueHitBody :=
  { index := i, kind := 1, trigger := tag, slide := slide, change := sc.slideChange }

/-! ### A slide change begins (R92) -/

/-- Steps 1 and 2 of R92 in the replica: a superseded change's hold dropped, S raised, the index pending, the ready set
emptied. -/
def Scene.raiseSlide (i : Nat) (sc : Scene) : Scene :=
  { sc with held := false, slideChange := sc.slideChange + 1, pendingIndex := some i, slideReady := [] }

/-- Step 3 of R92. -/
def Scene.testTag (tag : Option Nat) (sc : Scene) : Scene :=
  match tag with
  | none => sc
  | some t => sc.fireTagged t

/-- The replica's part of a slide change to entry `i` (R92). -/
def Scene.beginSlide (i : Nat) (e : Slide) (sc : Scene) : Scene := (sc.raiseSlide i).testTag e.tag

/-- Steps 5 and 6 of R92, with the stop of R98 in the speaker when a Pause cue fired; the timer and the mark that a superseded
change left do not outlive it (log 53). -/
def Timers.beginSlide (speaker : Bool) (limit : Nat) (sc : Scene) (t : Timers) : Timers :=
  if speaker then
    if sc.held then { t with slidePrepare := none, slideMark := false, remaining := none }
    else { t with slidePrepare := some { tag := sc.slideChange, remaining := limit }, slideMark := false }
  else if sc.held then { t with absence := if sc.pendingPage.isSome then t.absence else none }
  else { t with absence := some 0 }

/-- Steps 1 and 4 of R92 in the band owner: the superseded change's queued work removed, the entry's strips pinned for
the pending slide role and its batch met (R132); the exhaustion mark is cleared (R117). -/
def Blocks.beginSlide (g : Geometry) (superseded : Bool) (k : Content) (change : Half) (b : Blocks) : Blocks :=
  let dropped := if superseded then b.withDecode Decode.dropQueuedAdvance else b
  let need := dropped.store.roleSet g [slidePlacement k]
  let pinned := dropped.withStore (fun s => { s.setRoles (fun r => { r with pendingSlide := need }) with exhausted := false })
  (pinned.withDecode (fun d => { d with slideReadySent := false, reported := none })).meetSlide g k change

/-- Messages queued in order. -/
def Station.enqueueAll (ms : List Message) (st : Station) : Station := ms.foldl (fun st m => st.enqueue m) st

/-- The Cue Hits of a slide change: from the speaker, one for each cue that fired (R98). -/
def Station.hitTagged (cues : List Cue) (tag : Option Nat) (i : Nat) (st : Station) : Station :=
  match tag with
  | none => st
  | some t =>
    if st.isSpeaker then st.enqueueAll ((firing t 0 cues).map (fun k => .cueHit (st.scene.taggedHit t i k))) else st

/-- A slide change to entry `i` begins (R92); an index that names no entry begins none. -/
def Station.beginSlide (i : Nat) (st : Station) : Station :=
  match st.scene.slides[i]? with
  | none => st
  | some e =>
    let sc := st.scene.beginSlide i e
    let begun := ((st.withScene (fun _ => sc)).withTimers (Timers.beginSlide st.isSpeaker st.prepareLimit sc)).withBlocks
      (Blocks.beginSlide st.geometry st.scene.pendingIndex.isSome e.content sc.slideChange)
    begun.hitTagged st.scene.cues e.tag i

/-! ### Held changes, pauses and cancellations -/

/-- A held change released by Play or Step: its Switch queued at once (R94). -/
def Station.releaseHold (st : Station) : Station :=
  let released := st.withScene (fun sc => { sc with held := false })
  match released.scene.pendingIndex with
  | none => released
  | some i =>
    if released.isSpeaker then released.queueSlideSwitch (!released.scene.allIn released.scene.slideReady) i
    else released.withTimers (fun t => { t with absence := some 0 })

/-- The duration timer stopped with its frames kept (R86). -/
def Timers.pauseSlide (change : Half) (t : Timers) : Timers :=
  { t with
    slideDuration := none
    remaining := match t.slideDuration with
      | none => none
      | some d => if d.tag = change then some d.remaining else none }

/-- A show that is Playing becomes Paused (R86, R100). -/
def Station.pauseShow (st : Station) : Station :=
  let paused := st.withScene (fun sc => { sc with show_ := .paused })
  if st.isSpeaker then paused.withTimers (Timers.pauseSlide st.scene.slideChange) else paused

/-- The replica's part of a cancellation (R96). -/
def Scene.cancelSlide (sc : Scene) : Scene := { sc with show_ := .stopped, pendingIndex := none, slideReady := [], held := false }

/-- The timers' part of a cancellation (R89, R96): without a slide change pending the absence counter runs on for a page
change alone. -/
def Timers.cancelSlide (speaker : Bool) (sc : Scene) (t : Timers) : Timers :=
  if speaker then { t with slidePrepare := none, slideDuration := none, slideMark := false, remaining := none }
  else { t with absence := if sc.pendingPage.isSome then t.absence else none }

/-- The blocks' part of a cancellation (R96, R133, R154). -/
def Blocks.cancelSlide (b : Blocks) : Blocks :=
  ((b.withStore (Store.setRoles (fun r => { r with
      pendingSlide := RoleSet.empty, currentSlide := RoleSet.empty, fading := RoleSet.empty }))).withDecode
    Decode.removeBatches).withBc Compositor.layerOff

/-- The show becomes Stopped and a pending change is cancelled (R96). -/
def Station.cancelSlide (st : Station) : Station :=
  ((st.withScene Scene.cancelSlide).withTimers (Timers.cancelSlide st.isSpeaker st.scene)).withBlocks Blocks.cancelSlide

/-! ### The slide list -/

/-- The first placement of a slide entry's content withdrawn (R81, R108). -/
def Store.withdrawSlide (k : Content) (s : Store) : Store := { s with placements := s.placements.erase (slidePlacement k) }

/-- The placements of every slide entry withdrawn (R82). -/
def Store.withdrawSlides (s : Store) : Store :=
  { s with placements := s.placements.filter (fun pl => decide (pl.maker ≠ .slide)) }

/-- The placement of a new entry added (R80). -/
def Store.addSlide (k : Content) (s : Store) : Store := { s with placements := s.placements ++ [slidePlacement k] }

/-- The current index after the Remove of index `i` from `n` entries (R81). -/
def currentAfter (i c n : Nat) : Nat := if i < c then c - 1 else if i = c ∧ i + 1 = n then c - 1 else c

/-- The pending index after the Remove of an index other than its own (R81). -/
def pendingAfter (i : Nat) (p : Option Nat) : Option Nat := p.map (fun p => if i < p then p - 1 else p)

/-- The entry removed and both indices set (R81). -/
def Scene.removeSlide (i : Nat) (sc : Scene) : Scene :=
  { sc with
    slides := sc.slides.eraseIdx i
    current := currentAfter i sc.current sc.slides.length
    pendingIndex := pendingAfter i sc.pendingIndex }

/-- The entry that a Remove of index `i` raises a request for, in a replica from which it has been removed (R81):
`pending` and `current` are the indices before the Remove. -/
def Scene.removeRequest (i : Nat) (pending : Option Nat) (current : Nat) (sc : Scene) : Option Nat :=
  if pending = some i then some (min i (sc.slides.length - 1))
  else if sc.show_ = .paused ∧ i = current ∧ pending = none then some sc.current
  else none

/-- A Remove of an index that names an entry (R81). -/
def Station.removeSlide (i : Nat) (e : Slide) (st : Station) : Station :=
  let removed := (st.withScene (Scene.removeSlide i)).withBlocks (fun b => b.withStore (Store.withdrawSlide e.content))
  if removed.scene.slides.isEmpty then (removed.withScene (fun sc => { sc with current := 0 })).cancelSlide
  else match removed.scene.removeRequest i st.scene.pendingIndex st.scene.current with
    | none => removed
    | some j => removed.beginSlide j

/-- A Clear taken (R82). -/
def Station.clearSlides (st : Station) : Station :=
  ((st.withScene (fun sc => { sc with slides := [], current := 0 })).withBlocks
    (fun b => b.withStore Store.withdrawSlides)).cancelSlide

/-! ### Play, Step and Seek -/

/-- The duration timer's start at a Play in Paused: the remaining duration, or the current entry's when it is Full
(R89). DEDUCED (log 54): a start with a length of 0 leaves idle a timer that still ran too. -/
def Scene.durationTimer (sc : Scene) (remaining : Option Nat) : Option Timer :=
  sc.slides[sc.current]?.bind (fun e =>
    if remaining.getD e.duration = 0 then none else some { tag := sc.slideChange, remaining := remaining.getD e.duration })

/-- A Play taken in Stopped with entries in the list (R85). -/
def Station.playStopped (loop : Bool) (st : Station) : Station :=
  let playing := st.withScene (fun sc => { sc with loop := loop, show_ := .playing })
  let counted := if st.isSpeaker then playing.withTimers (fun t => { t with elapsed := 0, remaining := none }) else playing
  counted.beginSlide st.scene.current

/-- A Play taken in Paused (R85). -/
def Station.playPaused (loop : Bool) (st : Station) : Station :=
  let playing := st.withScene (fun sc => { sc with loop := loop, show_ := .playing })
  if st.scene.held then playing.releaseHold
  else if st.isSpeaker && st.scene.pendingIndex.isNone then
    playing.withTimers (fun t => { t with slideDuration := playing.scene.durationTimer t.remaining })
  else playing

/-- A Step taken in Paused (R87). -/
def Station.stepSlide (st : Station) : Station :=
  if st.scene.held then st.releaseHold
  else match st.scene.nextIndex (st.scene.pendingIndex.getD st.scene.current) with
    | none => st
    | some j => st.beginSlide j

/-- A Seek to an index that names an entry (R88). -/
def Station.seekSlide (i : Nat) (st : Station) : Station :=
  if st.scene.show_ = .stopped then st.withScene (fun sc => { sc with current := i })
  else
    let counted := if st.isSpeaker then st.withTimers (fun t => { t with elapsed := 0 }) else st
    counted.beginSlide i

/-! ### The Switch, Ready and Expire of the slide stream -/

/-- Steps 4 and 5 of R95. DEDUCED (log 54): the duration timer that a superseded run left running is idle after the Switch to an
entry of duration 0, as after any start with a length of 0 (R89). -/
def Timers.slideSwitched (speaker : Bool) (sc : Scene) (e : Slide) (t : Timers) : Timers :=
  if speaker then
    if sc.show_ = .playing then
      { t with
        slidePrepare := none
        slideDuration := if e.duration = 0 then none else some { tag := sc.slideChange, remaining := e.duration } }
    else { t with slidePrepare := none, remaining := none }
  else { t with absence := sc.absenceStart }

/-- Step 3 of R95: the pending slide's pins become the current slide's, and the old current slide's pass to the fading
role for a Fade or Wipe Down (R115). -/
def Store.shiftSlideRoles (fades : Bool) (s : Store) : Store :=
  s.setRoles (fun r => { r with
    currentSlide := r.pendingSlide, pendingSlide := RoleSet.empty
    fading := if fades then r.currentSlide else RoleSet.empty })

/-- An applied slide Switch (R95), its tests already passed. -/
def Station.switchSlide (i : Nat) (e : Slide) (target : Long) (st : Station) : Station :=
  let sc : Scene := { st.scene with current := i, pendingIndex := none, slideReady := [], held := false }
  let fades := decide (effectiveKind e.kind e.length ≠ .cut)
  ((st.withScene (fun _ => sc)).withBlocks
    (fun b => (b.handSlide e sc.slideChange target).withStore (Store.shiftSlideRoles fades))).withTimers
    (Timers.slideSwitched st.isSpeaker sc e)

/-- The speaker's full Switch when the slide ready set becomes complete with the mark clear and no hold (R94). -/
def Station.closeSlide (i : Nat) (st : Station) : Station :=
  if st.isSpeaker && !st.timers.slideMark && !st.scene.held && st.scene.allIn st.scene.slideReady then
    st.queueSlideSwitch false i
  else st

/-- A slide Ready taken (R93, R94); a source already in the set changes nothing. -/
def Station.takeSlideReady (src i : Nat) (st : Station) : Station :=
  if st.scene.slideReady.contains src then st
  else (st.withScene (fun sc => { sc with slideReady := Stations.insert src sc.slideReady })).closeSlide i

/-- A valid Expire (Slide Duration) advances the show, or pauses it on its last entry (R90). -/
def Station.advanceShow (st : Station) : Station :=
  match st.scene.nextIndex st.scene.current with
  | some j => st.beginSlide j
  | none =>
    let paused := st.withScene (fun sc => { sc with show_ := .paused })
    if st.isSpeaker then paused.withTimers (fun t => { t with remaining := none }) else paused

/-! ### Cue Hits (R100) -/

/-- Cue `k` is armed, Forced and holds this trigger (R100). -/
def Scene.forcedArmed (sc : Scene) (k trigger : Nat) : Option Cue :=
  match sc.cues[k]? with
  | none => none
  | some c => if c.armed ∧ c.forced ∧ c.trigger = trigger then some c else none

/-- A Cue Hit of a Forced cue that takes effect (R100). -/
def Station.hitForced (k : Nat) (c : Cue) (st : Station) : Station :=
  let disarmed := st.withScene (fun sc => { sc with cues := sc.cues.set k c.disarm })
  match c.effect with
  | .pause => if st.scene.show_ = .playing then disarmed.pauseShow else disarmed
  | .reportOnly => disarmed
  | .setBit w b => disarmed.withScene (Scene.setBit w b)

end Sys2Proof.Machine
end

