-- ==== Sys2Proof/Machine/Slides.lean ====
section
/-! DEFINITION. The meanings of the slide messages (R79 to R88) and of the cue messages (R97, R100). -/

namespace Sys2Proof.Machine

/-- A slide message is refused in this slide state, or for its index (R84). -/
def Station.refuseSlide (k : FaultKind) (kind src : Nat) (index : Option Nat) (st : Station) : Station :=
  st.refuse k { kind := kind, src := src } index none

/-- A Slide Append from source 0, checked in the order of R80. -/
def Station.applySlideAppend (src : Nat) (b : AppendBody) (st : Station) : Station :=
  if src ≠ 0 then st
  else if Config.slideLimit ≤ st.scene.slides.length then st.refuseSlide .listFull kindSlideAppend src none
  else match readSlide b with
    | none => st.refuseSlide .badDefinition kindSlideAppend src none
    | some e =>
      (st.withScene (fun sc => { sc with slides := sc.slides ++ [e] })).withBlocks
        (fun b => b.withStore (Store.addSlide e.content))

/-- SLIDE_APPEND (R80). -/
def execSlideAppend (src : Nat) (body : AppendBody) (s : State) : Host.Outcome State Fault Refusal :=
  s.event (Station.close src none (Station.whenRunning (Station.applySlideAppend src body)))

/-- A Slide Remove from source 0 (R81, R84). -/
def Station.applySlideRemove (src index : Nat) (st : Station) : Station :=
  if src ≠ 0 then st
  else if st.scene.show_ = .playing then st.refuseSlide .slideBusy kindSlideRemove src (some index)
  else match st.scene.slides[index]? with
    | none => st.refuseSlide .badDefinition kindSlideRemove src (some index)
    | some e => st.removeSlide index e

/-- SLIDE_REMOVE (R81). -/
def execSlideRemove (src index : Nat) (s : State) : Host.Outcome State Fault Refusal :=
  s.event (Station.close src none (Station.whenRunning (Station.applySlideRemove src index)))

/-- A Slide Clear from source 0 (R82, R84). -/
def Station.applySlideClear (src : Nat) (st : Station) : Station :=
  if src ≠ 0 then st
  else if st.scene.show_ = .playing then st.refuseSlide .slideBusy kindSlideClear src none
  else st.clearSlides

/-- SLIDE_CLEAR (R82). -/
def execSlideClear (src : Nat) (s : State) : Host.Outcome State Fault Refusal :=
  s.event (Station.close src none (Station.whenRunning (Station.applySlideClear src)))

/-- A Slide Play from source 0 (R84, R85); a loop flag other than 0 and 1 is out of range, and the message is ignored
(R188, log 25). -/
def Station.applySlidePlay (src loop : Nat) (st : Station) : Station :=
  if src ≠ 0 then st
  else match readFlag loop with
    | none => st
    | some f =>
      match st.scene.show_ with
      | .stopped => if st.scene.slides.isEmpty then st else st.playStopped f
      | .playing => st.refuseSlide .slideBusy kindSlidePlay src none
      | .paused => st.playPaused f

/-- SLIDE_PLAY (R85). -/
def execSlidePlay (src loop : Nat) (s : State) : Host.Outcome State Fault Refusal :=
  s.event (Station.close src none (Station.whenRunning (Station.applySlidePlay src loop)))

/-- A Slide Pause from source 0 (R84, R86). -/
def Station.applySlidePause (src : Nat) (st : Station) : Station :=
  if src ≠ 0 then st
  else if st.scene.show_ = .playing then st.pauseShow
  else st.refuseSlide .slideBusy kindSlidePause src none

/-- SLIDE_PAUSE (R86). -/
def execSlidePause (src : Nat) (s : State) : Host.Outcome State Fault Refusal :=
  s.event (Station.close src none (Station.whenRunning (Station.applySlidePause src)))

/-- A Slide Step from source 0 (R84, R87). -/
def Station.applySlideStep (src : Nat) (st : Station) : Station :=
  if src ≠ 0 then st
  else if st.scene.show_ = .paused then st.stepSlide
  else st.refuseSlide .slideBusy kindSlideStep src none

/-- SLIDE_STEP (R87). -/
def execSlideStep (src : Nat) (s : State) : Host.Outcome State Fault Refusal :=
  s.event (Station.close src none (Station.whenRunning (Station.applySlideStep src)))

/-- A Slide Seek from source 0 (R84, R88). -/
def Station.applySlideSeek (src index : Nat) (st : Station) : Station :=
  if src ≠ 0 then st
  else if st.scene.slides.length ≤ index then st.refuseSlide .badDefinition kindSlideSeek src (some index)
  else st.seekSlide index

/-- SLIDE_SEEK (R88). -/
def execSlideSeek (src index : Nat) (s : State) : Host.Outcome State Fault Refusal :=
  s.event (Station.close src none (Station.whenRunning (Station.applySlideSeek src index)))

/-! ### Cues -/

/-- A Cue Set from source 0 (R97). -/
def Station.applyCueSet (src : Nat) (b : CueSetBody) (st : Station) : Station :=
  if src ≠ 0 then st
  else if 7 < b.index then st.refuse .badDefinition { kind := kindCueSet, src := src } (some b.index) none
  else match readCue b with
    | none => st.refuse .badDefinition { kind := kindCueSet, src := src } (some b.index) none
    | some c => st.withScene (fun sc => { sc with cues := sc.cues.set b.index c })

/-- CUE_SET (R97). -/
def execCueSet (src : Nat) (body : CueSetBody) (s : State) : Host.Outcome State Fault Refusal :=
  s.event (Station.close src none (Station.whenRunning (Station.applyCueSet src body)))

/-- A Cue Clear from source 0 (R97). -/
def Station.applyCueClear (src index : Nat) (st : Station) : Station :=
  if src ≠ 0 then st
  else if 7 < index then st.refuse .badDefinition { kind := kindCueClear, src := src } (some index) none
  else st.withScene (fun sc => { sc with cues := sc.cues.modify index Cue.disarm })

/-- CUE_CLEAR (R97). -/
def execCueClear (src index : Nat) (s : State) : Host.Outcome State Fault Refusal :=
  s.event (Station.close src none (Station.whenRunning (Station.applyCueClear src index)))

/-- A Cue Hit from the speaker (R100): Tagged it is a report, Forced it takes effect on an armed cue that matches. -/
def Station.applyCueHit (src : Nat) (b : CueHitBody) (st : Station) : Station :=
  if st.scene.speaker = some src ∧ b.kind = 0 then
    match st.scene.forcedArmed b.index b.trigger with
    | none => st
    | some c => st.hitForced b.index c
  else st

/-- CUE_HIT (R100). -/
def execCueHit (src : Nat) (body : CueHitBody) (s : State) : Host.Outcome State Fault Refusal :=
  s.event (Station.close src (some (.cueHit body)) (Station.whenRunning (Station.applyCueHit src body)))

end Sys2Proof.Machine
end

