-- ==== Sys2Proof/Machine/Speaking.lean ====
section
/-! DEFINITION. The meanings of the messages that stations send one another about the scene: CLAIM_SPEAKER (R65), SWITCH (R58,
R95), EXPIRE (R41) and READY (R55, R93). -/

namespace Sys2Proof.Machine

/-- CLAIM_SPEAKER (R65): from a source that owns no band it is ignored. -/
def execClaimSpeaker (src : Nat) (s : State) : Host.Outcome State Fault Refusal :=
  s.event (Station.close src (some .claim)
    (Station.whenRunning (fun st => if st.scene.owners.contains src then st.claim src else st)))

/-- A Switch of the slide stream (R95). -/
def Station.applySlideSwitch (src : Nat) (b : SwitchBody) (st : Station) : Station :=
  match st.scene.pendingIndex with
  | none => st
  | some i =>
    match st.scene.slides[i]? with
    | none => st
    | some e =>
      if st.scene.speaker = some src ∧ st.scene.slideChange = b.change then st.switchSlide i e b.target else st

/-- A Switch of the page stream (R58). -/
def Station.applyPageSwitch (src : Nat) (b : SwitchBody) (st : Station) : Station :=
  if st.scene.takesPageSwitch src b.index b.change then st.switchPage b.index b.target else st

/-- A Switch by its stream; a code that names no stream is ignored (R188). -/
def Station.applySwitch (src : Nat) (b : SwitchBody) (st : Station) : Station :=
  match readStream b.stream with
  | none => st
  | some .page => st.applyPageSwitch src b
  | some .slide => st.applySlideSwitch src b

/-- SWITCH (R58, R95). -/
def execSwitch (src : Nat) (body : SwitchBody) (s : State) : Host.Outcome State Fault Refusal :=
  s.event (Station.close src (some (.switch body)) (Station.whenRunning (Station.applySwitch src body)))

/-- An Expire from the speaker, by its timer kind, when its tag is valid (R41, R90). -/
def Station.applyExpire (src : Nat) (b : ExpireBody) (st : Station) : Station :=
  if st.scene.speaker ≠ some src then st
  else match b.timer with
    | 0 => if b.tag = st.scene.activity ∧ st.scene.shown.isSome then st.takeTimeout { kind := kindExpire, src := src } else st
    | 1 =>
      if b.tag = st.scene.activity ∧ st.scene.activatedButton.isSome then st.withScene Scene.closeActivation else st
    | 2 =>
      if b.tag = st.scene.slideChange ∧ st.scene.show_ = .playing ∧ st.scene.held = false then st.advanceShow else st
    | _ => st

/-- EXPIRE (R41). -/
def execExpire (src : Nat) (body : ExpireBody) (s : State) : Host.Outcome State Fault Refusal :=
  s.event (Station.close src (some (.expire body)) (Station.whenRunning (Station.applyExpire src body)))

/-- A Ready of the slide stream (R93): its index is not tested. -/
def Station.applySlideReady (src : Nat) (b : ReadyBody) (st : Station) : Station :=
  match st.scene.pendingIndex with
  | none => st
  | some i => if st.scene.owners.contains src ∧ st.scene.slideChange = b.change then st.takeSlideReady src i else st

/-- A Ready of the page stream (R55). -/
def Station.applyPageReady (src : Nat) (b : ReadyBody) (st : Station) : Station :=
  if st.scene.takesPageReady src b.index b.change then st.takePageReady src b.index else st

/-- A Ready by its stream; a code that names no stream is ignored (R188). -/
def Station.applyReady (src : Nat) (b : ReadyBody) (st : Station) : Station :=
  match readStream b.stream with
  | none => st
  | some .page => st.applyPageReady src b
  | some .slide => st.applySlideReady src b

/-- READY (R55, R93). -/
def execReady (src : Nat) (body : ReadyBody) (s : State) : Host.Outcome State Fault Refusal :=
  s.event (Station.close src (some (.ready body)) (Station.whenRunning (Station.applyReady src body)))

end Sys2Proof.Machine
end

