-- ==== Sys2Proof/Machine/Pulse.lean ====
section
/-! DEFINITION. The strobe event at a station: the Band Compositor's steps (R141), then the Speaker Timers' (R38, R57, R63, R64,
R89, R91, R94, R99) in the order of log 7, and the tests that say which of them the next pulse will bring. -/

namespace Sys2Proof.Machine

/-! ### The timers at a pulse -/

/-- The timer expires at the next pulse (R38). -/
def timerDue (t : Option Timer) : Bool :=
  match t with
  | none => false
  | some u => decide (u.remaining ≤ 1)

/-- A timer after a pulse: one frame less, or idle (R38). -/
def timerTick (t : Option Timer) : Option Timer :=
  match t with
  | none => none
  | some u => if u.remaining ≤ 1 then none else some { u with remaining := u.remaining - 1 }

/-- The Expire that an expiring timer queues (R38, R89). -/
def Station.queueExpire (kind : Nat) (t : Option Timer) (st : Station) : Station :=
  match t with
  | none => st
  | some u => if u.remaining ≤ 1 then st.enqueue (.expire { timer := kind, tag := u.tag }) else st

/-- The page-timeout timer's pulse (R38). -/
def Station.tickPageTimeout (st : Station) : Station :=
  (st.withTimers (fun t => { t with pageTimeout := timerTick t.pageTimeout })).queueExpire 0 st.timers.pageTimeout

/-- The activation-hold timer's pulse (R38, R39). -/
def Station.tickHold (st : Station) : Station :=
  (st.withTimers (fun t => { t with hold := timerTick t.hold })).queueExpire 1 st.timers.hold

/-- The slide-duration timer's pulse (R89). -/
def Station.tickDuration (st : Station) : Station :=
  (st.withTimers (fun t => { t with slideDuration := timerTick t.slideDuration })).queueExpire 2 st.timers.slideDuration

/-- The page stream's prepare-limit timer's pulse: at its expiry a partial Switch, unless the mark is set or no change is
pending (R57). -/
def Station.tickPagePrepare (st : Station) : Station :=
  let ticked := st.withTimers (fun t => { t with pagePrepare := timerTick t.pagePrepare })
  match st.scene.pendingPage with
  | none => ticked
  | some p => if timerDue st.timers.pagePrepare && !st.timers.pageMark then ticked.queuePageSwitch true p else ticked

/-- The slide stream's prepare-limit timer's pulse (R94). -/
def Station.tickSlidePrepare (st : Station) : Station :=
  let ticked := st.withTimers (fun t => { t with slidePrepare := timerTick t.slidePrepare })
  match st.scene.pendingIndex with
  | none => ticked
  | some i => if timerDue st.timers.slidePrepare && !st.timers.slideMark then ticked.queueSlideSwitch true i else ticked

/-- The elapsed count rises at the next pulse (R91). -/
def Station.counts (st : Station) : Bool :=
  st.isSpeaker && decide (st.scene.show_ = .playing) && decide (st.timers.elapsed < Config.elapsedLimit)

/-- The armed Forced cues whose trigger equals the count: their numbers, in index order (R99). -/
def reached (count : Nat) : Nat → List Cue → List Nat
  | _, [] => []
  | i, c :: l =>
    if c.armed ∧ c.forced ∧ c.trigger = count then i :: reached count (i + 1) l else reached count (i + 1) l

/-- The Cue Hit of a Forced cue (R99). -/
def Scene.forcedHit (sc : Scene) (count i : Nat) : CueHitBody :=
  { index := i, kind := 0, trigger := count, slide := sc.current, change := sc.slideChange }

/-- The elapsed count's pulse and the forced-cue watch (R91, R99). -/
def Station.tickElapsed (st : Station) : Station :=
  if st.counts then
    (st.withTimers (fun t => { t with elapsed := t.elapsed + 1 })).enqueueAll
      ((reached (st.timers.elapsed + 1) 0 st.scene.cues).map
        (fun i => .cueHit (st.scene.forcedHit (st.timers.elapsed + 1) i)))
  else st

/-- The absence threshold: the prepare limit and 16 frames for each rank (R64). -/
def Station.absenceLimit (st : Station) : Nat := st.prepareLimit + Config.rankMargin * st.scene.rank st.number

/-- The absence counter's pulse: at its threshold a Claim, unless one is in the queue (R63, R64). -/
def Station.tickAbsence (st : Station) : Station :=
  match st.timers.absence with
  | none => st
  | some n =>
    let ticked := st.withTimers (fun t => { t with absence := some (n + 1) })
    if n + 1 = st.absenceLimit ∧ ¬ st.blocks.link.queue.contains .claim then ticked.enqueue .claim else ticked

/-- The Speaker Timers at a pulse. -/
def Station.tick (st : Station) : Station :=
  st.tickPageTimeout.tickHold.tickDuration.tickPagePrepare.tickSlidePrepare.tickElapsed.tickAbsence

/-! ### The strobe event -/

/-- The strobe event of a Running station (R141). -/
def Station.strobeRunning (st : Station) : Station :=
  ((st.withBlocks (Blocks.strobe st.geometry st.placeholder st.scene)).tick).settle st

/-- The strobe event in Uncalibrated, Joining and Spare: the frame count alone, and the blank image (R140, R156). -/
def Station.strobeIdle (st : Station) : Station :=
  st.withBlocks (fun b => b.withBc (fun c => { c with frame := c.frame + 1, port := .blank }))

/-- A Frame Strobe pulse (R140): a station in Strap Fault, or held in reset, does not count (R173). -/
def Station.strobe (st : Station) : Station :=
  if st.lineAsserted then st
  else match st.mode with
    | .strapFault => st
    | .running => st.strobeRunning
    | _ => st.strobeIdle

/-- A pulse that the table names by what it brings: the whole strobe event when this pulse brings it, else nothing
(log 5). -/
def Station.strobeWhen (due : Bool) (st : Station) : Station :=
  if due && decide (st.mode = .running) then st.strobe else st

/-! ### What the next pulse will bring -/

/-- The next pulse makes the held page switch (R143). -/
def Station.pageSwitchDue (st : Station) : Bool := st.blocks.bc.pageDue (st.blocks.bc.frame + 1)

/-- The next pulse makes the held slide switch visible (R152). -/
def Station.slideSwitchDue (st : Station) : Bool := st.blocks.slideDue

/-- The next pulse ends the running transition (R153). -/
def Station.transitionDue (st : Station) : Bool := st.blocks.bc.transitionEnds

/-- The next pulse is an expiry of the stream's prepare-limit timer that queues a Switch (R57, R94). -/
def Station.prepareDue (stream : Stream) (st : Station) : Bool :=
  match stream with
  | .page => timerDue st.timers.pagePrepare && !st.timers.pageMark && st.scene.pendingPage.isSome
  | .slide => timerDue st.timers.slidePrepare && !st.timers.slideMark && st.scene.pendingIndex.isSome

/-- The next pulse brings the absence counter to its threshold (R64). -/
def Station.absenceDue (st : Station) : Bool :=
  match st.timers.absence with
  | none => false
  | some n => decide (n + 1 = st.absenceLimit)

/-- The next pulse brings the elapsed count to the trigger of an armed Forced cue (R99). -/
def Station.forcedDue (st : Station) : Bool := st.counts && !(reached (st.timers.elapsed + 1) 0 st.scene.cues).isEmpty

end Sys2Proof.Machine
end

