-- ==== Sys2Proof/Machine/Strobe.lean ====
section
/-! DEFINITION. The meanings of the Frame Strobe's commands: FRAME_STROBE (R141), and the pulses that the table names by what
they bring, each the whole strobe event when the next pulse brings it (log 5). -/

namespace Sys2Proof.Machine

/-- FRAME_STROBE (R141). -/
def execFrameStrobe (s : State) : Host.Outcome State Fault Refusal := s.event Station.strobe

/-- PAGE_SWITCH_TARGET (R143). -/
def execPageSwitchTarget (s : State) : Host.Outcome State Fault Refusal :=
  s.event (fun st => st.strobeWhen st.pageSwitchDue)

/-- SLIDE_SWITCH_VISIBLE (R152). -/
def execSlideSwitchVisible (s : State) : Host.Outcome State Fault Refusal :=
  s.event (fun st => st.strobeWhen st.slideSwitchDue)

/-- TRANSITION_END (R153). -/
def execTransitionEnd (s : State) : Host.Outcome State Fault Refusal := s.event (fun st => st.strobeWhen st.transitionDue)

/-- PAGE_TIMEOUT_EXPIRY (R38). -/
def execPageTimeoutExpiry (s : State) : Host.Outcome State Fault Refusal :=
  s.event (fun st => st.strobeWhen (timerDue st.timers.pageTimeout))

/-- HOLD_EXPIRY (R39). -/
def execHoldExpiry (s : State) : Host.Outcome State Fault Refusal :=
  s.event (fun st => st.strobeWhen (timerDue st.timers.hold))

/-- SLIDE_DURATION_EXPIRY (R89). -/
def execSlideDurationExpiry (s : State) : Host.Outcome State Fault Refusal :=
  s.event (fun st => st.strobeWhen (timerDue st.timers.slideDuration))

/-- PREPARE_LIMIT_EXPIRY (R57, R94). -/
def execPrepareLimitExpiry (stream : Stream) (s : State) : Host.Outcome State Fault Refusal :=
  s.event (fun st => st.strobeWhen (st.prepareDue stream))

/-- ABSENCE_THRESHOLD (R64). -/
def execAbsenceThreshold (s : State) : Host.Outcome State Fault Refusal :=
  s.event (fun st => st.strobeWhen st.absenceDue)

/-- FORCED_CUE_WATCH (R99). -/
def execForcedCueWatch (s : State) : Host.Outcome State Fault Refusal :=
  s.event (fun st => st.strobeWhen st.forcedDue)

end Sys2Proof.Machine
end

