-- ==== Sys2Proof/Machine/Intake.lean ====
section
/-! DEFINITION. Stream Intake: the header test (R105), the asset record (R104), the classing of a strip (R108) and its storing
(R109 to R112). -/

namespace Sys2Proof.Machine

/-- Tests 1 and 2 of R105, and test 3 against the record. -/
def Store.headerPasses (q : Segment) (s : Store) : Bool :=
  isAsset q.asset && decide (8 ≤ q.width) && decide (q.width ≤ 3840) && decide (8 ≤ q.height) && decide (q.height ≤ 2160)
    && decide (1 ≤ q.length) && decide (q.length ≤ 65535) && decide (q.index < stripCount q.height)
    && (match s.asset q.asset with
      | none => true
      | some a => decide (a.width = q.width) && decide (a.height = q.height))

/-- Every role set with an asset resolved (R104, R114). -/
def Roles.resolve (g : Geometry) (s : Store) (a : Nat) (r : Roles) : Roles :=
  { display := r.display.resolve g s a
    shown := r.shown.resolve g s a
    pending := r.pending.resolve g s a
    currentSlide := r.currentSlide.resolve g s a
    pendingSlide := r.pendingSlide.resolve g s a
    fading := r.fading.resolve g s a }

/-- The strips of every role set, in order. -/
def Roles.allStrips (r : Roles) : List Strip :=
  ((r.display.strips ++ r.shown.strips ++ r.pending.strips ++ r.currentSlide.strips ++ r.pendingSlide.strips
    ++ r.fading.strips)).foldl (fun l k => Strip.insert k l) []

/-- A batch whose strip list was not known, now that its asset has a record (R104, R129). -/
def Store.listStrips (g : Geometry) (s : Store) (q : Batch) : Batch :=
  match q.strips with
  | some _ => q
  | none => { q with strips := s.batchStrips g q.content }

/-- The batch waits for the strips of this asset. -/
def Batch.unlisted (a : Nat) (q : Batch) : Bool := q.strips.isNone && q.content.asset == a

/-- The strips that the listing of a batch adds. -/
def Store.listedStrips (g : Geometry) (s : Store) (a : Nat) (q : Option Batch) : List Strip :=
  match q with
  | none => []
  | some b => if b.unlisted a then (s.listStrips g b).pendingStrips else []

/-- A batch of the asset listed. -/
def Store.listBatch (g : Geometry) (s : Store) (a : Nat) (q : Option Batch) : Option Batch :=
  q.map (fun b => if b.unlisted a then s.listStrips g b else b)

/-- The asset's record made present (R104): its whole-asset range leaves the Want list, the role sets and the waiting
batches are resolved, and the strips this adds that are short join the Want list. -/
def Blocks.addAsset (g : Geometry) (a : Asset) (b : Blocks) : Blocks :=
  let known := b.withStore (fun s => { s with
    assets := Table.put Asset.key a s.assets, wants := removeWhole a.id s.wants })
  let resolved := known.withStore (fun s => s.setRoles (fun r => r.resolve g s a.id))
  let before := b.store.roles.allStrips
  let added := resolved.store.roles.allStrips.filter (fun k => !before.contains k)
  let listed := resolved.withDecode (fun d => { d with
    batch := resolved.store.listBatch g a.id d.batch, suspended := resolved.store.listBatch g a.id d.suspended })
  let batched := resolved.store.listedStrips g a.id b.decode.batch ++ resolved.store.listedStrips g a.id b.decode.suspended
  listed.withStore (Store.wantShort ((added ++ batched).foldl (fun l k => Strip.insert k l) []))

/-- The record of a segment's asset, made present if it was absent (R104). -/
def Blocks.meetAsset (g : Geometry) (q : Segment) (b : Blocks) : Blocks :=
  match b.store.asset q.asset with
  | some _ => b
  | none => b.addAsset g { id := q.asset, width := q.width, height := q.height }

/-- A strip that has become Held is handed on: it leaves the Want list, and is offered as a Page Prepare job when the
pending or the shown page names it and its Open form is not Ready (R112). -/
def Blocks.handHeld (change : Half) (k : Strip) (b : Blocks) : Blocks :=
  let trimmed := b.withStore (Store.withWants (removeStrip k))
  if (b.store.roles.pending.strips.contains k || b.store.roles.shown.strips.contains k) && !b.store.isReady k then
    trimmed.withDecode (Decode.offer change k)
  else trimmed

/-- A needed strip stored, with eviction, or its shortfall recorded (R112, R117). -/
def Blocks.storeNeeded (change : Half) (k : Strip) (q : Segment) (b : Blocks) : Blocks :=
  match b.findRoom (b.decode.running.map Running.strip) (packedUnits q.length) with
  | some c => (c.withStore (Store.hold k q.data q.checkWord)).handHeld change k
  | none => (b.withStore (Store.skip k)).refuseRoom k false (packedUnits q.length)

/-- An unplaced strip stored as a reserve, or recorded Skipped (R111). -/
def Blocks.storeReserve (change : Half) (k : Strip) (q : Segment) (b : Blocks) : Blocks :=
  if Config.reserveUnits + packedUnits q.length ≤ b.store.freeUnits then
    (b.withStore (Store.hold k q.data q.checkWord)).handHeld change k
  else b.withStore (Store.skip k)

/-- A segment whose header passes, tested in the order of R109. -/
def Blocks.classify (g : Geometry) (change : Half) (q : Segment) (b : Blocks) : Blocks :=
  let k : Strip := { asset := q.asset, index := q.index }
  if b.store.isHeld k || b.store.isBroken k then b
  else if !q.passes then (if b.store.needed g k then b.failArrival g k else b)
  else if b.store.needed g k then b.storeNeeded change k q
  else if b.store.placed k then b.withStore (Store.skip k)
  else b.storeReserve change k q

/-- One arrival at the Stream Intake (R103 to R112, R189). -/
def Blocks.arrive (g : Geometry) (change : Half) (bytes : List Byte) (b : Blocks) : Blocks :=
  match readSegment bytes with
  | none => b
  | some q => if b.store.headerPasses q then (b.meetAsset g q).classify g change q else b

end Sys2Proof.Machine
end

