-- ==== Sys2Proof/Machine/Units.lean ====
section
/-! DEFINITION. The meanings of the Stream Port's command and of the completion commands: SEGMENT_ARRIVAL (R109),
PAGE_PREPARE_COMPLETE (R127), BATCH_STRIP_COMPLETE (R131), CHECK_STRIP_COMPLETE (R137) and COMPOSITION_COMPLETE
(R155). -/

namespace Sys2Proof.Machine

/-- An event of a Running station's blocks, with the end of the event; none while the reset line is asserted (R103,
R173). -/
def Station.blocksEvent (f : Blocks → Blocks) (st : Station) : Station :=
  if st.mode = .running ∧ st.lineAsserted = false then (st.withBlocks f).settle st else st

/-- SEGMENT_ARRIVAL (R109). -/
def execSegmentArrival (bytes : List Byte) (s : State) : Host.Outcome State Fault Refusal :=
  s.event (fun st => st.blocksEvent (Blocks.arrive st.geometry st.scene.pageChange bytes))

/-- The Page Prepare job in progress completes; nothing when none is (log 6). -/
def Blocks.pageComplete (g : Geometry) (decoded : Option Rows) (b : Blocks) : Blocks :=
  match b.decode.running with
  | some (.page j) => b.finishPage g j decoded
  | _ => b

/-- PAGE_PREPARE_COMPLETE (R127). -/
def execPagePrepareComplete (decoded : Option Rows) (s : State) : Host.Outcome State Fault Refusal :=
  s.event (fun st => st.blocksEvent (Blocks.pageComplete st.geometry decoded))

/-- The batch strip in progress completes; nothing when none is (log 6). -/
def Blocks.batchComplete (g : Geometry) (sc : Scene) (decoded : Option Rows) (b : Blocks) : Blocks :=
  match b.decode.running with
  | some (.batch q i stopping) => b.finishBatchStrip g sc q i stopping decoded
  | _ => b

/-- BATCH_STRIP_COMPLETE (R131). -/
def execBatchStripComplete (decoded : Option Rows) (s : State) : Host.Outcome State Fault Refusal :=
  s.event (fun st => st.blocksEvent (Blocks.batchComplete st.geometry st.scene decoded))

/-- The Check strip in progress completes; nothing when none is (log 6). -/
def Blocks.checkComplete (g : Geometry) (intact : Bool) (b : Blocks) : Blocks :=
  match b.decode.running with
  | some (.check c k) => b.finishCheckStrip g c k intact
  | _ => b

/-- CHECK_STRIP_COMPLETE (R137). -/
def execCheckStripComplete (intact : Bool) (s : State) : Host.Outcome State Fault Refusal :=
  s.event (fun st => st.blocksEvent (Blocks.checkComplete st.geometry intact))

/-- The composition in progress completes; nothing when none is (log 6). -/
def Station.composeComplete (st : Station) : Station :=
  if st.mode = .running ∧ st.lineAsserted = false then st.withBlocks (fun b => b.withBc Compositor.complete) else st

/-- COMPOSITION_COMPLETE (R155). -/
def execCompositionComplete (s : State) : Host.Outcome State Fault Refusal := s.event Station.composeComplete

end Sys2Proof.Machine
end

