-- ==== Sys2Proof/Machine/Dispatch.lean ====
section
/-! DEFINITION. The meaning of every command: one arm for each constructor of Instr. -/

namespace Sys2Proof.Machine

def exec (i : Instr) (s : State) : Host.Outcome State Fault Refusal :=
  match i with
  | .resetRelease straps => Sys2Proof.Machine.execResetRelease straps s
  | .frameStrobe => Sys2Proof.Machine.execFrameStrobe s
  | .compositionComplete => Sys2Proof.Machine.execCompositionComplete s
  | .pageSwitchTarget => Sys2Proof.Machine.execPageSwitchTarget s
  | .slideSwitchVisible => Sys2Proof.Machine.execSlideSwitchVisible s
  | .transitionEnd => Sys2Proof.Machine.execTransitionEnd s
  | .calibrationPulse low => Sys2Proof.Machine.execCalibrationPulse low s
  | .contend lows => Sys2Proof.Machine.execContend lows s
  | .endWindow lows => Sys2Proof.Machine.execEndWindow lows s
  | .messageVoided low => Sys2Proof.Machine.execMessageVoided low s
  | .sceneReset src => Sys2Proof.Machine.execSceneReset src s
  | .layout src body => Sys2Proof.Machine.execLayout src body s
  | .present src station units => Sys2Proof.Machine.execPresent src station units s
  | .claimSpeaker src => Sys2Proof.Machine.execClaimSpeaker src s
  | .switch src body => Sys2Proof.Machine.execSwitch src body s
  | .expire src body => Sys2Proof.Machine.execExpire src body s
  | .ready src body => Sys2Proof.Machine.execReady src body s
  | .key src code => Sys2Proof.Machine.execKey src code s
  | .go src page => Sys2Proof.Machine.execGo src page s
  | .wordSet src word value => Sys2Proof.Machine.execWordSet src word value s
  | .guardSet src code allowance prompt => Sys2Proof.Machine.execGuardSet src code allowance prompt s
  | .guardFreeze src => Sys2Proof.Machine.execGuardFreeze src s
  | .slideAppend src body => Sys2Proof.Machine.execSlideAppend src body s
  | .slideRemove src index => Sys2Proof.Machine.execSlideRemove src index s
  | .slideClear src => Sys2Proof.Machine.execSlideClear src s
  | .slidePlay src loop => Sys2Proof.Machine.execSlidePlay src loop s
  | .slidePause src => Sys2Proof.Machine.execSlidePause src s
  | .slideStep src => Sys2Proof.Machine.execSlideStep src s
  | .slideSeek src index => Sys2Proof.Machine.execSlideSeek src index s
  | .cueSet src body => Sys2Proof.Machine.execCueSet src body s
  | .cueClear src index => Sys2Proof.Machine.execCueClear src index s
  | .cueHit src body => Sys2Proof.Machine.execCueHit src body s
  | .definePage src body => Sys2Proof.Machine.execDefinePage src body s
  | .defineButton src body => Sys2Proof.Machine.execDefineButton src body s
  | .definePicture src body => Sys2Proof.Machine.execDefinePicture src body s
  | .dropPage src page => Sys2Proof.Machine.execDropPage src page s
  | .want src body => Sys2Proof.Machine.execWant src body s
  | .check src station first count => Sys2Proof.Machine.execCheck src station first count s
  | .ask src station topic argument => Sys2Proof.Machine.execAsk src station topic argument s
  | .report src body => Sys2Proof.Machine.execReport src body s
  | .fault src body => Sys2Proof.Machine.execFault src body s
  | .answer src body => Sys2Proof.Machine.execAnswer src body s
  | .checkDone src body => Sys2Proof.Machine.execCheckDone src body s
  | .segmentArrival bytes => Sys2Proof.Machine.execSegmentArrival bytes s
  | .pagePrepareComplete decoded => Sys2Proof.Machine.execPagePrepareComplete decoded s
  | .batchStripComplete decoded => Sys2Proof.Machine.execBatchStripComplete decoded s
  | .checkStripComplete intact => Sys2Proof.Machine.execCheckStripComplete intact s
  | .pageTimeoutExpiry => Sys2Proof.Machine.execPageTimeoutExpiry s
  | .holdExpiry => Sys2Proof.Machine.execHoldExpiry s
  | .slideDurationExpiry => Sys2Proof.Machine.execSlideDurationExpiry s
  | .prepareLimitExpiry stream => Sys2Proof.Machine.execPrepareLimitExpiry stream s
  | .absenceThreshold => Sys2Proof.Machine.execAbsenceThreshold s
  | .forcedCueWatch => Sys2Proof.Machine.execForcedCueWatch s
  | .resetAsserted => Sys2Proof.Machine.execResetAsserted s
  | .idleReached => Sys2Proof.Machine.execIdleReached s
  | .strayLow low => Sys2Proof.Machine.execStrayLow low s
  | .unknownKindClose kind src => Sys2Proof.Machine.execUnknownKindClose kind src s

end Sys2Proof.Machine
end

