-- ==== Sys2Proof/Safety.lean ====
section
/-! DEFINITION. The predicates that the statements are made of: what a station that takes messages is, what the end of an event
leaves alone, and the invariants of the station's records. -/

namespace Sys2Proof

open Sys2Proof.Machine

/-! ### Messages -/

/-- The source of a message command, and the message as this station would have queued it where it is of a kind that
an EW412 sends (R166, R170); none for the other commands. -/
def Instr.carried : Instr → Option (Nat × Option Message)
  | .sceneReset src => some (src, none)
  | .layout src _ => some (src, none)
  | .present src station units => some (src, some (.present station units))
  | .claimSpeaker src => some (src, some .claim)
  | .switch src body => some (src, some (.switch body))
  | .expire src body => some (src, some (.expire body))
  | .ready src body => some (src, some (.ready body))
  | .key src _ => some (src, none)
  | .go src _ => some (src, none)
  | .wordSet src _ _ => some (src, none)
  | .guardSet src _ _ _ => some (src, none)
  | .guardFreeze src => some (src, none)
  | .slideAppend src _ => some (src, none)
  | .slideRemove src _ => some (src, none)
  | .slideClear src => some (src, none)
  | .slidePlay src _ => some (src, none)
  | .slidePause src => some (src, none)
  | .slideStep src => some (src, none)
  | .slideSeek src _ => some (src, none)
  | .cueSet src _ => some (src, none)
  | .cueClear src _ => some (src, none)
  | .cueHit src body => some (src, some (.cueHit body))
  | .definePage src _ => some (src, none)
  | .defineButton src _ => some (src, none)
  | .definePicture src _ => some (src, none)
  | .dropPage src _ => some (src, none)
  | .want src body => some (src, some (.want body))
  | .check src _ _ _ => some (src, none)
  | .ask src _ _ _ => some (src, none)
  | .report src body => some (src, some (.report body))
  | .fault src body => some (src, some (.fault body))
  | .answer src body => some (src, some (.answer body))
  | .checkDone src body => some (src, some (.checkDone body))
  | _ => none

/-- A message that Running stations alone apply: the scene messages, Want and Check (R16, R121, R136). -/
def Instr.forRunning : Instr → Bool
  | .sceneReset _ => false
  | .layout _ _ => false
  | .ask _ _ _ _ => false
  | c => c.carried.isSome

end Sys2Proof

namespace Sys2Proof.Machine

/-! ### Word effects on the wire -/

/-- The ranges of a word effect: its kind's code, its word, and the arguments of its kind (R15, 12.1). -/
abbrev effectInRange (e : RawEffect) : Prop :=
  e.kind ≤ 4 ∧ e.word ≤ 7 ∧ (e.kind ≤ 2 → e.place ≤ 15) ∧ (e.kind = 3 → e.place ≤ 3 ∧ e.value ≤ 15)

/-- The word effect that four bytes in range stand for (R15, 12.1). -/
def effectMeant (e : RawEffect) : WordEffect :=
  if e.kind = 0 then .setBit e.word e.place
  else if e.kind = 1 then .clearBit e.word e.place
  else if e.kind = 2 then .toggleBit e.word e.place
  else if e.kind = 3 then .putDigit e.word e.place e.value
  else .takeEntry e.word

/-! ### Where messages are applied -/

/-- The station is Running, its reset line released, and it takes the message that closes. -/
abbrev Station.Listens (st : Station) : Prop :=
  st.mode = .running ∧ st.lineAsserted = false ∧ st.blocks.link.rx ≠ .objecting

/-- The station is Running and its reset line is released. -/
abbrev Station.Runs (st : Station) : Prop := st.mode = .running ∧ st.lineAsserted = false

/-- The end of an event finds nothing to choose, to retry or to ask for: a job is in progress, no offer is deferred, the
room-wait list is empty, and Link Silent or a queue of more than four messages keeps the Wants on their list (R118, R120, R124,
R125). -/
abbrev Station.Quiet (st : Station) : Prop :=
  st.blocks.decode.running.isSome = true ∧ st.blocks.decode.deferred = false ∧ st.blocks.store.roomWait = []
    ∧ (st.blocks.link.silent = true ∨ 5 ≤ st.blocks.link.queue.length)

/-- The blocks at the close of a message of `src`, its own head settled: nothing else has been done yet (R166, R170). -/
abbrev Station.closed (src : Nat) (own : Option Message) (st : Station) : Blocks :=
  { st.blocks with link := st.blocks.link.closeMessage (decide (src = st.number)) own }

/-! ### What the end of an event leaves alone -/

/-- The messages that the end of an event can queue: a Want, a Ready, a Check Done, and Fault (Store Exhausted) (R54, R93,
R117, R120, R137). -/
def Message.endsEvent : Message → Bool
  | .want _ => true
  | .ready _ => true
  | .checkDone _ => true
  | .fault f => decide (f.kind = FaultKind.storeExhausted.code)
  | _ => false

/-- Such messages have joined the queue's tail, and a full queue may have set the overflow flag; nothing else. -/
def Link.Grows (l m : Link) : Prop :=
  m = { l with queue := m.queue, overflow := m.overflow }
    ∧ (∃ added, m.queue = l.queue ++ added ∧ ∀ x ∈ added, x.endsEvent = true) ∧ (l.overflow = true → m.overflow = true)

/-- A Packed entry as an eviction leaves it (R116). -/
def Packed.evicted (s : Store) (e : Packed) : Packed :=
  { e with state := .skipped, units := 0, data := [], checkWord := 0, pins := s.roles.pins e.id }

/-- Packed entries are kept or evicted, none is made; an Open entry is kept, removed, or made as Decoding. -/
def Store.Keeps (s t : Store) : Prop :=
  (∀ k, t.findPacked k = s.findPacked k ∨ t.findPacked k = (s.findPacked k).map (Packed.evicted s))
    ∧ ∀ k e, t.findOpened k = some e → s.findOpened k = some e ∨ e.ready = false

/-- The store's directory, room and Want records have been worked on; nothing else. -/
def Store.Worked (s t : Store) : Prop :=
  t = { s with packed := t.packed, opened := t.opened, freeUnits := t.freeUnits, roomWait := t.roomWait
               exhausted := t.exhausted, wants := t.wants, outstanding := t.outstanding }
    ∧ Store.Keeps s t ∧ (s.exhausted = true → t.exhausted = true)

/-- The back surface may have been written; nothing else. -/
def Compositor.Worked (c d : Compositor) : Prop := d = { c with back := d.back }

/-- `c` is `b` after the work that ends an event. -/
def Blocks.Worked (b c : Blocks) : Prop :=
  Link.Grows b.link c.link ∧ Store.Worked b.store c.store ∧ Compositor.Worked b.bc c.bc

/-- `t` is `s` with this scene, these timers and these blocks, worked on by the end of the event; the number, the station
state, the Layout and the command queue are those of `s`. -/
def State.Becomes (s : State) (sc : Scene) (ti : Timers) (b : Blocks) (t : State) : Prop :=
  t = { s with station := { s.station with scene := sc, timers := ti, blocks := t.station.blocks } }
    ∧ Blocks.Worked b t.station.blocks

/-- `t` is `s` with the scene, the timers and the blocks of `u`, worked on by the end of the event. -/
abbrev State.After (s : State) (u : Station) (t : State) : Prop := s.Becomes u.scene u.timers u.blocks t

/-- The station at the close of a message, its own head settled and nothing else done. -/
def Station.heard (src : Nat) (own : Option Message) (st : Station) : Station := { st with blocks := st.closed src own }

/-! ### Refusals -/

/-- The blocks after the refusal of a replicated message: the speaker queues its Fault, the others nothing (R62). -/
def Station.refusal (k : FaultKind) (kind : Nat) (p q : Option Nat) (src : Nat) (st : Station) : Blocks :=
  if st.isSpeaker then (st.closed src none).enqueue (.fault (k.refusal { kind := kind, src := src } p q))
  else st.closed src none

/-! ### Keys and timers -/

/-- Steps 1 and 2 of a Key applied to a shown page: the activity number raised, an activation closed (R25, R26). -/
def Scene.keyed (sc : Scene) : Scene := { sc with activity := sc.activity + 1, live := sc.closeActivation.live }

/-- Step 4 of a Key that begins no page change: the speaker restarts the timeout of a page that has one (R25, R40). -/
def Timers.keyed (speaker : Bool) (sc : Scene) (t : Timers) : Timers :=
  if speaker && sc.pageTimer.isSome then { t with pageTimeout := sc.pageTimer } else t

/-! ### Well-formed records -/

/-- The outgoing queue holds at most 8 messages and none in Link Silent; the head's count stays below 16 (R158, R169,
R171). -/
def Link.wf (l : Link) : Bool :=
  decide (l.queue.length ≤ 8) && (!l.silent || l.queue.isEmpty) && decide (l.objections < 16)

/-- The guard record's ranges, and closed exactly when the attempts are 0 (R68). -/
def Guard.wf (g : Guard) : Bool :=
  decide (g.allowance ≤ 7) && decide (g.prompt ≤ 63) && decide (g.attempts ≤ 4) && (g.closed == decide (g.attempts = 0))
    && (match g.code with
      | none => true
      | some d => d.length == 4 && d.all (fun n => decide (n ≤ 9)))

/-- The sizes of the replica's tables, and the numeric entry's 0 to 4 decimal digits (R3, R14, R27, R97). -/
def Scene.shapeWf (sc : Scene) : Bool :=
  decide (sc.pages.length = 64) && decide (sc.words.length = 8) && decide (sc.cues.length = 8)
    && decide (sc.entry.length ≤ 4) && sc.entry.all (fun d => decide (d ≤ 9))

/-- The slide list holds at most 128 entries, the indices name entries, and a Stopped show has no change pending (R79,
R83). -/
def Scene.slidesWf (sc : Scene) : Bool :=
  decide (sc.slides.length ≤ 128) && (if sc.slides.isEmpty then decide (sc.current = 0) else decide (sc.current < sc.slides.length))
    && (match sc.pendingIndex with
      | none => !sc.held
      | some p => decide (p < sc.slides.length) && decide (sc.show_ ≠ .stopped))

/-- The shown page and the pending page are Complete (R10), and the replica holds a state for each button of the shown
page and for no other (R18, R19). -/
def Scene.pagesWf (sc : Scene) : Bool :=
  (match sc.shown with
    | none => sc.live.isEmpty
    | some p => match sc.completeBody p with
      | none => false
      | some b => sc.live.length == b.buttons.length)
    && (match sc.pendingPage with
      | none => true
      | some p => (sc.completeBody p).isSome)

/-- At most one button is Selected or Activated, and a Selected button is enabled (R19). -/
def Scene.selectionWf (sc : Scene) : Bool :=
  decide ((sc.live.filter (fun l => decide (l.state ≠ .normal))).length ≤ 1)
    && sc.live.all (fun l => decide (l.state ≠ .selected) || l.enabled)

/-- Units held by the directory's entries. -/
def Store.heldUnits (s : Store) : Nat := (s.packed.map Packed.units).sum + (s.opened.map Opened.units).sum

/-- The directory and the asset table in canonical form, and the free units and the units held adding up to 16,384 (R106,
R107). -/
def Store.unitsWf (s : Store) : Bool :=
  Table.sorted Asset.key s.assets && Table.sorted Packed.id s.packed && Table.sorted Opened.id s.opened
    && decide (s.freeUnits + s.heldUnits = 16384)

/-- The pin count of each entry is the number of role sets that name its strip (R114). -/
def Store.pinsWf (s : Store) : Bool :=
  s.packed.all (fun e => decide (e.pins = s.roles.pins e.id)) && s.opened.all (fun e => decide (e.pins = s.roles.pins e.id))

/-- The Decode Unit holds at most 30 Page Prepare jobs (R123). -/
def Decode.wf (d : Decode) : Bool := decide (d.pageJobs.length ≤ 30)

/-- In the speaker the absence counter is idle; in every other station the speaker's timers are (R61, R63). -/
def Station.timersWf (st : Station) : Bool :=
  if st.isSpeaker then st.timers.absence.isNone
  else st.timers.pageTimeout.isNone && st.timers.hold.isNone && st.timers.slideDuration.isNone
    && st.timers.pagePrepare.isNone && st.timers.slidePrepare.isNone

/-- A station outside Strap Fault has a number from 2 to 5 (R173). -/
def Station.numberWf (st : Station) : Bool := decide (st.mode = .strapFault) || (decide (2 ≤ st.number) && decide (st.number ≤ 5))

end Sys2Proof.Machine
end

