-- ==== Sys2Proof/Certificates/Slice0/Obligations.lean ====
section
/-! DEFINITION. The statements about the model, each a proposition for the provers, by the block whose rules they come from. -/

open Sys2Proof Sys2Proof.Machine

/-! ### The machine -/

/-- A step runs the command at the front of the queue on the machine with the queue's rest; with an empty queue the block
idles, which is the model's choice (log 2). No command stops the machine, and none touches the queue of commands. -/
def Obligations.StepRunsFrontCommand : Prop :=
  ((∀ (s : State) (c : Instr) (rest : List Instr), s.pending = c :: rest → step s = exec c { s with pending := rest })
      ∧ ∀ s : State, s.pending = [] → step s = .next s)
  ∧ (∀ (c : Instr) (s : State), ∃ t, exec c s = .next t ∧ t.pending = s.pending)

/-- A station whose reset line is asserted, or one in Strap Fault, is moved by the reset line alone: it takes nothing from the
wire, the Stream Port and the Frame Strobe (R159, R173); that the other commands change nothing and every register stays is
the model's choice (log 28). -/
def Obligations.HeldOrStrapFaultIsDeaf : Prop :=
  ∀ (c : Instr) (s : State), s.station.lineAsserted = true ∨ s.station.mode = .strapFault →
    (∀ n, c ≠ .resetRelease n) → c ≠ .resetAsserted → exec c s = .next s

/-- The release of the reset line: the number from the straps, the station state, and every register the manual gives a
reset value (R22, R46, R67, R78, R102, R122, R138, R142, R157, R158, R173). The other fields of a disarmed cue are the
model's choice (log 22), and nothing is said of them. -/
def Obligations.ReleaseTakesResetValues : Prop :=
  ∀ (n : Nat) (s : State), n < 8 → ∃ t, exec (.resetRelease n) s = .next t ∧ t.pending = s.pending
    ∧ t.station.lineAsserted = false ∧ t.station.number = n
    ∧ t.station.mode = (if 2 ≤ n ∧ n ≤ 5 then .uncalibrated else .strapFault) ∧ t.station.layout = none
    ∧ t.station.scene.pages.length = 64 ∧ (∀ p ∈ t.station.scene.pages, p = .undefined)
    ∧ t.station.scene.words = [0, 0, 0, 0, 0, 0, 0, 0]
    ∧ t.station.scene.activity = 0 ∧ t.station.scene.shown = none ∧ t.station.scene.leaving = none
    ∧ t.station.scene.pageChange = 0 ∧ t.station.scene.pendingPage = none ∧ t.station.scene.pageReady = []
    ∧ t.station.scene.entry = [] ∧ t.station.scene.speaker = none
    ∧ t.station.scene.guard = { code := none, allowance := 0, prompt := 0, frozen := false, attempts := 4
                                closed := false, wait := none }
    ∧ t.station.scene.slides = [] ∧ t.station.scene.show_ = .stopped ∧ t.station.scene.current = 0
    ∧ t.station.scene.loop = false ∧ t.station.scene.held = false ∧ t.station.scene.slideChange = 0
    ∧ t.station.scene.pendingIndex = none ∧ t.station.scene.slideReady = []
    ∧ t.station.scene.cues.length = 8 ∧ (∀ c ∈ t.station.scene.cues, c.armed = false)
    ∧ t.station.scene.live = [] ∧ t.station.scene.owners = []
    ∧ t.station.timers = { pageTimeout := none, hold := none, slideDuration := none, pagePrepare := none
                           slidePrepare := none, pageMark := false, slideMark := false, elapsed := 0
                           remaining := none, absence := none }
    ∧ t.station.blocks.link = { unit256 := 64 * 256, rx := .waiting, errorMark := false, rxBits := [], sending := .none
                                queue := [], objections := 0, silent := false, overflow := false }
    ∧ t.station.blocks.store = { assets := [], packed := [], opened := [], freeUnits := 16384, arrivals := 0
                                 placements := [], roles := Roles.empty, roomWait := [], exhausted := false
                                 wants := [], outstanding := [] }
    ∧ t.station.blocks.decode = { pageJobs := [], batch := none, check := none, running := none, suspended := none
                                  deferred := false, pageReadySent := false, slideReadySent := false, reported := none }
    ∧ t.station.blocks.bc = { frame := 0, displayPage := none, heldButtons := none, pageSwitch := none, layerOn := false
                              front := { content := none, whole := false, firstFailing := none, strips := [] }
                              back := { content := none, whole := false, firstFailing := none, strips := [] }
                              transition := none, slideSwitch := none, composing := none, lastImage := .blank
                              overrun := false, overrunReported := false, lateCount := 0, port := .blank }

/-- The assertion of the reset line: nothing driven on the wire, the blank image on the port; that every other register
waits for the release is the model's choice (R173, log 28). -/
def Obligations.AssertedLineSilencesOutputs : Prop :=
  ∀ s : State, exec .resetAsserted s = .next { s with
    station := { s.station with
      lineAsserted := true
      blocks := { s.station.blocks with
        link := { s.station.blocks.link with sending := .none }
        bc := { s.station.blocks.bc with port := .blank } } } }

/-! ### The Frame Strobe -/

/-- A pulse at a Running station: the count raised, the last image on the port, the composition of a snapshot of the display
page begun; the scene, the link unit and the reception are left alone (R141, R145). The snapshot names an Open strip Ready
exactly when it is Ready, of the display page's strips and of no Packed strip that is Skipped or Bad, and holds the back
surface of a transition (R145, R148, R152, R153); the last-shown frame of a Ready strip is the new count where the snapshot
draws it, and stays elsewhere (R146). A pulse in Uncalibrated, Joining and Spare: the count alone, and the blank image (R140,
R156). -/
def Obligations.StrobeByStationState : Prop :=
  (∀ s : State, s.station.Runs → ∃ t snap, exec .frameStrobe s = .next t ∧ t.pending = s.pending
      ∧ t.station = { s.station with timers := t.station.timers, blocks := t.station.blocks }
      ∧ t.station.blocks.link = { s.station.blocks.link with
          queue := t.station.blocks.link.queue, overflow := t.station.blocks.link.overflow }
      ∧ s.station.blocks.link.queue <+: t.station.blocks.link.queue
      ∧ (s.station.blocks.link.overflow = true → t.station.blocks.link.overflow = true)
      ∧ t.station.blocks.bc.frame = s.station.blocks.bc.frame + 1
      ∧ t.station.blocks.bc.port = s.station.blocks.bc.lastImage
      ∧ t.station.blocks.bc.lastImage = s.station.blocks.bc.lastImage
      ∧ t.station.blocks.bc.lateCount = s.station.blocks.bc.lateCount
      ∧ t.station.blocks.bc.composing = some snap
      ∧ snap.frame = s.station.blocks.bc.frame + 1 ∧ snap.geometry = s.station.geometry
      ∧ snap.placeholder = s.station.placeholder ∧ snap.assets = s.station.blocks.store.assets
      ∧ snap.page = s.station.scene.drawnPage t.station.blocks.bc
      ∧ (∀ e ∈ snap.ready, e.ready = true ∧ t.station.blocks.store.roles.display.strips.contains e.id = true)
      ∧ (∀ k rows, (∃ e ∈ snap.ready, e.id = k ∧ e.rows = rows)
          ↔ (∃ e ∈ s.station.blocks.store.opened, e.id = k ∧ e.rows = rows ∧ e.ready = true)
            ∧ t.station.blocks.store.roles.display.strips.contains k = true
            ∧ s.station.blocks.store.isSpoiled k = false)
      ∧ snap.layerOn = t.station.blocks.bc.layerOn ∧ snap.front = t.station.blocks.bc.front
      ∧ snap.transition = t.station.blocks.bc.transition
      ∧ (∀ r, snap.transition.isSome = true → s.station.blocks.bc.transition = some r → r.length ≤ r.step + 1 →
          snap.back = s.station.blocks.bc.front)
      ∧ (snap.transition.isSome = true → (∀ r, s.station.blocks.bc.transition = some r → r.step + 1 < r.length) →
          snap.back = s.station.blocks.bc.back)
      ∧ (∀ k d, t.station.blocks.store.findOpened k = some d → d.ready = true →
          ∃ e, s.station.blocks.store.findOpened k = some e
            ∧ d.lastShown = (if t.station.blocks.store.roles.display.strips.contains k
                && !s.station.blocks.store.isSpoiled k && snap.draws k then s.station.blocks.bc.frame + 1
              else e.lastShown)))
  ∧ (∀ s : State, s.station.lineAsserted = false →
      s.station.mode = .uncalibrated ∨ s.station.mode = .joining ∨ s.station.mode = .spare →
      exec .frameStrobe s = .next { s with
        station := { s.station with
          blocks := { s.station.blocks with
            bc := { s.station.blocks.bc with frame := s.station.blocks.bc.frame + 1, port := .blank } } } })

/-- A composition completes: its band image is the last image; nothing else moves (R155). A composition still in progress at
a pulse is an overrun: the flag is set, and Frame Overrun is queued, unless it has been since the last page Switch, when
none is (R155). The pixels of a composition: the slide layer, the background, the pictures and the buttons by ID, each laid
over the image beneath by its alpha (R147; the alpha of the result is the model's reading, log 16); a strip the snapshot
does not name Ready, and an asset without a record, in the placeholder colour (R148); a button in the asset of its state,
a disabled one in its normal asset with every alpha halved (R149); the slide layer during a Fade and a Wipe Down (R150). -/
def Obligations.CompositionEndsOrOverruns : Prop :=
  (∀ (s : State) (snap : Snapshot), s.station.Runs → s.station.blocks.bc.composing = some snap →
      exec .compositionComplete s = .next { s with
        station := { s.station with
          blocks := { s.station.blocks with
            bc := { s.station.blocks.bc with lastImage := .composed snap, composing := none } } } })
  ∧ (∀ (s : State) (old : Snapshot), s.station.Runs → s.station.blocks.bc.composing = some old →
      ∃ t, exec .frameStrobe s = .next t ∧ t.station.blocks.bc.overrun = true
        ∧ t.station.blocks.bc.overrunReported = true
        ∧ (s.station.blocks.bc.overrunReported = false → s.station.blocks.link.silent = false →
            s.station.blocks.link.queue.length < 8 →
            s.station.blocks.link.queue
              ++ [.fault (overrunFault s.station.blocks.bc.displayPage s.station.blocks.bc.frame)]
                <+: t.station.blocks.link.queue)
        ∧ (s.station.blocks.bc.overrunReported = true →
            ∃ added, t.station.blocks.link.queue = s.station.blocks.link.queue ++ added
              ∧ ∀ f, .fault f ∈ added → f.kind ≠ FaultKind.frameOverrun.code))
  ∧ (∀ (snap : Snapshot) (x y : Nat),
      (Image.composed snap).pixel x y
        = (match snap.page with
          | none => if snap.layerOn then blend (snap.slidePixel x y) 0 else 0
          | some d =>
            d.body.buttons.foldl (fun c b => layOver (snap.buttonPixel d b x y) c)
              (d.body.pictures.foldl (fun c o => layOver (snap.placed (picturePlacement d.number o) x y) c)
                (layOver (snap.backgroundPixel d x y)
                  (if snap.layerOn then blend (snap.slidePixel x y) 0 else 0))))
      ∧ (snap.transition = none → snap.slidePixel x y = snap.front.pixel x y)
      ∧ (∀ r, snap.transition = some r → r.wipe = true →
          snap.slidePixel x y = (if y < snap.geometry.height * r.step / r.length then snap.back.pixel x y
            else snap.front.pixel x y))
      ∧ (∀ r i, snap.transition = some r → r.wipe = false → r.step < r.length → i < 4 →
          channel i (snap.slidePixel x y)
            = (2 * (channel i (snap.front.pixel x y) * (r.length - r.step) + channel i (snap.back.pixel x y) * r.step)
                + r.length) / (2 * r.length))
      ∧ (∀ pl, pl.inside snap.geometry x y = true → snap.asset pl.asset = none → snap.placed pl x y = some snap.placeholder)
      ∧ (∀ pl a, pl.inside snap.geometry x y = true → snap.asset pl.asset = some a → x - pl.x < a.width →
          y - pl.y < a.height →
          (snap.strip { asset := pl.asset, index := (y - pl.y) / 8 } = none → snap.placed pl x y = some snap.placeholder)
          ∧ (∀ e, snap.strip { asset := pl.asset, index := (y - pl.y) / 8 } = some e →
              snap.placed pl x y = some (pixelAt e.rows (x - pl.x) ((y - pl.y) % 8))))
      ∧ (∀ (d : DrawnPage) (b : Button) (l : Live) (pl : Placement), l = d.live b.id →
          pl = { asset := if l.enabled = false ∨ l.state = .normal then b.normal
                    else if l.state = .selected then b.selected else b.activated.getD b.selected
                 x := b.rect.x, y := b.rect.y, clip := some b.rect, maker := .button d.number b.id } →
          (l.enabled = true → snap.buttonPixel d b x y = snap.placed pl x y)
          ∧ (l.enabled = false → snap.buttonPixel d b x y = (snap.placed pl x y).map (fun c =>
              colourOf (channel 0 c / 2) (channel 1 c) (channel 2 c) (channel 3 c)))))
  ∧ (∀ (top below : Colour) (i : Nat), 1 ≤ i → i < 4 →
      channel i (blend top below) = (2 * (channel i top * channel 0 top + channel i below * (255 - channel 0 top)) + 255) / 510
        ∧ channel 0 (blend top below) = channel 0 top + (2 * (channel 0 below * (255 - channel 0 top)) + 255) / 510)

/-- The pulse that brings a held page switch to its target, or the first after a late one, changes the display page, and
its pins are the shown page's; any other pulse leaves the display page and the held switch (R143, R59). That the row is the
whole pulse when it is due, and changes nothing when it is not, is the model's choice (logs 5 and 6). -/
def Obligations.PageSwitchAtTarget : Prop :=
  ∀ (s : State) (e : PageSwitch), s.station.Runs → s.station.blocks.bc.pageSwitch = some e →
    (e.late = true ∨ e.target = s.station.blocks.bc.frame + 1 →
      ∃ t, exec .pageSwitchTarget s = .next t ∧ exec .frameStrobe s = .next t
        ∧ t.station.scene = s.station.scene
        ∧ t.station.blocks.bc.frame = s.station.blocks.bc.frame + 1
        ∧ t.station.blocks.bc.displayPage = some e.page ∧ t.station.blocks.bc.pageSwitch = none
        ∧ t.station.blocks.bc.heldButtons = none
        ∧ t.station.blocks.store.roles.display = s.station.blocks.store.roles.shown
        ∧ t.station.blocks.store.roles.shown = s.station.blocks.store.roles.shown)
    ∧ (e.late = false ∧ e.target ≠ s.station.blocks.bc.frame + 1 →
      exec .pageSwitchTarget s = .next s
        ∧ ∃ t, exec .frameStrobe s = .next t ∧ t.station.blocks.bc.displayPage = s.station.blocks.bc.displayPage
          ∧ t.station.blocks.bc.pageSwitch = some e
          ∧ t.station.blocks.store.roles.display = s.station.blocks.store.roles.display)

/-- The pulse at which a held slide switch finds its content whole on the back surface and no transition running: a Cut, or
any kind with the layer off, exchanges the surfaces; a Fade or a Wipe Down begins at step 1, the surfaces where they are (R152).
The back surface is stated where a job is in progress, so that no batch begins to write it at the pulse's end (R124, R130). `c`
is the block after the pulse's step of a running transition. That the row is the whole pulse is the model's reading (log 5). -/
def Obligations.SlideSwitchBecomesVisible : Prop :=
  ∀ (s : State) (w : SlideSwitch) (c : Blocks), s.station.Runs → s.station.blocks.bc.slideSwitch = some w →
    c = s.station.blocks.transitionStep → c.bc.transition = none →
    w.awaitingContent = true ∨ w.late = true ∨ w.target = s.station.blocks.bc.frame + 1 →
    c.bc.back.content = some w.content → c.bc.back.whole = true →
    ∃ t, exec .slideSwitchVisible s = .next t ∧ exec .frameStrobe s = .next t
      ∧ t.station.scene = s.station.scene ∧ t.station.blocks.bc.slideSwitch = none
      ∧ t.station.blocks.bc.layerOn = true
      ∧ t.station.blocks.store.roles.currentSlide = s.station.blocks.store.roles.currentSlide
      ∧ (w.kind = .cut ∨ s.station.blocks.bc.layerOn = false →
          t.station.blocks.bc.front = c.bc.back ∧ t.station.blocks.bc.transition = none
            ∧ (s.station.blocks.decode.running.isSome = true → t.station.blocks.bc.back = c.bc.front)
            ∧ t.station.blocks.store.roles.fading = RoleSet.empty)
      ∧ (w.kind ≠ .cut ∧ s.station.blocks.bc.layerOn = true →
          t.station.blocks.bc.front = c.bc.front
            ∧ (s.station.blocks.decode.running.isSome = true → t.station.blocks.bc.back = c.bc.back)
            ∧ t.station.blocks.bc.transition
                = some { wipe := decide (w.kind = .wipeDown), length := w.length, step := 1 }
            ∧ t.station.blocks.store.roles.fading = c.store.roles.fading)

/-- A running transition moves one step a pulse; the pulse that brings it to its length ends it, and the surface that was
faded or wiped in is the front one, where no held slide switch becomes visible at the same pulse (R153). That the row is the whole
pulse when it is due, and changes nothing when the transition goes on, is the model's choice (logs 5 and 6). -/
def Obligations.TransitionRunsAndEnds : Prop :=
  ∀ (s : State) (r : Transition), s.station.Runs → s.station.blocks.bc.transition = some r →
    (r.length ≤ r.step + 1 →
      (∀ w, s.station.blocks.bc.slideSwitch = some w →
        (w.awaitingContent = false ∧ w.late = false ∧ w.target ≠ s.station.blocks.bc.frame + 1)
          ∨ s.station.blocks.bc.front.content ≠ some w.content ∨ s.station.blocks.bc.front.whole = false) →
      ∃ t, exec .transitionEnd s = .next t ∧ exec .frameStrobe s = .next t ∧ t.station.scene = s.station.scene
        ∧ t.station.blocks.bc.transition = none ∧ t.station.blocks.bc.front = s.station.blocks.bc.back
        ∧ t.station.blocks.bc.layerOn = s.station.blocks.bc.layerOn
        ∧ t.station.blocks.store.roles.fading = RoleSet.empty)
    ∧ (r.step + 1 < r.length →
      exec .transitionEnd s = .next s
        ∧ ∃ t, exec .frameStrobe s = .next t
          ∧ t.station.blocks.bc.transition = some { r with step := r.step + 1 }
          ∧ t.station.blocks.bc.front = s.station.blocks.bc.front)

/-- The page-timeout, activation-hold and slide-duration timers: a pulse takes one frame from a running timer, and the pulse
that leaves none makes it idle and queues its Expire with its tag (R38, R39, R89); that each row is the whole pulse is the
model's reading (log 5). A timer that has more than one frame left loses one at a pulse, and no Expire of its kind is queued
(R38). -/
def Obligations.ViewerTimersCountAndExpire : Prop :=
  (∀ (s : State) (u : Timer), s.station.Runs → u.remaining ≤ 1 → s.station.blocks.link.silent = false →
      s.station.blocks.link.queue.length ≤ 4 →
      (s.station.timers.pageTimeout = some u →
        ∃ t, exec .pageTimeoutExpiry s = .next t ∧ exec .frameStrobe s = .next t ∧ t.station.timers.pageTimeout = none
          ∧ .expire { timer := 0, tag := u.tag } ∈ t.station.blocks.link.queue ∧ t.station.scene = s.station.scene)
      ∧ (s.station.timers.hold = some u →
        ∃ t, exec .holdExpiry s = .next t ∧ exec .frameStrobe s = .next t ∧ t.station.timers.hold = none
          ∧ .expire { timer := 1, tag := u.tag } ∈ t.station.blocks.link.queue ∧ t.station.scene = s.station.scene)
      ∧ (s.station.timers.slideDuration = some u →
        ∃ t, exec .slideDurationExpiry s = .next t ∧ exec .frameStrobe s = .next t
          ∧ t.station.timers.slideDuration = none
          ∧ .expire { timer := 2, tag := u.tag } ∈ t.station.blocks.link.queue ∧ t.station.scene = s.station.scene))
  ∧ (∀ (s : State) (u : Timer), s.station.Runs → 2 ≤ u.remaining →
      ∃ t added, exec .frameStrobe s = .next t
        ∧ t.station.blocks.link.queue = s.station.blocks.link.queue ++ added
        ∧ (s.station.timers.pageTimeout = some u →
            t.station.timers.pageTimeout = some { u with remaining := u.remaining - 1 }
              ∧ ∀ tag, .expire { timer := 0, tag := tag } ∉ added)
        ∧ (s.station.timers.hold = some u →
            t.station.timers.hold = some { u with remaining := u.remaining - 1 }
              ∧ ∀ tag, .expire { timer := 1, tag := tag } ∉ added)
        ∧ (s.station.timers.slideDuration = some u →
            t.station.timers.slideDuration = some { u with remaining := u.remaining - 1 }
              ∧ ∀ tag, .expire { timer := 2, tag := tag } ∉ added))

/-- The prepare limit of a stream: a partial Switch of the pending change, its target two frames on, with Prepare Overdue
after it naming the missing owners; the mark is set and the timer idle (R57, R94). That the row is the whole pulse is the
model's reading (log 5), and that the target is counted from the frame count as the pulse has raised it is its choice (log 7). -/
def Obligations.PrepareLimitClosesTheChange : Prop :=
  ∀ (s : State) (u : Timer), s.station.Runs → u.remaining ≤ 1 → s.station.blocks.link.silent = false →
    s.station.blocks.link.queue.length ≤ 2 →
    (∀ p, s.station.timers.pagePrepare = some u → s.station.timers.pageMark = false →
      s.station.scene.pendingPage = some p →
      ∃ t, exec (.prepareLimitExpiry .page) s = .next t ∧ exec .frameStrobe s = .next t
        ∧ t.station.timers.pagePrepare = none ∧ t.station.timers.pageMark = true ∧ t.station.scene = s.station.scene
        ∧ [.switch { stream := 0, index := p, change := s.station.scene.pageChange
                     target := s.station.blocks.bc.frame + 1 + 2, partialFlag := 1 },
            .fault (overdueFault .page s.station.scene.pageChange
              (s.station.scene.missing s.station.scene.pageReady))] <:+: t.station.blocks.link.queue)
    ∧ (∀ i, s.station.timers.slidePrepare = some u → s.station.timers.slideMark = false →
      s.station.scene.pendingIndex = some i → s.station.timers.pagePrepare = none →
      ∃ t, exec (.prepareLimitExpiry .slide) s = .next t ∧ exec .frameStrobe s = .next t
        ∧ t.station.timers.slidePrepare = none ∧ t.station.timers.slideMark = true
        ∧ t.station.scene = s.station.scene
        ∧ [.switch { stream := 1, index := i, change := s.station.scene.slideChange
                     target := s.station.blocks.bc.frame + 1 + 2, partialFlag := 1 },
            .fault (overdueFault .slide s.station.scene.slideChange
              (s.station.scene.missing s.station.scene.slideReady))] <:+: t.station.blocks.link.queue)

/-- A band owner whose absence counter reaches the prepare limit and 16 frames for each rank queues Claim Speaker; below
that the counter rises alone (R63, R64). That the row is the whole pulse at the threshold, and changes nothing elsewhere, is
the model's choice (logs 5 and 6). -/
def Obligations.AbsenceRaisesAClaim : Prop :=
  ∀ (s : State) (n : Nat), s.station.Runs → s.station.isSpeaker = false → s.station.timersWf = true →
    s.station.timers.absence = some n → s.station.blocks.link.silent = false →
    s.station.blocks.link.queue.length ≤ 6 → Message.claim ∉ s.station.blocks.link.queue →
    (n + 1 = s.station.prepareLimit + 16 * s.station.scene.rank s.station.number →
      ∃ t, exec .absenceThreshold s = .next t ∧ exec .frameStrobe s = .next t
        ∧ t.station.timers = { s.station.timers with absence := some (n + 1) }
        ∧ .claim ∈ t.station.blocks.link.queue ∧ t.station.scene = s.station.scene)
    ∧ (n + 1 ≠ s.station.prepareLimit + 16 * s.station.scene.rank s.station.number →
      exec .absenceThreshold s = .next s
        ∧ ∃ t, exec .frameStrobe s = .next t ∧ t.station.timers = { s.station.timers with absence := some (n + 1) })

/-- The pulse that brings the elapsed count to the trigger of armed Forced cues: the speaker queues a Cue Hit for each, in
index order; the cues themselves wait for the hit to be applied (R91, R99). That the row is the whole pulse is the model's
reading (log 5). -/
def Obligations.ForcedCuesAreReported : Prop :=
  ∀ (s : State), s.station.Runs → s.station.isSpeaker = true → s.station.scene.show_ = .playing →
    s.station.timers.elapsed < 4294967295 → timerDue s.station.timers.pageTimeout = false →
    timerDue s.station.timers.hold = false → timerDue s.station.timers.slideDuration = false →
    timerDue s.station.timers.pagePrepare = false → timerDue s.station.timers.slidePrepare = false →
    s.station.blocks.bc.composing = none → s.station.blocks.link.silent = false →
    s.station.blocks.link.queue.length + (reached (s.station.timers.elapsed + 1) 0 s.station.scene.cues).length ≤ 8 →
    reached (s.station.timers.elapsed + 1) 0 s.station.scene.cues ≠ [] →
    ∃ t, exec .forcedCueWatch s = .next t ∧ exec .frameStrobe s = .next t ∧ t.station.scene = s.station.scene
      ∧ t.station.timers.elapsed = s.station.timers.elapsed + 1
      ∧ s.station.blocks.link.queue
          ++ (reached (s.station.timers.elapsed + 1) 0 s.station.scene.cues).map (fun i =>
              .cueHit { index := i, kind := 0, trigger := s.station.timers.elapsed + 1
                        slide := s.station.scene.current, change := s.station.scene.slideChange })
            <+: t.station.blocks.link.queue

/-! ### The wire -/

/-- A low of 240 lu or more: its length is the new 256 link units, nothing is being received or sent, and an Uncalibrated
station is Joining with a Present in its queue (R161, R174, R175). -/
def Obligations.CalibrationSetsTheUnit : Prop :=
  ∀ (s : State) (low : Nat) (l : Link), s.station.lineAsserted = false → s.station.mode ≠ .strapFault →
    240 ≤ 256 * low / s.station.blocks.link.unit256 →
    l = { s.station.blocks.link with
      unit256 := low, rx := .waiting, errorMark := false, rxBits := [], sending := .none } →
    (s.station.mode = .uncalibrated →
      exec (.calibrationPulse low) s = .next { s with
        station := { s.station with
          mode := .joining
          blocks := { s.station.blocks with link := l.enqueue (.present s.station.number 16384) } } })
    ∧ (s.station.mode ≠ .uncalibrated →
      exec (.calibrationPulse low) s = .next { s with
        station := { s.station with blocks := { s.station.blocks with link := l } } })

/-- A low below 240 lu that ends in Waiting, Idle or Receiving, by its class (R160, R163): up to 3 lu a 1, up to 7 lu a 0,
above that no bit; an Uncalibrated station takes every one for a stray low (R163). The wire high for 16 lu takes Waiting to
Idle (R163); that the command changes nothing in every other receive state, the close of a message being the message's own
command, is the model's choice (logs 3 and 6). -/
def Obligations.LowsAreReceivedByClass : Prop :=
  (∀ (s : State) (low lu : Nat) (after : Link → State), s.station.lineAsserted = false →
      s.station.mode.frames = true → lu = 256 * low / s.station.blocks.link.unit256 → lu < 240 →
      (∀ l, after l = { s with station := { s.station with blocks := { s.station.blocks with link := l } } }) →
      (s.station.blocks.link.rx = .waiting → exec (.strayLow low) s = .next s)
      ∧ (s.station.blocks.link.rx = .idle → lu ≤ 7 →
          exec (.strayLow low) s = .next (after { s.station.blocks.link with
            rx := .receiving, errorMark := false, rxBits := [decide (lu ≤ 3)] }))
      ∧ (s.station.blocks.link.rx = .idle → 8 ≤ lu →
          exec (.strayLow low) s = .next (after { s.station.blocks.link with rx := .waiting }))
      ∧ (s.station.blocks.link.rx = .receiving → lu ≤ 7 →
          exec (.strayLow low) s = .next (after { s.station.blocks.link with
            rxBits := s.station.blocks.link.rxBits ++ [decide (lu ≤ 3)] }))
      ∧ (s.station.blocks.link.rx = .receiving → 8 ≤ lu →
          exec (.strayLow low) s = .next (after { s.station.blocks.link with errorMark := true })))
  ∧ (∀ (s : State) (low : Nat), s.station.lineAsserted = false → s.station.mode = .uncalibrated →
      s.station.blocks.link.rx ≠ .objecting → 256 * low / s.station.blocks.link.unit256 < 240 →
      exec (.strayLow low) s = .next { s with
        station := { s.station with
          blocks := { s.station.blocks with link := { s.station.blocks.link with rx := .waiting } } } })
  ∧ (∀ s : State, s.station.lineAsserted = false → s.station.mode ≠ .strapFault →
      (s.station.blocks.link.rx = .waiting →
        exec .idleReached s = .next { s with
          station := { s.station with
            blocks := { s.station.blocks with link := { s.station.blocks.link with rx := .idle } } } })
      ∧ (s.station.blocks.link.rx ≠ .waiting → exec .idleReached s = .next s))

/-- A station that contends and is disturbed by no one sends its head whole, and has received every bit of it; one with an
empty queue, in Link Silent or out of Idle does not contend (R162, R168). A sender of a 1 whose cell the wire holds low for
4 lu or more has lost: it sends no more of its head, keeps the head in its queue, and goes on receiving (R168). -/
def Obligations.ContentionSendsOrLosesTheHead : Prop :=
  (∀ s : State, s.station.lineAsserted = false → s.station.mode.frames = true →
      (∀ (m : Message) (rest : List Message), s.station.blocks.link.silent = false → s.station.blocks.link.rx = .idle →
        s.station.blocks.link.queue = m :: rest → 256 ≤ s.station.blocks.link.unit256 →
        exec (.contend []) s = .next { s with
          station := { s.station with
            blocks := { s.station.blocks with
              link := { s.station.blocks.link with
                rx := .receiving, errorMark := false, rxBits := messageBits s.station.number m, sending := .whole } } } })
      ∧ ∀ lows, s.station.blocks.link.silent = true ∨ s.station.blocks.link.rx ≠ .idle
          ∨ s.station.blocks.link.queue = [] → exec (.contend lows) s = .next s)
  ∧ (∀ (s : State) (m : Message) (rest : List Message) (k low : Nat), s.station.lineAsserted = false →
      s.station.mode.frames = true → s.station.blocks.link.silent = false → s.station.blocks.link.rx = .idle →
      s.station.blocks.link.queue = m :: rest → 256 ≤ s.station.blocks.link.unit256 →
      (messageBits s.station.number m)[k]? = some true → 4 ≤ 256 * low / s.station.blocks.link.unit256 →
      256 * low / s.station.blocks.link.unit256 ≤ 7 →
      exec (.contend (List.replicate k 0 ++ [low])) s = .next { s with
        station := { s.station with
          blocks := { s.station.blocks with
            link := { s.station.blocks.link with
              rx := .receiving, errorMark := false
              rxBits := (messageBits s.station.number m).take k ++ [false], sending := .lost } } } })

/-- At the entry to End Window a station objects exactly when the message is damaged: an error mark, bits short of a byte,
fewer than 4 or more than 62 bytes, a check word that fails, a bit of the source byte's low five, or a length that its kind
does not admit (R164, R167). -/
def Obligations.DamagedMessagesMeetAnObjection : Prop :=
  ∀ (s : State) (lows : List Nat) (bits : List Bool) (bytes : List Byte) (bad : Prop) (after : Receive → State),
    s.station.lineAsserted = false → s.station.mode.frames = true → s.station.blocks.link.rx = .receiving →
    (∀ low ∈ lows, 256 * low / s.station.blocks.link.unit256 ≤ 7) →
    bits = s.station.blocks.link.rxBits
      ++ lows.map (fun low => decide (256 * low / s.station.blocks.link.unit256 ≤ 3)) →
    bytes = bitsBytes bits →
    (bad ↔ s.station.blocks.link.errorMark = true ∨ bits.length % 8 ≠ 0 ∨ bytes.length < 4 ∨ 62 < bytes.length
      ∨ checkWordOf (bytes.take (bytes.length - 2)) ≠ getHalf bytes (bytes.length - 2) ∨ get8 bytes 1 % 32 ≠ 0
      ∨ ∃ lengths, admitted (get8 bytes 0) = some lengths ∧ bytes.length - 4 ∉ lengths) →
    (∀ r, after r = { s with
      station := { s.station with
        blocks := { s.station.blocks with link := { s.station.blocks.link with rxBits := bits, rx := r } } } }) →
    (bad → exec (.endWindow lows) s = .next (after .objecting))
      ∧ (¬ bad → exec (.endWindow lows) s = .next (after .endWindow))

/-- A low below 240 lu that begins in a message's end window voids it: nothing is being received, the receive state is Waiting
(that the error mark is cleared then is the model's choice, log 56), and a head that was sent whole counts an objection; at the
16th the station is in Link Silent, its queue and its outstanding Wants gone (R165, R170, R171). An objecting station, its link
unit at least 256 clock periods for 256 lu, holds the wire low for 40 lu itself, whatever the others drive (R164). -/
def Obligations.VoidedMessagesCountAgainstTheHead : Prop :=
  (∀ (l : Link) (low : Nat), l.rx = .objecting → 256 ≤ l.unit256 →
    low ≤ l.wireLow low ∧ (256 * low / l.unit256 ≤ 40 → 256 * l.wireLow low / l.unit256 = 40)
      ∧ (40 < 256 * low / l.unit256 → l.wireLow low = low))
  ∧ ∀ (s : State) (low : Nat) (l : Link), s.station.lineAsserted = false → s.station.mode.frames = true →
    256 * low / s.station.blocks.link.unit256 < 240 →
    (s.station.blocks.link.rx = .objecting → 256 ≤ s.station.blocks.link.unit256) →
    l = { s.station.blocks.link with rx := .waiting, errorMark := false, rxBits := [], sending := .none } →
    ∃ t b, exec (.messageVoided low) s = .next t ∧ s.Becomes s.station.scene s.station.timers b t
      ∧ (s.station.blocks.link.sending ≠ .whole → b = { s.station.blocks with link := l })
      ∧ (s.station.blocks.link.sending = .whole → s.station.blocks.link.objections < 15 →
          b = { s.station.blocks with link := { l with objections := s.station.blocks.link.objections + 1 } })
      ∧ (s.station.blocks.link.sending = .whole → 15 ≤ s.station.blocks.link.objections →
          b = { s.station.blocks with
            link := { l with silent := true, queue := [], objections := 0 }
            store := { s.station.blocks.store with outstanding := [] } }
          ∧ t.station.blocks.link = { l with silent := true, queue := [], objections := 0 }
          ∧ t.station.blocks.store.outstanding = [])

/-- Present, Report, Fault, Answer, Check Done, and a message of an unknown kind or of source 6 or 7: every block passes it
over, but its close ends the reception, and a sender's own head, sent whole, leaves the queue with the count at 0; a head that
was not sent, or was lost in the contention, stays with its count (R166, R170). That the close is the command, and that a
message of the station's number, whatever its fields, is the head that was sent whole, is the model's reading (logs 3 and 4). -/
def Obligations.PassedOverMessages : Prop :=
  ∀ (s : State) (c : Instr) (src : Nat) (own : Option Message), s.station.framing = true →
    c.carried = some (src, own) ∨ (own = none ∧ ∃ kind, c = .unknownKindClose kind src) →
    (∃ n u, c = .present src n u) ∨ (∃ b, c = .report src b) ∨ (∃ b, c = .fault src b) ∨ (∃ b, c = .answer src b)
      ∨ (∃ b, c = .checkDone src b)
      ∨ (∃ kind, c = .unknownKindClose kind src ∧ (admitted kind = none ∨ 6 ≤ src)) →
    ∃ t l, exec c s = .next t
      ∧ s.Becomes s.station.scene s.station.timers { s.station.blocks with link := l } t
      ∧ (src ≠ s.station.number ∨ own = none ∨ s.station.blocks.link.sending ≠ .whole →
          l = { s.station.blocks.link with rx := .idle, errorMark := false, rxBits := [], sending := .none })
      ∧ (∀ m h rest, src = s.station.number → own = some m → s.station.blocks.link.queue = h :: rest →
          s.station.blocks.link.sending = .whole →
          l = { s.station.blocks.link with
            rx := .idle, errorMark := false, rxBits := [], sending := .none, queue := rest, objections := 0 })

/-- A message of source 6 or 7 is ignored, whatever its kind (R166). A message that Running stations alone apply leaves a
Joining or Spare station as its close leaves it (R166, R179). In Running a Key, one of the seven Slide messages, a Cue Set and a
Cue Clear of any source but 0 is ignored (R24, R84, R97); so is a Switch that is not from the speaker, whose change number is not
current, or that is applied with no change of its stream pending, a page Switch for another page than the pending one, and a
Switch or a Ready of an unknown stream code (R58, R95, R188). -/
def Obligations.MessagesThatAreNotApplied : Prop :=
  (∀ (s : State) (c : Instr) (src : Nat) (own : Option Message), s.station.framing = true →
      c.carried = some (src, own) → 6 ≤ src →
      ∃ t, exec c s = .next t ∧ s.Becomes s.station.scene s.station.timers (s.station.closed src own) t)
  ∧ (∀ (s : State) (c : Instr) (src : Nat) (own : Option Message), s.station.framing = true →
      s.station.mode = .joining ∨ s.station.mode = .spare → c.carried = some (src, own) → c.forRunning = true →
      exec c s = .next { s with station := { s.station with blocks := s.station.closed src own } })
  ∧ (∀ (s : State) (c : Instr) (src : Nat), s.station.Listens → src ≠ 0 →
      (∃ code, c = .key src code) ∨ (∃ b, c = .slideAppend src b) ∨ (∃ i, c = .slideRemove src i) ∨ c = .slideClear src
        ∨ (∃ loop, c = .slidePlay src loop) ∨ c = .slidePause src ∨ c = .slideStep src ∨ (∃ i, c = .slideSeek src i)
        ∨ (∃ b, c = .cueSet src b) ∨ (∃ i, c = .cueClear src i) →
      ∃ t, exec c s = .next t ∧ s.Becomes s.station.scene s.station.timers (s.station.closed src none) t)
  ∧ (∀ (s : State) (src : Nat) (body : SwitchBody), s.station.Listens →
      1 < body.stream
        ∨ (body.stream = 0 ∧ (s.station.scene.speaker ≠ some src ∨ s.station.scene.pendingPage = none
            ∨ s.station.scene.pendingPage ≠ some body.index ∨ body.change ≠ s.station.scene.pageChange))
        ∨ (body.stream = 1 ∧ (s.station.scene.speaker ≠ some src ∨ s.station.scene.pendingIndex = none
            ∨ body.change ≠ s.station.scene.slideChange)) →
      ∃ t, exec (.switch src body) s = .next t
        ∧ s.Becomes s.station.scene s.station.timers (s.station.closed src (some (.switch body))) t)
  ∧ (∀ (s : State) (src : Nat) (body : ReadyBody), s.station.Listens → 1 < body.stream →
      ∃ t, exec (.ready src body) s = .next t
        ∧ s.Becomes s.station.scene s.station.timers (s.station.closed src (some (.ready body))) t)

/-! ### Joining, Layout and Scene Reset -/

/-- Scene Reset in Running: the scene emptied with its owners kept and the lowest-numbered one the speaker, the store, the
Decode Unit and the compositor at their reset values but for the frame count, the overrun flag and the late-switch count, and
the queue empty but for the Check Done of a Check cut short (R23, R67, R122, R138, R139, R142, R156, R157, R158, R180): the
whole next state, for the event's end finds nothing to do; that the port shows the blank image in the event itself is the
model's reading (log 30). Scene Reset in Joining queues Present into an emptied queue, in Spare it empties the queue, and from
a source other than 0 it is ignored (R180). -/
def Obligations.SceneResetByStationState : Prop :=
  (∀ s : State, s.station.Listens → ∃ queue, exec (.sceneReset 0) s = .next { s with
        station := { s.station with
          scene := { Scene.reset with owners := s.station.scene.owners, speaker := s.station.scene.owners.min? }
          timers := Timers.reset
          blocks := {
            link := { s.station.blocks.link with
              rx := .idle, errorMark := false, rxBits := [], sending := .none, objections := 0, silent := false
              queue := queue }
            store := Store.reset
            decode := Decode.reset
            bc := { Compositor.reset with
              frame := s.station.blocks.bc.frame, overrun := s.station.blocks.bc.overrun
              lateCount := s.station.blocks.bc.lateCount } } } }
      ∧ (s.station.blocks.decode.currentCheck = none → queue = [])
      ∧ (∀ c, s.station.blocks.decode.currentCheck = some c →
          queue = [.checkDone { checked := c.checked, bad := c.bad
                                firstBad := c.firstBad.map (fun k => (k.asset, k.index))
                                remaining := (s.station.blocks.store.unchecked c).length }]))
  ∧ (∀ (s : State) (l : Link), s.station.framing = true →
      l = { s.station.blocks.link with
        rx := .idle, errorMark := false, rxBits := [], sending := .none, queue := [], objections := 0, silent := false } →
      (s.station.mode = .joining →
        exec (.sceneReset 0) s = .next { s with
          station := { s.station with
            blocks := { s.station.blocks with
              link := { l with queue := [.present s.station.number 16384] } } } })
      ∧ (s.station.mode = .spare →
        exec (.sceneReset 0) s = .next { s with
          station := { s.station with blocks := { s.station.blocks with link := l } } })
      ∧ (∀ src, src ≠ 0 → ∃ t, exec (.sceneReset src) s = .next t
          ∧ s.Becomes s.station.scene s.station.timers (s.station.closed src none) t))

/-- A valid Layout makes a Joining station Running, with an empty scene, the named owners and the lowest-numbered one the
speaker, or Spare when it owns no band; an invalid one, or one of another source, is ignored; in Running it is refused
(R176, R177, R178). The tests of a Layout (R176). -/
def Obligations.LayoutIsTakenOnceInJoining : Prop :=
  (∀ (s : State) (body : LayoutBody), s.station.framing = true →
      (∀ owners, owners = Stations.sort (body.bands.map Band.owner) → s.station.mode = .joining →
          layoutValid body = true → (body.bands.map Band.owner).contains s.station.number = true →
        exec (.layout 0 body) s = .next { s with
          station := { s.station with
            mode := .running, timers := Timers.reset
            layout := some { width := body.width, height := body.height, prepareLimit := body.prepareLimit
                             placeholder := body.placeholder, bands := body.bands }
            scene := { Scene.reset with owners := owners, speaker := owners.min? }
            blocks := { link := (s.station.closed 0 none).link, store := Store.reset, decode := Decode.reset
                        bc := { Compositor.reset with frame := s.station.blocks.bc.frame } } } })
      ∧ (s.station.mode = .joining → layoutValid body = true →
          (body.bands.map Band.owner).contains s.station.number = false →
        exec (.layout 0 body) s = .next { s with
          station := { s.station with
            mode := .spare, blocks := s.station.closed 0 none
            layout := some { width := body.width, height := body.height, prepareLimit := body.prepareLimit
                             placeholder := body.placeholder, bands := body.bands } } })
      ∧ (s.station.mode = .joining → layoutValid body = false →
        exec (.layout 0 body) s = .next { s with station := { s.station with blocks := s.station.closed 0 none } })
      ∧ (s.station.mode = .spare →
        exec (.layout 0 body) s = .next { s with station := { s.station with blocks := s.station.closed 0 none } })
      ∧ (∀ src, src ≠ 0 → ∃ t, exec (.layout src body) s = .next t
          ∧ s.Becomes s.station.scene s.station.timers (s.station.closed src none) t)
      ∧ (s.station.mode = .running →
        ∃ t, exec (.layout 0 body) s = .next t
          ∧ s.Becomes s.station.scene s.station.timers (s.station.refusal .layoutRefused 0x04 none none 0) t))
  ∧ (∀ b : LayoutBody, layoutValid b = true ↔
      720 ≤ b.width ∧ b.width ≤ 3840 ∧ b.width % 8 = 0 ∧ 480 ≤ b.height ∧ b.height ≤ 2160 ∧ b.height % 8 = 0
        ∧ 1 ≤ b.count ∧ b.count ≤ 4 ∧ b.count = b.bands.length
        ∧ (∀ d ∈ b.bands, 2 ≤ d.owner ∧ d.owner ≤ 5 ∧ d.first % 8 = 0 ∧ d.first < b.height)
        ∧ (b.bands.map Band.owner).Nodup ∧ (b.bands.map Band.first).head? = some 0
        ∧ (b.bands.map Band.first).Pairwise (fun m n => m < n) ∧ 8 ≤ b.prepareLimit ∧ b.prepareLimit ≤ 255)

/-! ### Keys, selection and scene words -/

/-- A digit key applied to a shown page appends its digit to the numeric entry, whose oldest digit goes when it already holds
four; beside what every Key brings (the activity number, the closing of an activation, the speaker's page timeout) it changes
nothing and activates nothing; with no page shown it is ignored (R28). -/
def Obligations.DigitKeyAppendsItsDigit : Prop :=
  ∀ (s : State) (d : Nat) (sc : Scene), s.station.Listens → d ≤ 9 →
    sc = { s.station.scene.keyed with
      entry := if s.station.scene.entry.length < 4 then s.station.scene.entry ++ [d]
        else s.station.scene.entry.tail ++ [d] } →
    (s.station.scene.shown.isSome = true →
      ∃ t, exec (.key 0 d) s = .next t
        ∧ s.Becomes sc (s.station.timers.keyed s.station.isSpeaker sc) (s.station.closed 0 none) t
        ∧ (s.station.scene.activatedButton = none → t.station.scene.live = s.station.scene.live)
        ∧ (s.station.scene.entry.length ≤ 4 → t.station.scene.entry.length ≤ 4))
    ∧ (s.station.scene.shown = none →
      ∃ t, exec (.key 0 d) s = .next t
        ∧ s.Becomes s.station.scene s.station.timers (s.station.closed 0 none) t)

/-- The Clear key applied to a shown page empties the numeric entry; a code without an action leaves it; both raise the
activity number, close an activation and restart the speaker's page timeout, and change nothing else (R29). The closing: the
Activated button is Selected again when it is enabled, and gives way to the page's default choice when it is not; a page that
times out has its full timeout again in the speaker, tagged with the new activity number (R25, R26, R40). -/
def Obligations.ClearKeyEmptiesTheEntry : Prop :=
  (∀ (s : State), s.station.Listens → s.station.scene.shown.isSome = true →
      (∃ t sc, exec (.key 0 0x15) s = .next t ∧ sc = { s.station.scene.keyed with entry := [] }
        ∧ s.Becomes sc (s.station.timers.keyed s.station.isSpeaker sc) (s.station.closed 0 none) t)
      ∧ ∀ code, readKey code = .nothing →
        ∃ t, exec (.key 0 code) s = .next t
          ∧ s.Becomes s.station.scene.keyed (s.station.timers.keyed s.station.isSpeaker s.station.scene.keyed)
              (s.station.closed 0 none) t)
  ∧ (∀ (s : State) (i : Nat) (l : Live), s.station.scene.activatedButton = some i → s.station.scene.live[i]? = some l →
      (l.enabled = true → s.station.scene.keyed.live = markOnly (some i) .selected 0 s.station.scene.live)
      ∧ (l.enabled = false →
          s.station.scene.keyed.live = markOnly s.station.scene.defaultChoice .selected 0 s.station.scene.live)
      ∧ (∀ b, s.station.scene.shownBody = some b → b.header.timeout ≠ 0 →
          (s.station.timers.keyed true s.station.scene.keyed).pageTimeout
            = some { tag := s.station.scene.activity + 1, remaining := 8 * b.header.timeout }))

/-- A direction key: from no chosen button to the default choice; else along the links to the first enabled button, which is
the only one Selected; a walk that finds none leaves the selection (R30, R31, R32). -/
def Obligations.DirectionKeysMoveTheSelection : Prop :=
  ∀ (s : State) (code : Nat) (d : Direction) (k : Scene), s.station.Listens → s.station.scene.shown.isSome = true →
    (code, d) ∈ [(0x10, Direction.up), (0x11, Direction.down), (0x12, Direction.left), (0x13, Direction.right)] →
    k = s.station.scene.keyed →
    ∃ t sc, exec (.key 0 code) s = .next t
      ∧ s.Becomes sc (s.station.timers.keyed s.station.isSpeaker sc) (s.station.closed 0 none) t
      ∧ sc = { k with live := sc.live }
      ∧ (s.station.scene.chosenButton = none → sc.live = markOnly k.defaultChoice .selected 0 k.live)
      ∧ (∀ o, s.station.scene.chosenButton = some o →
          (∀ q, walk ((k.shownBody.map PageBody.buttons).getD []) k.live d 32 o [o] = some q →
            sc.live = markOnly (some q) .selected 0 k.live)
          ∧ (walk ((k.shownBody.map PageBody.buttons).getD []) k.live d 32 o [o] = none → sc.live = k.live))

/-- Enter on a page that serves no wait activates the enabled button that the entry numbers, else the Selected one, and so
does an empty entry on the prompt page of a wait: the button alone is Activated, its effects applied and the entry emptied, and
the Report of a button that has a code goes out from the speaker (R33 to R36, R73). Without a go page the speaker starts the
8-frame hold (R37, R39); a go page that the guard lets through begins a change, without a hold and without the page timeout
(R37, R40, R50); one that is not Complete is refused with Page Unusable, one above the allowance of a closed guard with Guard
Closed, and the hold starts (R37, R49, R71). One above the allowance of an open guard that has a code becomes the wait: a change
to the prompt page begins, or, where the prompt page cannot be shown, the wait is dropped, Page Unusable carries the prompt page,
and the hold starts (R37, R71, R72). -/
def Obligations.EnterActivatesAButton : Prop :=
  ∀ (s : State) (i : Nat) (b : Button) (k sc : Scene) (g : Guard) (rep : Blocks) (begun : Timers) (kept : Timers → Prop)
    (refused : FaultKind → Nat → Blocks), s.station.Listens →
    s.station.scene.shown.isSome = true → k = s.station.scene.keyed → g = s.station.scene.guard →
    (k.servedWait = none ∧ (k.numberedButton = some i ∨ (k.numberedButton = none ∧ k.selectedButton = some i)))
      ∨ (k.servedWait.isSome = true ∧ k.entry = [] ∧ k.selectedButton = some i) →
    k.buttonOf i = some b →
    sc = { ({ k with live := markOnly (some i) .activated 0 k.live
                     words := applyEffects k.entry k.words b.effects } : Scene).recompute with entry := [] } →
    rep = (match b.report with
      | none => s.station.closed 0 none
      | some code =>
        if s.station.isSpeaker then
          (s.station.closed 0 none).enqueue (.report { kind := 0, page := sc.shown.getD 255, button := some b.id
                                                       code := some code, target := none, attempts := none
                                                       words := sc.words })
        else s.station.closed 0 none) →
    begun = (if s.station.isSpeaker then
        { s.station.timers with
          pagePrepare := some { tag := s.station.scene.pageChange + 1, remaining := s.station.prepareLimit }
          pageMark := false }
      else { s.station.timers with absence := some 0 }) →
    (∀ ti, kept ti ↔
      (s.station.isSpeaker = true →
          ti.hold = some { tag := s.station.scene.activity + 1, remaining := 8 }
            ∧ ti = { s.station.timers with hold := ti.hold
                                           pageTimeout := (s.station.timers.keyed true sc).pageTimeout })
        ∧ (s.station.isSpeaker = false → ti = s.station.timers)) →
    (∀ f p, refused f p = if s.station.isSpeaker then
        rep.enqueue (.fault (f.refusal { kind := 0x18, src := 0 } (some p) none))
      else rep) →
    (b.goPage = none → ∃ t ti, exec (.key 0 0x14) s = .next t ∧ s.Becomes sc ti rep t ∧ kept ti)
    ∧ (∀ q body, b.goPage = some q → s.station.scene.completeBody q = some body →
        body.header.guardLevel ≤ g.allowance ∨ (g.code = none ∧ g.closed = false) →
      ∃ t bl, exec (.key 0 0x14) s = .next t
        ∧ s.Becomes { sc with
            pageChange := s.station.scene.pageChange + 1, pendingPage := some q, pageReady := []
            activity := s.station.scene.activity + 2 } begun bl t
        ∧ bl.link = rep.link ∧ bl.bc = s.station.blocks.bc
        ∧ bl.store.roles = { s.station.blocks.store.roles with
            pending := s.station.blocks.store.roleSet s.station.geometry (pagePlacements q body) })
    ∧ (∀ q, b.goPage = some q → s.station.scene.completeBody q = none →
      ∃ t ti, exec (.key 0 0x14) s = .next t ∧ s.Becomes sc ti (refused .pageUnusable q) t ∧ kept ti)
    ∧ (∀ q body, b.goPage = some q → s.station.scene.completeBody q = some body → g.allowance < body.header.guardLevel →
      (g.closed = true → ∃ t ti, exec (.key 0 0x14) s = .next t ∧ s.Becomes sc ti (refused .guardClosed q) t ∧ kept ti)
      ∧ (∀ pr, g.closed = false → g.code.isSome = true → s.station.scene.completeBody g.prompt = some pr →
          pr.header.guardLevel ≤ g.allowance →
        ∃ t bl, exec (.key 0 0x14) s = .next t
          ∧ s.Becomes { sc with
              guard := { g with wait := some { target := q, origin := s.station.scene.shown } }
              pageChange := s.station.scene.pageChange + 1, pendingPage := some g.prompt, pageReady := []
              activity := s.station.scene.activity + 2 } begun bl t
          ∧ bl.link = rep.link
          ∧ bl.store.roles.pending
              = s.station.blocks.store.roleSet s.station.geometry (pagePlacements g.prompt pr))
      ∧ (g.closed = false → g.code.isSome = true →
          s.station.scene.completeBody g.prompt = none
            ∨ (∃ pr, s.station.scene.completeBody g.prompt = some pr ∧ g.allowance < pr.header.guardLevel) →
        ∃ t ti, exec (.key 0 0x14) s = .next t
          ∧ s.Becomes { sc with guard := { g with wait := none } } ti (refused .pageUnusable g.prompt) t ∧ kept ti))

/-- A Word Set of word 0 to 7 gives the word its value whole and ends with the recomputation of the enabled states; no timer,
no entry, no activity number moves; a word above 7 is refused by all and reported by the speaker; from another source it is
ignored (R16). What the recomputation does: each button's enabled state decided from the words, a Selected button that is
disabled giving way to the default choice, and nothing else of the replica touched (R17, R18, R20). -/
def Obligations.WordSetTakesTheWordWhole : Prop :=
  (∀ (s : State) (w : Nat) (v : Half), s.station.Listens →
      (w ≤ 7 → ∃ t, exec (.wordSet 0 w v) s = .next t
        ∧ s.Becomes ({ s.station.scene with words := s.station.scene.words.set w v } : Scene).recompute s.station.timers
            (s.station.closed 0 none) t
        ∧ t.station.scene = { s.station.scene with
            words := s.station.scene.words.set w v, live := t.station.scene.live })
      ∧ (7 < w → ∃ t, exec (.wordSet 0 w v) s = .next t
        ∧ s.Becomes s.station.scene s.station.timers (s.station.refusal .badDefinition 0x1C (some w) none 0) t)
      ∧ (∀ src, src ≠ 0 → ∃ t, exec (.wordSet src w v) s = .next t
        ∧ s.Becomes s.station.scene s.station.timers (s.station.closed src none) t))
  ∧ (∀ (sc : Scene) (pg : PageBody), sc.shownBody = some pg → sc.live.length = pg.buttons.length →
      sc.recompute = { sc with live := sc.recompute.live }
        ∧ sc.recompute.live.map Live.enabled = pg.buttons.map (enabledBy sc.words)
        ∧ (∀ i b, sc.selectedButton = some i → pg.buttons[i]? = some b → enabledBy sc.words b = true →
            sc.recompute.live.map Live.state = sc.live.map Live.state)
        ∧ (∀ i b, sc.selectedButton = some i → pg.buttons[i]? = some b → enabledBy sc.words b = false →
            sc.recompute.live = markOnly sc.recompute.defaultChoice .selected 0 sc.recompute.live))

/-! ### Page changes and the speaker -/

/-- A Go for a Complete page within the allowance begins a change: C and A rise, the page is pending, the ready set empty;
the speaker starts the prepare limit, every other owner its absence counter; the need set is pinned (R48 to R53, R63). Each
Held strip of the need set that is not Ready has a job, or was declined with the deferred mark set; a job is of before and of no
superseded change, or is tagged with the new C and names such a strip (R51, R53, R125). Each strip that is missing, Skipped or
Bad and not Broken is on the Want list, and each unresolved asset whole, where the list has room for them all (R53, R119). The
exhaustion mark is cleared (R117). A quiet station keeps this store and these jobs at the event's end (R120, R124). -/
def Obligations.GoBeginsAPageChange : Prop :=
  ∀ (s : State) (p : Nat) (pg : PageBody), s.station.Listens → p ≤ 63 → s.station.scene.completeBody p = some pg →
    pg.header.guardLevel ≤ s.station.scene.guard.allowance ∨ s.station.scene.guard.code = none
      ∧ s.station.scene.guard.closed = false →
    ∃ t b, exec (.go 0 p) s = .next t
      ∧ s.Becomes { s.station.scene with
          pageChange := s.station.scene.pageChange + 1, pendingPage := some p, pageReady := []
          activity := s.station.scene.activity + 1 }
        (if s.station.isSpeaker then
          { s.station.timers with
            pagePrepare := some { tag := s.station.scene.pageChange + 1, remaining := s.station.prepareLimit }
            pageMark := false }
        else { s.station.timers with absence := some 0 }) b t
      ∧ b = Blocks.beginPage s.station.geometry
          (if s.station.scene.pendingPage.isSome then some s.station.scene.pageChange else none)
          (s.station.scene.pageChange + 1) (pagePlacements p pg) (s.station.closed 0 none)
      ∧ b.link = (s.station.closed 0 none).link ∧ b.bc = s.station.blocks.bc
      ∧ b.store.roles = { s.station.blocks.store.roles with
          pending := s.station.blocks.store.roleSet s.station.geometry (pagePlacements p pg) }
      ∧ b.decode.pageReadySent = false ∧ b.store.exhausted = false
      ∧ (s.station.Quiet → t.station.blocks.store = b.store ∧ t.station.blocks.decode.pageJobs = b.decode.pageJobs)
      ∧ (∀ k ∈ b.store.roles.pending.strips, s.station.blocks.store.isHeld k = true →
          s.station.blocks.store.isReady k = false → b.decode.hasJob k = true ∨ b.decode.deferred = true)
      ∧ (∀ j ∈ b.decode.pageJobs,
          (j ∈ s.station.blocks.decode.pageJobs
            ∧ (s.station.scene.pendingPage.isSome = true → j.tag ≠ s.station.scene.pageChange))
          ∨ (j.tag = s.station.scene.pageChange + 1 ∧ j.id ∈ b.store.roles.pending.strips
            ∧ s.station.blocks.store.isHeld j.id = true ∧ s.station.blocks.store.isReady j.id = false))
      ∧ (s.station.blocks.store.wants.length + b.store.roles.pending.strips.length
            + b.store.roles.pending.unresolved.length ≤ 64 →
          (∀ k ∈ b.store.roles.pending.strips, s.station.blocks.store.isHeld k = false →
            s.station.blocks.store.isBroken k = false → ∃ r ∈ b.store.wants, r.covers k.asset k.index k.index = true)
          ∧ (∀ pl ∈ b.store.roles.pending.unresolved, { asset := pl.asset, span := none } ∈ b.store.wants))

/-- A Go that begins no change: a page number above 63 or a page that is not Complete is refused with Page Unusable, a page
above the allowance of a closed guard with Guard Closed; a Go of another source is ignored (R48, R49, R71). A Go for a page
above the allowance of an open guard that has a code makes a wait for it and begins a change to the prompt page; without a
prompt page that can be shown the wait is dropped and the Go refused (R71, R72). -/
def Obligations.GoThatIsRefusedOrWaits : Prop :=
  (∀ (s : State) (p : Nat), s.station.Listens →
      (63 < p ∨ s.station.scene.completeBody p = none → ∃ t, exec (.go 0 p) s = .next t
        ∧ s.Becomes s.station.scene s.station.timers (s.station.refusal .pageUnusable 0x1A (some p) none 0) t)
      ∧ (∀ pg, p ≤ 63 → s.station.scene.completeBody p = some pg →
          s.station.scene.guard.allowance < pg.header.guardLevel → s.station.scene.guard.closed = true →
          ∃ t, exec (.go 0 p) s = .next t
            ∧ s.Becomes s.station.scene s.station.timers (s.station.refusal .guardClosed 0x1A (some p) none 0) t)
      ∧ (∀ src, src ≠ 0 → ∃ t, exec (.go src p) s = .next t
          ∧ s.Becomes s.station.scene s.station.timers (s.station.closed src none) t))
  ∧ (∀ (s : State) (p : Nat) (pg : PageBody) (g : Guard), s.station.Listens → p ≤ 63 →
      s.station.scene.completeBody p = some pg → g = s.station.scene.guard → g.allowance < pg.header.guardLevel →
      g.closed = false → g.code.isSome = true →
      (∀ pr, s.station.scene.completeBody g.prompt = some pr → pr.header.guardLevel ≤ g.allowance →
        ∃ t, exec (.go 0 p) s = .next t
          ∧ t.station.scene = { s.station.scene with
              guard := { g with wait := some { target := p, origin := s.station.scene.shown } }
              pageChange := s.station.scene.pageChange + 1, pendingPage := some g.prompt, pageReady := []
              activity := s.station.scene.activity + 1 }
          ∧ t.station.blocks.store.roles.pending
              = s.station.blocks.store.roleSet s.station.geometry (pagePlacements g.prompt pr))
      ∧ (s.station.scene.completeBody g.prompt = none
          ∨ (∃ pr, s.station.scene.completeBody g.prompt = some pr ∧ g.allowance < pr.header.guardLevel) →
        ∃ t, exec (.go 0 p) s = .next t
          ∧ s.Becomes { s.station.scene with guard := { g with wait := none } } s.station.timers
              (s.station.refusal .pageUnusable 0x1A (some g.prompt) none 0) t))

/-- Enter on the prompt page while a page waits. One to three digits: nothing is activated, and the entry keeps them; an empty
entry with no button Selected likewise (R73). Four digits that are the code, or any four of a guard without one, open the guard
and begin the change to the waiting page, which is refused with Page Unusable when it is no longer Complete (R74). A wrong code
costs an attempt and is reported by the speaker (R75). The last one closes the guard after the Report: the viewer is returned
to the origin page by a change, or refused with Page Unusable or Guard Closed, or stays when there is none (R76). -/
def Obligations.GuardComparesFourDigits : Prop :=
  ∀ (s : State) (w : Wait) (k : Scene) (rep : Nat → Blocks) (fail : Scene) (begun : Timers), s.station.Listens →
    s.station.scene.shown.isSome = true →
    k = s.station.scene.keyed → k.shown = some k.guard.prompt → k.guard.wait = some w →
    (∀ left, rep left = if s.station.isSpeaker then
        (s.station.closed 0 none).enqueue (.report { kind := 1, page := k.guard.prompt, button := none, code := none
                                                     target := some w.target, attempts := some left, words := k.words })
      else s.station.closed 0 none) →
    fail = { k with entry := [], guard := { k.guard with attempts := 0, closed := true, wait := none } } →
    begun = (if s.station.isSpeaker then
        { s.station.timers with
          pagePrepare := some { tag := k.pageChange + 1, remaining := s.station.prepareLimit }, pageMark := false }
      else { s.station.timers with absence := some 0 }) →
    (1 ≤ k.entry.length ∧ k.entry.length < 4 ∨ (k.entry = [] ∧ k.selectedButton = none) →
      ∃ t, exec (.key 0 0x14) s = .next t
        ∧ s.Becomes k (s.station.timers.keyed s.station.isSpeaker k) (s.station.closed 0 none) t)
    ∧ (∀ pg, k.entry.length = 4 → k.guard.code = none ∨ k.guard.code = some k.entry → k.completeBody w.target = some pg →
      ∃ t, exec (.key 0 0x14) s = .next t
        ∧ t.station.scene = { k with
            entry := [], guard := { k.guard with attempts := 4, closed := false, wait := none }
            pageChange := k.pageChange + 1, pendingPage := some w.target, pageReady := [], activity := k.activity + 1 }
        ∧ t.station.timers = begun)
    ∧ (k.entry.length = 4 → k.guard.code = none ∨ k.guard.code = some k.entry → k.completeBody w.target = none →
      ∃ t sc, exec (.key 0 0x14) s = .next t
        ∧ sc = { k with entry := [], guard := { k.guard with attempts := 4, closed := false, wait := none } }
        ∧ s.Becomes sc (s.station.timers.keyed s.station.isSpeaker sc)
            (s.station.refusal .pageUnusable 0x18 (some w.target) none 0) t)
    ∧ (∀ code, k.entry.length = 4 → k.guard.code = some code → code ≠ k.entry → 2 ≤ k.guard.attempts →
      ∃ t sc, exec (.key 0 0x14) s = .next t
        ∧ sc = { k with entry := [], guard := { k.guard with attempts := k.guard.attempts - 1 } }
        ∧ s.Becomes sc (s.station.timers.keyed s.station.isSpeaker sc) (rep (k.guard.attempts - 1)) t)
    ∧ (∀ code, k.entry.length = 4 → k.guard.code = some code → code ≠ k.entry → k.guard.attempts = 1 →
      (w.origin = none → ∃ t, exec (.key 0 0x14) s = .next t
        ∧ s.Becomes fail (s.station.timers.keyed s.station.isSpeaker fail) (rep 0) t)
      ∧ (∀ o, w.origin = some o → k.completeBody o = none → ∃ t, exec (.key 0 0x14) s = .next t
        ∧ s.Becomes fail (s.station.timers.keyed s.station.isSpeaker fail)
            (if s.station.isSpeaker then
              (rep 0).enqueue (.fault (FaultKind.pageUnusable.refusal { kind := 0x18, src := 0 } (some o) none))
            else rep 0) t)
      ∧ (∀ o pg, w.origin = some o → k.completeBody o = some pg → k.guard.allowance < pg.header.guardLevel →
        ∃ t, exec (.key 0 0x14) s = .next t
          ∧ s.Becomes fail (s.station.timers.keyed s.station.isSpeaker fail)
              (if s.station.isSpeaker then
                (rep 0).enqueue (.fault (FaultKind.guardClosed.refusal { kind := 0x18, src := 0 } (some o) none))
              else rep 0) t)
      ∧ (∀ o pg, w.origin = some o → k.completeBody o = some pg → pg.header.guardLevel ≤ k.guard.allowance →
        ∃ t bl, exec (.key 0 0x14) s = .next t
          ∧ s.Becomes { fail with
              pageChange := k.pageChange + 1, pendingPage := some o, pageReady := [], activity := k.activity + 1 } begun bl t
          ∧ bl.link = (rep 0).link))

/-- Guard Set from source 0 or 1: refused by a frozen guard, refused out of range, else taken whole with the attempts, the
closure, the freeze and the wait kept; ignored from any other source (R69). Guard Freeze from source 0 freezes the guard,
frozen already or not; from any other source it is ignored (R70). -/
def Obligations.GuardIsSetAndFrozen : Prop :=
  (∀ (s : State) (src : Nat) (code : Half) (allowance prompt : Nat) (outOfRange : Prop), s.station.Listens → src ≤ 1 →
      (outOfRange ↔ (code ≠ 0xFFFF ∧ ∃ d ∈ codeDigits code, 9 < d) ∨ 7 < allowance ∨ 63 < prompt) →
      (s.station.scene.guard.frozen = true → ∃ t, exec (.guardSet src code allowance prompt) s = .next t
        ∧ s.Becomes s.station.scene s.station.timers (s.station.refusal .guardFrozen 0x20 none none src) t)
      ∧ (s.station.scene.guard.frozen = false → outOfRange → ∃ t, exec (.guardSet src code allowance prompt) s = .next t
        ∧ s.Becomes s.station.scene s.station.timers (s.station.refusal .badDefinition 0x20 none none src) t)
      ∧ (s.station.scene.guard.frozen = false → ¬ outOfRange → ∃ t, exec (.guardSet src code allowance prompt) s = .next t
        ∧ s.Becomes { s.station.scene with
            guard := { s.station.scene.guard with
              code := if code = 0xFFFF then none else some (codeDigits code), allowance := allowance, prompt := prompt } }
            s.station.timers (s.station.closed src none) t)
      ∧ (∀ other, 1 < other → ∃ t, exec (.guardSet other code allowance prompt) s = .next t
        ∧ s.Becomes s.station.scene s.station.timers (s.station.closed other none) t))
  ∧ (∀ (s : State) (src : Nat), s.station.Listens →
      (∃ t, exec (.guardFreeze 0) s = .next t
        ∧ s.Becomes { s.station.scene with guard := { s.station.scene.guard with frozen := true } } s.station.timers
            (s.station.closed 0 none) t)
      ∧ (src ≠ 0 → ∃ t, exec (.guardFreeze src) s = .next t
        ∧ s.Becomes s.station.scene s.station.timers (s.station.closed src none) t))

/-- A Ready that matches the pending page change joins the ready set once; when the last owner's arrives with the mark
clear, the speaker queues the full Switch, two frames on, and sets the mark (R55, R56). A Ready of a source that owns no band,
of another page, of another change number, or with no page change pending, is ignored (R55). -/
def Obligations.PageReadyClosesTheChange : Prop :=
  (∀ (s : State) (src p : Nat) (own : Blocks) (sc : Scene), s.station.Listens → src < 6 →
      own = s.station.closed src (some (.ready { stream := 0, index := p, change := s.station.scene.pageChange })) →
      sc = { s.station.scene with pageReady := Stations.insert src s.station.scene.pageReady } →
      s.station.scene.owners.contains src = true → s.station.scene.pendingPage = some p →
      (s.station.scene.pageReady.contains src = true →
        ∃ t, exec (.ready src { stream := 0, index := p, change := s.station.scene.pageChange }) s = .next t
          ∧ s.Becomes s.station.scene s.station.timers own t)
      ∧ (s.station.scene.pageReady.contains src = false →
          s.station.isSpeaker = false ∨ s.station.timers.pageMark = true ∨ (∃ o ∈ sc.owners, o ∉ sc.pageReady) →
        ∃ t, exec (.ready src { stream := 0, index := p, change := s.station.scene.pageChange }) s = .next t
          ∧ s.Becomes sc s.station.timers own t)
      ∧ (s.station.scene.pageReady.contains src = false → s.station.isSpeaker = true →
          s.station.timers.pageMark = false → (∀ o ∈ sc.owners, o ∈ sc.pageReady) →
        ∃ t, exec (.ready src { stream := 0, index := p, change := s.station.scene.pageChange }) s = .next t
          ∧ s.Becomes sc { s.station.timers with pageMark := true, pagePrepare := none }
              (own.enqueue (.switch { stream := 0, index := p, change := s.station.scene.pageChange
                                      target := s.station.blocks.bc.frame + 2, partialFlag := 0 })) t))
  ∧ (∀ (s : State) (src : Nat) (body : ReadyBody), s.station.Listens → body.stream = 0 →
      s.station.scene.owners.contains src = false ∨ s.station.scene.pendingPage = none
        ∨ s.station.scene.pendingPage ≠ some body.index ∨ body.change ≠ s.station.scene.pageChange →
      ∃ t, exec (.ready src body) s = .next t
        ∧ s.Becomes s.station.scene s.station.timers (s.station.closed src (some (.ready body))) t)

/-- The speaker's Switch of the pending page: the page is shown, the old one leaves, the pending page and the ready set are
gone, the buttons are entered anew after the words of the entry effect, the entry is emptied, A rises, a wait not served by
this page is dropped, and the page timeout starts in the speaker (R58, R63). The default choice is made Selected by the words
of before the entry effect; the effect keeps it where its button is enabled still, and gives way to the default choice by the
new words where it is not (R18 to R20, R58). That any partial byte is taken is the model's reading (log 25). -/
def Obligations.PageSwitchShowsThePage : Prop :=
  ∀ (s : State) (src p : Nat) (target : Long) (flag : Nat) (pg : PageBody) (own : Option Message), s.station.Listens →
    src < 6 → s.station.scene.speaker = some src → s.station.scene.pendingPage = some p →
    s.station.scene.completeBody p = some pg →
    own = some (.switch { stream := 0, index := p, change := s.station.scene.pageChange, target := target
                          partialFlag := flag }) →
    ∃ t sc b, exec (.switch src { stream := 0, index := p, change := s.station.scene.pageChange, target := target
                                  partialFlag := flag }) s = .next t
      ∧ s.Becomes sc
          (if s.station.isSpeaker then { s.station.timers with pageTimeout := sc.pageTimer, pagePrepare := none }
          else { s.station.timers with
            absence := if s.station.scene.pendingIndex.isSome && !s.station.scene.held then some 0 else none }) b t
      ∧ sc = { s.station.scene with
          shown := some p
          leaving := if s.station.scene.shown = some p then none else s.station.scene.shown
          pendingPage := none, pageReady := [], entry := [], activity := s.station.scene.activity + 1
          guard := if p = s.station.scene.guard.prompt then s.station.scene.guard
            else { s.station.scene.guard with wait := none }
          words := (match pg.header.entryEffect with
            | none => s.station.scene.words
            | some e => applyEffect s.station.scene.entry s.station.scene.words e)
          live := sc.live }
      ∧ sc.live.map Live.enabled = pg.buttons.map (enabledBy sc.words)
      ∧ (pg.header.entryEffect = none → sc.live = markOnly sc.defaultChoice .selected 0 sc.live)
      ∧ (∀ (e : WordEffect) (k : Scene), pg.header.entryEffect = some e →
          k = { sc with words := s.station.scene.words
                        live := pg.buttons.map (fun b => { enabled := enabledBy s.station.scene.words b, state := .normal }) } →
          (k.defaultChoice = none → ∀ l ∈ sc.live, l.state = .normal)
          ∧ (∀ i b, k.defaultChoice = some i → pg.buttons[i]? = some b → enabledBy sc.words b = true →
              sc.live = markOnly (some i) .selected 0 sc.live)
          ∧ (∀ i b, k.defaultChoice = some i → pg.buttons[i]? = some b → enabledBy sc.words b = false →
              sc.live = markOnly sc.defaultChoice .selected 0 sc.live))
      ∧ sc.pageTimer = (if pg.header.timeout = 0 then none
          else some { tag := s.station.scene.activity + 1, remaining := 8 * pg.header.timeout })

/-- What an applied page Switch hands to the Band Compositor and the store: the held switch with its target, the buttons of
the page being left, the roles of the shown and the pending page, and a late switch's count and Fault (R58, R59, R115,
R143, R155). An earlier page switch still held is treated as reached first: its page is the display page, and the display
role takes the shown page's set as it stood (R143). A queued Page Prepare job stays exactly when the new shown page's set names
its strip, no page being pending any more, and the job in progress goes on (R128, log 42). That any partial byte is taken is the
model's reading (log 25). -/
def Obligations.PageSwitchIsHandedOver : Prop :=
  ∀ (s : State) (src p : Nat) (target : Long) (flag : Nat) (late : Bool) (display : Option Nat), s.station.Listens →
    src < 6 → s.station.scene.speaker = some src → s.station.scene.pendingPage = some p →
    display = (match s.station.blocks.bc.pageSwitch with
      | none => s.station.blocks.bc.displayPage
      | some e => some e.page) →
    late = decide ((s.station.blocks.bc.frame - target).toNat < 2 ^ 31) →
    ∃ t, exec (.switch src { stream := 0, index := p, change := s.station.scene.pageChange, target := target
                             partialFlag := flag }) s = .next t
      ∧ t.station.blocks.bc.pageSwitch
          = some { page := p, change := s.station.scene.pageChange, target := target, late := late }
      ∧ t.station.blocks.bc.displayPage = display
      ∧ t.station.blocks.bc.heldButtons
          = (if display = none ∨ display = some p then none else some s.station.scene.live)
      ∧ t.station.blocks.bc.overrunReported = false
      ∧ t.station.blocks.bc.lateCount
          = (if late = true ∧ s.station.blocks.bc.lateCount < 255 then s.station.blocks.bc.lateCount + 1
            else s.station.blocks.bc.lateCount)
      ∧ t.station.blocks.store.roles = { s.station.blocks.store.roles with
          display := if s.station.blocks.bc.pageSwitch.isSome then s.station.blocks.store.roles.shown
            else s.station.blocks.store.roles.display
          shown := s.station.blocks.store.roles.pending, pending := RoleSet.empty }
      ∧ (late = true → s.station.blocks.link.silent = false → s.station.blocks.link.queue.length < 8 →
          .fault (lateFault .page s.station.scene.pageChange target s.station.blocks.bc.frame)
            ∈ t.station.blocks.link.queue)
      ∧ (∀ j ∈ t.station.blocks.decode.pageJobs, s.station.blocks.store.roles.pending.strips.contains j.id = true)
      ∧ (s.station.Quiet → t.station.blocks.decode.running = s.station.blocks.decode.running
        ∧ t.station.blocks.decode.pageJobs = s.station.blocks.decode.pageJobs.filter
            (fun j => s.station.blocks.store.roles.pending.strips.contains j.id))

/-- A valid Expire (Hold) closes the activation and touches nothing else of the scene (R41, R42). An Expire of a source that
is not the speaker, of an unknown timer, or whose tag or state does not match, is stale: it is ignored (R41, R90). -/
def Obligations.HoldExpireOrStaleExpire : Prop :=
  (∀ (s : State) (src i : Nat) (l : Live) (own : Option Message), s.station.Listens → src < 6 →
      s.station.scene.speaker = some src → s.station.scene.activatedButton = some i →
      s.station.scene.live[i]? = some l → own = some (.expire { timer := 1, tag := s.station.scene.activity }) →
      ∃ t, exec (.expire src { timer := 1, tag := s.station.scene.activity }) s = .next t
        ∧ s.Becomes { s.station.scene with
            live := markOnly (if l.enabled then some i else s.station.scene.defaultChoice) .selected 0
              s.station.scene.live } s.station.timers (s.station.closed src own) t)
  ∧ (∀ (s : State) (src : Nat) (body : ExpireBody), s.station.Listens →
      s.station.scene.speaker ≠ some src ∨ 2 < body.timer
        ∨ (body.timer = 0 ∧ (body.tag ≠ s.station.scene.activity ∨ s.station.scene.shown = none))
        ∨ (body.timer = 1 ∧ (body.tag ≠ s.station.scene.activity ∨ s.station.scene.activatedButton = none))
        ∨ (body.timer = 2 ∧ (body.tag ≠ s.station.scene.slideChange ∨ s.station.scene.show_ ≠ .playing
            ∨ s.station.scene.held = true)) →
      ∃ t, exec (.expire src body) s = .next t
        ∧ s.Becomes s.station.scene s.station.timers (s.station.closed src (some (.expire body))) t)

/-- A valid Expire (Page Timeout) does the page's on-timeout action: nothing, a request for a page, or an activation of the
Selected button (R41, R43). The page requested: one that the guard lets through begins its change; one that is not Complete, or
above the allowance of a closed guard, is refused; one above the allowance of an open guard that has a code becomes the wait, and
a change to the prompt page begins, or the wait is dropped with Page Unusable where that page cannot be shown (R43, R49, R71,
R72). A valid Expire (Slide Duration) begins the change to the next entry, or pauses the show on the last one (R41, R90). -/
def Obligations.TimeoutAndDurationExpiresAct : Prop :=
  (∀ (s : State) (src : Nat) (pg : PageBody) (h : Station) (g : Guard) (refused : FaultKind → Nat → Station → Station),
      s.station.Listens → src < 6 →
      s.station.scene.speaker = some src → s.station.scene.shownBody = some pg →
      h = s.station.heard src (some (.expire { timer := 0, tag := s.station.scene.activity })) →
      g = s.station.scene.guard →
      (∀ f p u, refused f p u = if s.station.isSpeaker then
          { u with blocks := u.blocks.enqueue (.fault (f.refusal { kind := 0x0C, src := src } (some p) none)) }
        else u) →
      ∃ t u, exec (.expire src { timer := 0, tag := s.station.scene.activity }) s = .next t ∧ s.After u t
        ∧ (pg.header.onTimeout = .none → u = h)
        ∧ (∀ q body, pg.header.onTimeout = .go q → s.station.scene.completeBody q = some body →
            body.header.guardLevel ≤ g.allowance ∨ (g.code = none ∧ g.closed = false) → u = h.beginPage q body)
        ∧ (∀ q, pg.header.onTimeout = .go q → s.station.scene.completeBody q = none → u = refused .pageUnusable q h)
        ∧ (∀ q body, pg.header.onTimeout = .go q → s.station.scene.completeBody q = some body →
            g.allowance < body.header.guardLevel →
          (g.closed = true → u = refused .guardClosed q h)
          ∧ (∀ pr, g.closed = false → g.code.isSome = true → s.station.scene.completeBody g.prompt = some pr →
              pr.header.guardLevel ≤ g.allowance →
            u = Station.beginPage g.prompt pr { h with
              scene := { s.station.scene with
                guard := { g with wait := some { target := q, origin := s.station.scene.shown } } } })
          ∧ (g.closed = false → g.code.isSome = true →
              s.station.scene.completeBody g.prompt = none
                ∨ (∃ pr, s.station.scene.completeBody g.prompt = some pr ∧ g.allowance < pr.header.guardLevel) →
            u = refused .pageUnusable g.prompt { h with
              scene := { s.station.scene with guard := { g with wait := none } } }))
        ∧ (pg.header.onTimeout = .activateSelected → s.station.scene.selectedButton = none → u = h)
        ∧ (∀ i, pg.header.onTimeout = .activateSelected → s.station.scene.selectedButton = some i →
            u = (h.activate { kind := 0x0C, src := src } i).2))
  ∧ (∀ (s : State) (src : Nat) (h : Station), s.station.Listens → src < 6 → s.station.scene.speaker = some src →
      s.station.scene.show_ = .playing → s.station.scene.held = false →
      h = s.station.heard src (some (.expire { timer := 2, tag := s.station.scene.slideChange })) →
      (∀ j, s.station.scene.nextIndex s.station.scene.current = some j →
        ∃ t, exec (.expire src { timer := 2, tag := s.station.scene.slideChange }) s = .next t ∧ s.After (h.beginSlide j) t)
      ∧ (s.station.scene.nextIndex s.station.scene.current = none →
        ∃ t, exec (.expire src { timer := 2, tag := s.station.scene.slideChange }) s = .next t
          ∧ s.Becomes { s.station.scene with show_ := .paused }
              (if s.station.isSpeaker then { s.station.timers with remaining := none } else s.station.timers) h.blocks t))

/-- An applied Claim Speaker makes its source the speaker and drops this station's queued Claims behind the head; a station
that is not the claimant stops its speaker's timers and restarts its absence counter while a change waits (R65); that its
marks, its elapsed count and its remaining duration are at their reset values is the model's reading (log 27). The claimant
takes up the timers; it queues the Switch of a pending page change, and of a slide change that is not held, two frames on,
full when every owner is ready, else partial with Prepare Overdue (R66, R101); that a timer it does not start is idle, also in
a station that was the speaker already, is the model's choice (log 39). A Claim of no owner is ignored (R65). -/
def Obligations.ClaimMakesTheSpeaker : Prop :=
  ∀ (s : State) (src : Nat) (b : Blocks), s.station.Listens → src < 6 →
    b = (s.station.closed src (some .claim)).withLink Link.dropClaims →
    (s.station.scene.owners.contains src = true → src ≠ s.station.number →
      ∃ t, exec (.claimSpeaker src) s = .next t
        ∧ s.Becomes { s.station.scene with speaker := some src }
            { Timers.reset with
              absence := if s.station.scene.pendingPage.isSome
                  || (s.station.scene.pendingIndex.isSome && !s.station.scene.held) then some 0 else none } b t)
    ∧ (s.station.scene.owners.contains src = true → src = s.station.number →
      ∃ t ti bl, exec (.claimSpeaker src) s = .next t
        ∧ s.Becomes { s.station.scene with speaker := some src } ti bl t
        ∧ ti.pageTimeout = s.station.scene.pageTimer ∧ ti.absence = none ∧ ti.elapsed = 0 ∧ ti.remaining = none
        ∧ ti.pagePrepare = none ∧ ti.slidePrepare = none
        ∧ ti.hold = (if s.station.scene.activatedButton.isSome ∧ s.station.scene.pendingPage = none then
            some { tag := s.station.scene.activity, remaining := 8 } else none)
        ∧ (s.station.scene.show_ ≠ .playing ∨ s.station.scene.pendingIndex.isSome = true → ti.slideDuration = none)
        ∧ (∀ e, s.station.scene.show_ = .playing → s.station.scene.pendingIndex = none →
            s.station.scene.slides[s.station.scene.current]? = some e →
            ti.slideDuration = if e.duration = 0 then none
              else some { tag := s.station.scene.slideChange, remaining := e.duration })
        ∧ (s.station.scene.pendingPage = none →
            s.station.scene.pendingIndex = none ∨ s.station.scene.held = true → bl = b)
        ∧ (∀ p, s.station.scene.pendingPage = some p →
            s.station.scene.pendingIndex = none ∨ s.station.scene.held = true → ti.pageMark = true
            ∧ ((∀ o ∈ s.station.scene.owners, o ∈ s.station.scene.pageReady) →
              bl = b.enqueue (.switch { stream := 0, index := p, change := s.station.scene.pageChange
                                        target := s.station.blocks.bc.frame + 2, partialFlag := 0 }))
            ∧ ((∃ o ∈ s.station.scene.owners, o ∉ s.station.scene.pageReady) →
              bl = (b.enqueue (.switch { stream := 0, index := p, change := s.station.scene.pageChange
                                         target := s.station.blocks.bc.frame + 2, partialFlag := 1 })).enqueue
                (.fault (overdueFault .page s.station.scene.pageChange
                  (s.station.scene.missing s.station.scene.pageReady)))))
        ∧ (∀ i, s.station.scene.pendingPage = none → s.station.scene.pendingIndex = some i →
            s.station.scene.held = false → ti.slideMark = true
            ∧ ((∀ o ∈ s.station.scene.owners, o ∈ s.station.scene.slideReady) →
              bl = b.enqueue (.switch { stream := 1, index := i, change := s.station.scene.slideChange
                                        target := s.station.blocks.bc.frame + 2, partialFlag := 0 }))
            ∧ ((∃ o ∈ s.station.scene.owners, o ∉ s.station.scene.slideReady) →
              bl = (b.enqueue (.switch { stream := 1, index := i, change := s.station.scene.slideChange
                                         target := s.station.blocks.bc.frame + 2, partialFlag := 1 })).enqueue
                (.fault (overdueFault .slide s.station.scene.slideChange
                  (s.station.scene.missing s.station.scene.slideReady)))))
        ∧ (∀ p i, s.station.scene.pendingPage = some p → s.station.scene.pendingIndex = some i →
            s.station.scene.held = false → (∀ o ∈ s.station.scene.owners, o ∈ s.station.scene.pageReady) →
            (∀ o ∈ s.station.scene.owners, o ∈ s.station.scene.slideReady) →
            ti.pageMark = true ∧ ti.slideMark = true
            ∧ bl = (b.enqueue (.switch { stream := 0, index := p, change := s.station.scene.pageChange
                                         target := s.station.blocks.bc.frame + 2, partialFlag := 0 })).enqueue
                (.switch { stream := 1, index := i, change := s.station.scene.slideChange
                           target := s.station.blocks.bc.frame + 2, partialFlag := 0 })))
    ∧ (s.station.scene.owners.contains src = false →
      ∃ t, exec (.claimSpeaker src) s = .next t
        ∧ s.Becomes s.station.scene s.station.timers (s.station.closed src (some .claim)) t)

/-! ### The slide show -/

/-- Slide Append: a full list is refused first, then an entry out of range; a taken one joins the end of the list and its
placement the store (R79, R80). -/
def Obligations.SlideAppendJoinsTheList : Prop :=
  ∀ (s : State) (b : AppendBody) (inRange : Prop) (kind : TransitionKind), s.station.Listens →
    (inRange ↔ b.asset ≤ 1023 ∧ b.x ≤ 3839 ∧ b.y ≤ 2159 ∧ b.kind ≤ 2 ∧ b.length ≤ 60) →
    kind = (if b.kind = 0 then .cut else if b.kind = 1 then .fade else .wipeDown) →
    (128 ≤ s.station.scene.slides.length → ∃ t, exec (.slideAppend 0 b) s = .next t
      ∧ s.Becomes s.station.scene s.station.timers (s.station.refusal .listFull 0x28 none none 0) t)
    ∧ (s.station.scene.slides.length < 128 → ¬ inRange → ∃ t, exec (.slideAppend 0 b) s = .next t
      ∧ s.Becomes s.station.scene s.station.timers (s.station.refusal .badDefinition 0x28 none none 0) t)
    ∧ (s.station.scene.slides.length < 128 → inRange → ∃ t, exec (.slideAppend 0 b) s = .next t
      ∧ s.Becomes { s.station.scene with
          slides := s.station.scene.slides ++ [{
            content := { asset := b.asset, x := b.x, y := b.y, fill := b.fill }, duration := b.duration, kind := kind
            length := b.length, tag := if b.tag = 255 then none else some b.tag }] } s.station.timers
          { s.station.closed 0 none with
            store := { s.station.blocks.store with
              placements := s.station.blocks.store.placements
                ++ [{ asset := b.asset, x := b.x, y := b.y, clip := none, maker := .slide }] } } t)

/-- Slide Remove: Slide Busy while Playing, Bad Definition beyond the list; in Stopped the entry leaves, the current index
follows, and the last entry's Remove leaves index 0 and the show Stopped; its placement is withdrawn (R81, R84). In Paused the
pending index follows too; the Remove of the pending entry, and that of the current one with no change pending, begins a change
to the entry that stands there then, the new last one where none does (R81). Slide Clear: refused while Playing; else the list
is empty, the show Stopped, a pending change cancelled, the slide layer off, and every slide placement and slide pin gone; the
loop flag and the cues stay (R82, R84, R96, R154). The queued and the suspended batch are gone in both, and one in progress
stops at the end of its strip (R96, R133). -/
def Obligations.SlideRemoveAndClear : Prop :=
  (∀ (s : State) (i : Nat), s.station.Listens →
      (s.station.scene.show_ = .playing → ∃ t, exec (.slideRemove 0 i) s = .next t
        ∧ s.Becomes s.station.scene s.station.timers (s.station.refusal .slideBusy 0x29 (some i) none 0) t)
      ∧ (s.station.scene.show_ ≠ .playing → s.station.scene.slides.length ≤ i → ∃ t, exec (.slideRemove 0 i) s = .next t
        ∧ s.Becomes s.station.scene s.station.timers (s.station.refusal .badDefinition 0x29 (some i) none 0) t)
      ∧ (∀ e, s.station.scene.show_ = .stopped → s.station.scene.pendingIndex = none →
          s.station.scene.slides[i]? = some e → 2 ≤ s.station.scene.slides.length →
        ∃ t, exec (.slideRemove 0 i) s = .next t
          ∧ s.Becomes { s.station.scene with
              slides := s.station.scene.slides.eraseIdx i
              current := if i < s.station.scene.current ∨ (i = s.station.scene.current
                  ∧ i + 1 = s.station.scene.slides.length) then s.station.scene.current - 1 else s.station.scene.current }
              s.station.timers ((s.station.closed 0 none).withStore (Store.withdrawSlide e.content)) t)
      ∧ (∀ e, s.station.scene.show_ ≠ .playing → s.station.scene.slides = [e] → i = 0 →
        ∃ t, exec (.slideRemove 0 i) s = .next t
          ∧ t.station.scene = { s.station.scene with
              slides := [], current := 0, show_ := .stopped, pendingIndex := none, slideReady := [], held := false }
          ∧ t.station.blocks.store.placements = s.station.blocks.store.placements.erase (slidePlacement e.content)
          ∧ t.station.blocks.bc.layerOn = false
          ∧ t.station.blocks.decode.batch = none ∧ t.station.blocks.decode.suspended = none
          ∧ ∀ q n x, s.station.blocks.decode.running = some (.batch q n x) →
              t.station.blocks.decode.running = some (.batch q n true))
      ∧ (∀ (e : Slide) (r : Scene) (h : Station), s.station.scene.show_ = .paused →
          s.station.scene.slides[i]? = some e → 2 ≤ s.station.scene.slides.length →
          r = { s.station.scene with
            slides := s.station.scene.slides.eraseIdx i
            current := if i < s.station.scene.current ∨ (i = s.station.scene.current
                ∧ i + 1 = s.station.scene.slides.length) then s.station.scene.current - 1 else s.station.scene.current
            pendingIndex := s.station.scene.pendingIndex.map (fun p => if i < p then p - 1 else p) } →
          h = { s.station with
            scene := r, blocks := (s.station.closed 0 none).withStore (Store.withdrawSlide e.content) } →
          (s.station.scene.pendingIndex = some i → ∃ t, exec (.slideRemove 0 i) s = .next t
            ∧ s.After (h.beginSlide (if i + 1 < s.station.scene.slides.length then i
              else s.station.scene.slides.length - 2)) t)
          ∧ (s.station.scene.pendingIndex = none → i = s.station.scene.current → ∃ t, exec (.slideRemove 0 i) s = .next t
            ∧ s.After (h.beginSlide r.current) t)
          ∧ (s.station.scene.pendingIndex ≠ some i →
              s.station.scene.pendingIndex.isSome = true ∨ i ≠ s.station.scene.current →
            ∃ t, exec (.slideRemove 0 i) s = .next t ∧ s.After h t)))
  ∧ (∀ (s : State), s.station.Listens →
      (s.station.scene.show_ = .playing → ∃ t, exec (.slideClear 0) s = .next t
        ∧ s.Becomes s.station.scene s.station.timers (s.station.refusal .slideBusy 0x2A none none 0) t)
      ∧ (s.station.scene.show_ ≠ .playing → ∃ t ti b, exec (.slideClear 0) s = .next t
        ∧ s.Becomes { s.station.scene with
            slides := [], current := 0, show_ := .stopped, pendingIndex := none, slideReady := [], held := false } ti b t
        ∧ (s.station.isSpeaker = true → ti = { s.station.timers with
            slidePrepare := none, slideDuration := none, slideMark := false, remaining := none })
        ∧ (s.station.isSpeaker = false → ti = { s.station.timers with
            absence := if s.station.scene.pendingPage.isSome then s.station.timers.absence else none })
        ∧ b.store.placements = s.station.blocks.store.placements.filter (fun pl => decide (pl.maker ≠ .slide))
        ∧ b.store.roles = { s.station.blocks.store.roles with
            currentSlide := RoleSet.empty, pendingSlide := RoleSet.empty, fading := RoleSet.empty }
        ∧ b.bc = { s.station.blocks.bc with layerOn := false, transition := none, slideSwitch := none }
        ∧ b.link = (s.station.closed 0 none).link
        ∧ t.station.blocks.decode.batch = none ∧ t.station.blocks.decode.suspended = none
        ∧ ∀ q n x, s.station.blocks.decode.running = some (.batch q n x) →
            t.station.blocks.decode.running = some (.batch q n true)))

/-- A slide change to an entry without a tag: S rises, the index is pending, the ready set is empty, a superseded change's hold
is gone; the speaker starts the prepare limit, every other owner its absence counter; the entry's strips are pinned for the
pending slide (R92). A slide change to an entry with a tag fires the armed Tagged cues on it: each is disarmed, a Pause cue
holds the change and pauses the show, every Set Bit sets its bit and the enabled states are decided once, at the end (R18,
R98), and the speaker queues a Cue Hit for each in index order (R92, R98). A held change starts no prepare limit, the speaker's
remaining duration is Full, and the absence counter runs on for a pending page alone; that a superseded change's timer and mark
go is the model's reading (log 53), and so is that the duration timer is left running at a Tagged Pause (log 35). A change that
is not held has the timers of an untagged entry (R63, R92, R98). The Decode Unit meets the change (R132): a free back surface
that holds the content whole and without a failing strip is reported at once (what free means there: log 20); a batch of the
content, in progress, or suspended, or queued, is taken over (one that is removed and finishes its strip is not, as the model
reads it: log 55); else every batch is removed, one in progress stopping at the end of its strip, and a new one queued. A
superseded change's queued batch that has not begun is gone before (R92, R132), and one that has begun is left, as the model
reads it (log 19). The short pending strips of the batch, or its whole asset while the strips are not known, are on the Want
list where it has room (R129). -/
def Obligations.SlideChangeBegins : Prop :=
  (∀ (st : Station) (i : Nat) (e : Slide), st.scene.slides[i]? = some e → e.tag = none →
      ∃ b, st.beginSlide i = { st with
          scene := { st.scene with
            held := false, slideChange := st.scene.slideChange + 1, pendingIndex := some i, slideReady := [] }
          timers := if st.isSpeaker then
              { st.timers with
                slidePrepare := some { tag := st.scene.slideChange + 1, remaining := st.prepareLimit }, slideMark := false }
            else { st.timers with absence := some 0 }
          blocks := b }
        ∧ b.link = st.blocks.link ∧ b.bc = st.blocks.bc
        ∧ b.store.roles = { st.blocks.store.roles with
            pendingSlide := st.blocks.store.roleSet st.geometry [slidePlacement e.content] }
        ∧ b.decode.slideReadySent = false)
  ∧ (∀ (st : Station) (i tag : Nat) (e : Slide), st.scene.slides[i]? = some e → e.tag = some tag →
      (st.beginSlide i).scene.cues
          = st.scene.cues.map (fun c => if c.armed && !c.forced && decide (c.trigger = tag) then { c with armed := false } else c)
        ∧ (st.beginSlide i).scene.slideChange = st.scene.slideChange + 1
        ∧ (st.beginSlide i).scene.pendingIndex = some i
        ∧ ((∃ c ∈ st.scene.cues, c.armed = true ∧ c.forced = false ∧ c.trigger = tag ∧ c.effect = .pause) →
            (st.beginSlide i).scene.held = true ∧ (st.beginSlide i).scene.show_ = .paused
              ∧ (st.isSpeaker = true → (st.beginSlide i).timers = { st.timers with
                  slidePrepare := none, slideMark := false, remaining := none })
              ∧ (st.isSpeaker = false → (st.beginSlide i).timers = { st.timers with
                  absence := if st.scene.pendingPage.isSome then st.timers.absence else none }))
        ∧ ((∀ c ∈ st.scene.cues, c.armed = true → c.forced = false → c.trigger = tag → c.effect ≠ .pause) →
            (st.beginSlide i).scene.held = false ∧ (st.beginSlide i).scene.show_ = st.scene.show_
              ∧ (st.isSpeaker = true → (st.beginSlide i).timers = { st.timers with
                  slidePrepare := some { tag := st.scene.slideChange + 1, remaining := st.prepareLimit }
                  slideMark := false })
              ∧ (st.isSpeaker = false → (st.beginSlide i).timers = { st.timers with absence := some 0 }))
        ∧ (st.isSpeaker = true → st.blocks.link.silent = false →
            st.blocks.link.queue.length + (firing tag 0 st.scene.cues).length ≤ 8 →
            (st.beginSlide i).blocks.link.queue = st.blocks.link.queue
              ++ (firing tag 0 st.scene.cues).map (fun k =>
                  .cueHit { index := k, kind := 1, trigger := tag, slide := i, change := st.scene.slideChange + 1 }))
        ∧ (∀ (l : List Cue) (words : List Half) (sc : Scene),
            l = st.scene.cues.filter (fun c => c.armed && !c.forced && decide (c.trigger = tag)) →
            words = l.foldl (fun u c => match c.effect with
              | .setBit w k => u.set w (wordAt u w ||| ((1 : Half) <<< k))
              | _ => u) st.scene.words →
            sc = { st.scene with words := words } →
            (st.beginSlide i).scene.words = sc.words
              ∧ ((∃ c ∈ l, ∃ w k, c.effect = .setBit w k) → (st.beginSlide i).scene.live = sc.recompute.live)
              ∧ ((∀ c ∈ l, ∀ w k, c.effect ≠ .setBit w k) → (st.beginSlide i).scene.live = st.scene.live)))
  ∧ (∀ (st : Station) (i : Nat) (e : Slide) (d : Decode) (change : Half) (wanted : Batch → Prop),
      st.scene.slides[i]? = some e → change = st.scene.slideChange + 1 →
      (∀ q, wanted q ↔ (st.blocks.store.wants.length + (q.strips.getD []).length < 64 →
        (q.strips = none → { asset := q.content.asset, span := none } ∈ (st.beginSlide i).blocks.store.wants)
        ∧ ∀ e ∈ q.strips.getD [], e.2 = .pending →
          st.blocks.store.isHeld { asset := q.content.asset, index := e.1 } = false →
          st.blocks.store.isBroken { asset := q.content.asset, index := e.1 } = false →
          ∃ r ∈ (st.beginSlide i).blocks.store.wants, r.covers q.content.asset e.1 e.1 = true)) →
      d = { st.blocks.decode with
        slideReadySent := false, reported := none
        batch := st.blocks.decode.batch.filter
          (fun q => !(st.scene.pendingIndex.isSome && q.change.isSome && !q.begun)) } →
      (st.blocks.bc.transition = none → st.blocks.bc.slideSwitch = none →
          st.blocks.bc.back.content = some e.content → st.blocks.bc.back.whole = true →
          st.blocks.bc.back.firstFailing = none →
        (st.beginSlide i).blocks.decode = { d with reported := some change })
      ∧ (st.blocks.bc.transition.isSome = true ∨ st.blocks.bc.slideSwitch.isSome = true
          ∨ st.blocks.bc.back.content ≠ some e.content ∨ st.blocks.bc.back.whole = false
          ∨ st.blocks.bc.back.firstFailing ≠ none →
        (∀ q n, d.running = some (.batch q n false) → q.content = e.content →
          (st.beginSlide i).blocks.decode = { d with running := some (.batch { q with change := some change } n false) }
            ∧ wanted q)
        ∧ (∀ q, (∀ r n, d.running ≠ some (.batch r n false)) → d.suspended = some q → q.content = e.content →
          (st.beginSlide i).blocks.decode = { d with suspended := some { q with change := some change } } ∧ wanted q)
        ∧ (∀ q, (∀ r n, d.running ≠ some (.batch r n false)) → d.suspended = none → d.batch = some q →
            q.content = e.content →
          (st.beginSlide i).blocks.decode = { d with batch := some { q with change := some change } } ∧ wanted q)
        ∧ ((∀ q n, d.running = some (.batch q n false) → q.content ≠ e.content) →
            (∀ q, d.suspended = some q → q.content ≠ e.content) → (∀ q, d.batch = some q → q.content ≠ e.content) →
          ∀ new : Batch, new = {
              content := e.content, change := some change, firstFailing := none, progress := 4, begun := false
              strips := (st.blocks.store.asset e.content.asset).map (fun a =>
                ((slidePlacement e.content).strips st.geometry a.height).map (fun n => (n, BatchStrip.pending))) } →
          (st.beginSlide i).blocks.decode = { d with
            suspended := none
            running := (match d.running with
              | some (.batch q n _) => some (.batch q n true)
              | r => r)
            batch := some new } ∧ wanted new)))

/-- Play: from Stopped it sets the loop flag and begins the change to the current entry, an empty list apart; while Playing it
is refused; from Paused with no change pending it plays on, the speaker's duration timer with the frames that remain, the whole
duration when none are kept (a length of 0 leaves it idle, one that still ran too: the model's reading, log 54), and with a
change pending that is not held it starts no timer (R85, R89). From Paused with a held change it releases the hold: the speaker
queues the Switch, full when every owner is ready, else partial with Prepare Overdue, and every other owner restarts its
absence counter (R85, R94). Pause while Playing: the show is Paused, and the speaker's duration timer stops with its frames
kept, or, where it was idle or ran a stale tag, with the remaining duration Full; in any other slide state it is refused (R84,
R86). At the end of a Pause the prefetch test is made: with a job in progress, no batch anywhere, no change pending and a free
back surface that does not hold the next entry whole and without a failing strip, a class-3 batch of that entry is queued;
where one of these fails, none is (R134); that any held slide switch leaves the back surface not free there is the model's
reading (log 20). -/
def Obligations.PlayAndPause : Prop :=
  (∀ (s : State) (loop : Bool) (n : Nat) (h : Station), s.station.Listens → n = (if loop then 1 else 0) →
      h = s.station.heard 0 none →
      (s.station.scene.show_ = .stopped → s.station.scene.slides = [] → ∃ t, exec (.slidePlay 0 n) s = .next t
        ∧ s.Becomes s.station.scene s.station.timers h.blocks t)
      ∧ (s.station.scene.show_ = .stopped → s.station.scene.slides ≠ [] → ∃ t, exec (.slidePlay 0 n) s = .next t
        ∧ s.After (Station.beginSlide s.station.scene.current { h with
            scene := { s.station.scene with loop := loop, show_ := .playing }
            timers := if s.station.isSpeaker then { s.station.timers with elapsed := 0, remaining := none }
              else s.station.timers }) t)
      ∧ (s.station.scene.show_ = .playing → ∃ t, exec (.slidePlay 0 n) s = .next t
        ∧ s.Becomes s.station.scene s.station.timers (s.station.refusal .slideBusy 0x2B none none 0) t)
      ∧ (∀ e, s.station.scene.show_ = .paused → s.station.scene.held = false → s.station.scene.pendingIndex = none →
          s.station.scene.slides[s.station.scene.current]? = some e →
        ∃ t ti, exec (.slidePlay 0 n) s = .next t
          ∧ s.Becomes { s.station.scene with loop := loop, show_ := .playing } ti h.blocks t
          ∧ (s.station.isSpeaker = false → ti = s.station.timers)
          ∧ (s.station.isSpeaker = true → ti = { s.station.timers with
              slideDuration := if s.station.timers.remaining.getD e.duration = 0 then none
                else some { tag := s.station.scene.slideChange
                            remaining := s.station.timers.remaining.getD e.duration } }))
      ∧ (∀ i, s.station.scene.show_ = .paused → s.station.scene.held = false → s.station.scene.pendingIndex = some i →
        ∃ t, exec (.slidePlay 0 n) s = .next t
          ∧ s.Becomes { s.station.scene with loop := loop, show_ := .playing } s.station.timers h.blocks t)
      ∧ (∀ i (full : Blocks) (part : Blocks), s.station.scene.show_ = .paused → s.station.scene.held = true →
          s.station.scene.pendingIndex = some i →
          full = h.blocks.enqueue (.switch { stream := 1, index := i, change := s.station.scene.slideChange
                                             target := s.station.blocks.bc.frame + 2, partialFlag := 0 }) →
          part = (h.blocks.enqueue (.switch { stream := 1, index := i, change := s.station.scene.slideChange
                                              target := s.station.blocks.bc.frame + 2, partialFlag := 1 })).enqueue
            (.fault (overdueFault .slide s.station.scene.slideChange
              (s.station.scene.missing s.station.scene.slideReady))) →
        ∃ t ti b, exec (.slidePlay 0 n) s = .next t
          ∧ s.Becomes { s.station.scene with loop := loop, show_ := .playing, held := false } ti b t
          ∧ (s.station.isSpeaker = false → ti = { s.station.timers with absence := some 0 } ∧ b = h.blocks)
          ∧ (s.station.isSpeaker = true → ti = { s.station.timers with slideMark := true, slidePrepare := none }
            ∧ ((∀ o ∈ s.station.scene.owners, o ∈ s.station.scene.slideReady) → b = full)
            ∧ ((∃ o ∈ s.station.scene.owners, o ∉ s.station.scene.slideReady) → b = part))))
  ∧ (∀ (s : State), s.station.Listens →
      (s.station.scene.show_ = .playing → ∃ t ti, exec (.slidePause 0) s = .next t
        ∧ s.Becomes { s.station.scene with show_ := .paused } ti (s.station.closed 0 none) t
        ∧ (s.station.isSpeaker = false → ti = s.station.timers)
        ∧ (∀ d, s.station.isSpeaker = true → s.station.timers.slideDuration = some d →
            d.tag = s.station.scene.slideChange →
            ti = { s.station.timers with slideDuration := none, remaining := some d.remaining })
        ∧ (s.station.isSpeaker = true → s.station.timers.slideDuration = none
            ∨ (∃ d, s.station.timers.slideDuration = some d ∧ d.tag ≠ s.station.scene.slideChange) →
          ti = { s.station.timers with slideDuration := none, remaining := none }))
      ∧ (s.station.scene.show_ ≠ .playing → ∃ t, exec (.slidePause 0) s = .next t
        ∧ s.Becomes s.station.scene s.station.timers (s.station.refusal .slideBusy 0x2C none none 0) t))
  ∧ (∀ (s : State) (j : PageJob), s.station.Listens → s.station.scene.show_ = .playing →
      s.station.blocks.decode.running = some (.page j) → s.station.blocks.decode.deferred = false →
      s.station.blocks.store.roomWait = [] →
      (∀ n e, s.station.scene.pendingIndex = none → s.station.scene.nextIndex s.station.scene.current = some n →
          s.station.scene.slides[n]? = some e → s.station.blocks.decode.batch = none →
          s.station.blocks.decode.suspended = none → s.station.blocks.bc.transition = none →
          s.station.blocks.bc.slideSwitch = none →
          s.station.blocks.bc.back.content ≠ some e.content ∨ s.station.blocks.bc.back.whole = false
            ∨ s.station.blocks.bc.back.firstFailing ≠ none →
        ∃ t, exec (.slidePause 0) s = .next t ∧ t.station.blocks.decode.running = some (.page j)
          ∧ t.station.blocks.decode.batch = some {
              content := e.content, change := none, firstFailing := none, progress := 4, begun := false
              strips := (s.station.blocks.store.asset e.content.asset).map (fun a =>
                ((slidePlacement e.content).strips s.station.geometry a.height).map (fun i => (i, BatchStrip.pending))) })
      ∧ (s.station.scene.pendingIndex.isSome = true ∨ s.station.scene.nextIndex s.station.scene.current = none
          ∨ s.station.blocks.decode.batch.isSome = true ∨ s.station.blocks.decode.suspended.isSome = true
          ∨ s.station.blocks.bc.transition.isSome = true ∨ s.station.blocks.bc.slideSwitch.isSome = true
          ∨ (∃ n e, s.station.scene.nextIndex s.station.scene.current = some n ∧ s.station.scene.slides[n]? = some e
              ∧ s.station.blocks.bc.back.content = some e.content ∧ s.station.blocks.bc.back.whole = true
              ∧ s.station.blocks.bc.back.firstFailing = none) →
        ∃ t, exec (.slidePause 0) s = .next t ∧ t.station.blocks.decode.batch = s.station.blocks.decode.batch))

/-- Step in Paused begins the change to the entry after the pending one, or after the current one, round to the first with
the loop flag; at the end without it nothing happens; with a held change it releases the hold; in any other slide state it
is refused (R84, R87, R94). Seek to an entry: in Stopped it sets the current index, else it begins the change to the entry,
the speaker's elapsed count at 0; beyond the list it is refused (R84, R88, R91). -/
def Obligations.StepAndSeek : Prop :=
  (∀ (s : State) (h : Station), s.station.Listens → h = s.station.heard 0 none →
      (∀ j, s.station.scene.show_ = .paused → s.station.scene.held = false →
          s.station.scene.nextIndex (s.station.scene.pendingIndex.getD s.station.scene.current) = some j →
        ∃ t, exec (.slideStep 0) s = .next t ∧ s.After (h.beginSlide j) t)
      ∧ (s.station.scene.show_ = .paused → s.station.scene.held = false →
          s.station.scene.nextIndex (s.station.scene.pendingIndex.getD s.station.scene.current) = none →
        ∃ t, exec (.slideStep 0) s = .next t ∧ s.Becomes s.station.scene s.station.timers h.blocks t)
      ∧ (∀ i, s.station.scene.show_ = .paused → s.station.scene.held = true → s.station.scene.pendingIndex = some i →
        ∃ t ti b, exec (.slideStep 0) s = .next t ∧ s.Becomes { s.station.scene with held := false } ti b t
          ∧ (s.station.isSpeaker = false → ti = { s.station.timers with absence := some 0 } ∧ b = h.blocks)
          ∧ (s.station.isSpeaker = true → ti = { s.station.timers with slideMark := true, slidePrepare := none }
            ∧ ((∀ o ∈ s.station.scene.owners, o ∈ s.station.scene.slideReady) →
              b = h.blocks.enqueue (.switch { stream := 1, index := i, change := s.station.scene.slideChange
                                              target := s.station.blocks.bc.frame + 2, partialFlag := 0 }))
            ∧ ((∃ o ∈ s.station.scene.owners, o ∉ s.station.scene.slideReady) →
              b = (h.blocks.enqueue (.switch { stream := 1, index := i, change := s.station.scene.slideChange
                                               target := s.station.blocks.bc.frame + 2, partialFlag := 1 })).enqueue
                (.fault (overdueFault .slide s.station.scene.slideChange
                  (s.station.scene.missing s.station.scene.slideReady))))))
      ∧ (s.station.scene.show_ ≠ .paused → ∃ t, exec (.slideStep 0) s = .next t
        ∧ s.Becomes s.station.scene s.station.timers (s.station.refusal .slideBusy 0x2D none none 0) t))
  ∧ (∀ (s : State) (i : Nat), s.station.Listens →
      (s.station.scene.slides.length ≤ i → ∃ t, exec (.slideSeek 0 i) s = .next t
        ∧ s.Becomes s.station.scene s.station.timers (s.station.refusal .badDefinition 0x2E (some i) none 0) t)
      ∧ (i < s.station.scene.slides.length → s.station.scene.show_ = .stopped → ∃ t, exec (.slideSeek 0 i) s = .next t
        ∧ s.Becomes { s.station.scene with current := i } s.station.timers (s.station.closed 0 none) t)
      ∧ (i < s.station.scene.slides.length → s.station.scene.show_ ≠ .stopped → ∃ t, exec (.slideSeek 0 i) s = .next t
        ∧ s.After (Station.beginSlide i { s.station.heard 0 none with
            timers := if s.station.isSpeaker then { s.station.timers with elapsed := 0 } else s.station.timers }) t))

/-- The speaker's Switch of the pending slide change: the pending entry is current, the pins pass from role to role, the switch
is held by the compositor, and the duration timer starts in a Playing speaker (R95, R115, R151); the cleared hold is the
model's reading (log 38), and so are that any partial byte is taken (log 25) and that a duration timer still running is idle
after the Switch to an entry of duration 0 (log 54). A station that is late counts it, to 255 at most, and queues Fault (Late
Switch) (R59, R151). -/
def Obligations.SlideSwitchMakesTheEntryCurrent : Prop :=
  ∀ (s : State) (src i : Nat) (index flag : Nat) (target : Long) (e : Slide) (late : Bool) (own : Blocks),
    s.station.Listens → src < 6 → s.station.scene.speaker = some src → s.station.scene.pendingIndex = some i →
    own = s.station.closed src (some (.switch { stream := 1, index := index, change := s.station.scene.slideChange
                                                target := target, partialFlag := flag })) →
    s.station.scene.slides[i]? = some e →
    late = decide ((s.station.blocks.bc.frame - target).toNat < 2 ^ 31) →
    ∃ t ti b, exec (.switch src { stream := 1, index := index, change := s.station.scene.slideChange, target := target
                                  partialFlag := flag }) s = .next t
      ∧ s.Becomes { s.station.scene with current := i, pendingIndex := none, slideReady := [], held := false } ti b t
      ∧ b.bc.slideSwitch = some { content := e.content, change := s.station.scene.slideChange
                                  kind := if e.length ≤ 1 then .cut else e.kind, length := e.length, target := target
                                  late := late, awaitingContent := false }
      ∧ b.bc.front = s.station.blocks.bc.front ∧ b.bc.back = s.station.blocks.bc.back
      ∧ b.bc.lateCount = (if late = true ∧ s.station.blocks.bc.lateCount < 255 then s.station.blocks.bc.lateCount + 1
          else s.station.blocks.bc.lateCount)
      ∧ b.link = (if late = true then
          own.link.enqueue (.fault (lateFault .slide s.station.scene.slideChange target s.station.blocks.bc.frame))
        else own.link)
      ∧ b.store.roles = { s.station.blocks.store.roles with
          currentSlide := s.station.blocks.store.roles.pendingSlide, pendingSlide := RoleSet.empty
          fading := if e.length ≤ 1 ∨ e.kind = .cut then RoleSet.empty else s.station.blocks.store.roles.currentSlide }
      ∧ (s.station.isSpeaker = true → s.station.scene.show_ = .playing → ti = { s.station.timers with
          slidePrepare := none
          slideDuration := if e.duration = 0 then none
            else some { tag := s.station.scene.slideChange, remaining := e.duration } })
      ∧ (s.station.isSpeaker = true → s.station.scene.show_ ≠ .playing →
          ti = { s.station.timers with slidePrepare := none, remaining := none })
      ∧ (s.station.isSpeaker = false →
          ti = { s.station.timers with absence := if s.station.scene.pendingPage.isSome then some 0 else none })

/-- A Ready that matches the pending slide change joins its ready set once, and the last owner's, the mark clear and the
change not held, brings the speaker's full Switch; a set that is not complete yet, a set mark and a held change bring none. A
Ready of no owner, of another change, of an owner in the set, or with no slide change pending is ignored (R93, R94). -/
def Obligations.SlideReadyClosesTheChange : Prop :=
  ∀ (s : State) (src i : Nat) (body : ReadyBody) (own : Blocks) (sc : Scene), s.station.Listens → src < 6 →
    body.stream = 1 → own = s.station.closed src (some (.ready body)) →
    sc = { s.station.scene with slideReady := Stations.insert src s.station.scene.slideReady } →
    (s.station.scene.pendingIndex = none →
      ∃ t, exec (.ready src body) s = .next t ∧ s.Becomes s.station.scene s.station.timers own t)
    ∧ (s.station.scene.pendingIndex = some i → s.station.scene.owners.contains src = false ∨ body.change ≠ s.station.scene.slideChange
        ∨ s.station.scene.slideReady.contains src = true →
      ∃ t, exec (.ready src body) s = .next t ∧ s.Becomes s.station.scene s.station.timers own t)
    ∧ (s.station.scene.pendingIndex = some i → s.station.scene.owners.contains src = true →
        body.change = s.station.scene.slideChange → s.station.scene.slideReady.contains src = false →
        s.station.isSpeaker = false ∨ s.station.timers.slideMark = true ∨ s.station.scene.held = true
          ∨ (∃ o ∈ sc.owners, o ∉ sc.slideReady) →
      ∃ t, exec (.ready src body) s = .next t ∧ s.Becomes sc s.station.timers own t)
    ∧ (s.station.scene.pendingIndex = some i → s.station.scene.owners.contains src = true →
        body.change = s.station.scene.slideChange → s.station.scene.slideReady.contains src = false →
        s.station.isSpeaker = true →
        s.station.timers.slideMark = false → s.station.scene.held = false → (∀ o ∈ sc.owners, o ∈ sc.slideReady) →
      ∃ t, exec (.ready src body) s = .next t
        ∧ s.Becomes sc { s.station.timers with slideMark := true, slidePrepare := none }
            (own.enqueue (.switch { stream := 1, index := i, change := s.station.scene.slideChange
                                    target := s.station.blocks.bc.frame + 2, partialFlag := 0 })) t)

/-- Cue Set arms a cue, Cue Clear disarms one, each refused out of range; both leave every other cue (R97). A Forced cue's
trigger is at least 1, a Tagged cue's a tag of 0 to 254; a Set Bit names a word of 0 to 7 and a bit of 0 to 15 (R97). The speaker's
Cue Hit of an armed Forced cue with its trigger disarms the cue and takes its effect: a Pause pauses a Playing show, a Set
Bit sets its bit; any other Cue Hit is ignored (R86, R100). -/
def Obligations.CuesAreSetClearedAndHit : Prop :=
  (∀ (s : State) (b : CueSetBody) (i : Nat), s.station.Listens →
      (∀ c : Cue, b.index ≤ 7 → (b.kind = 0 ∧ 1 ≤ b.trigger) ∨ (b.kind = 1 ∧ b.trigger ≤ 254) →
          b.effect ≤ 1 ∨ (b.effect = 2 ∧ b.word ≤ 7 ∧ b.bit ≤ 15) →
          c = { forced := decide (b.kind = 0), trigger := b.trigger, armed := true
                effect := if b.effect = 0 then .pause else if b.effect = 1 then .reportOnly else .setBit b.word b.bit } →
        ∃ t, exec (.cueSet 0 b) s = .next t
          ∧ s.Becomes { s.station.scene with cues := s.station.scene.cues.set b.index c } s.station.timers
              (s.station.closed 0 none) t)
      ∧ (7 < b.index ∨ 1 < b.kind ∨ (b.kind = 0 ∧ b.trigger = 0) ∨ (b.kind = 1 ∧ 254 < b.trigger) ∨ 2 < b.effect
          ∨ (b.effect = 2 ∧ (7 < b.word ∨ 15 < b.bit)) →
        ∃ t, exec (.cueSet 0 b) s = .next t
          ∧ s.Becomes s.station.scene s.station.timers (s.station.refusal .badDefinition 0x30 (some b.index) none 0) t)
      ∧ (i ≤ 7 → ∃ t, exec (.cueClear 0 i) s = .next t
        ∧ s.Becomes { s.station.scene with
            cues := s.station.scene.cues.modify i (fun c => { c with armed := false }) } s.station.timers
            (s.station.closed 0 none) t)
      ∧ (7 < i → ∃ t, exec (.cueClear 0 i) s = .next t
        ∧ s.Becomes s.station.scene s.station.timers (s.station.refusal .badDefinition 0x31 (some i) none 0) t))
  ∧ (∀ (s : State) (src : Nat) (b : CueHitBody) (own : Blocks) (d : Scene), s.station.Listens → src < 6 →
      own = s.station.closed src (some (.cueHit b)) →
      (∀ c, s.station.scene.speaker = some src → b.kind = 0 → s.station.scene.cues[b.index]? = some c → c.armed = true →
          c.forced = true → c.trigger = b.trigger →
          d = { s.station.scene with cues := s.station.scene.cues.set b.index { c with armed := false } } →
        ∃ t sc ti, exec (.cueHit src b) s = .next t ∧ s.Becomes sc ti own t
          ∧ (c.effect = .reportOnly ∨ (c.effect = .pause ∧ s.station.scene.show_ ≠ .playing) →
              sc = d ∧ ti = s.station.timers)
          ∧ (c.effect = .pause → s.station.scene.show_ = .playing → sc = { d with show_ := .paused }
              ∧ (s.station.isSpeaker = false → ti = s.station.timers)
              ∧ (s.station.isSpeaker = true → ti.slideDuration = none))
          ∧ (∀ w k, c.effect = .setBit w k → ti = s.station.timers
              ∧ sc = ({ d with words := d.words.set w (wordAt d.words w ||| ((1 : Half) <<< k)) } : Scene).recompute))
      ∧ (s.station.scene.speaker ≠ some src ∨ b.kind ≠ 0 ∨ s.station.scene.cues[b.index]? = none
          ∨ (∃ c, s.station.scene.cues[b.index]? = some c
              ∧ (c.armed = false ∨ c.forced = false ∨ c.trigger ≠ b.trigger)) →
        ∃ t, exec (.cueHit src b) s = .next t ∧ s.Becomes s.station.scene s.station.timers own t))

/-! ### Defining messages -/

/-- Define Page from source 0 or 1: refused for a page number above 63, for a page in use, or out of range (`inRange` spells the
ranges of R3, R7 and R15, an absent field among them); else the page has the header `h` and is empty and Defining, or Complete when it declares no button and no picture, and its placements are the background's alone;
from any other source it is ignored (R2, R5, R6, R7, R10, R13). Drop Page makes a page that is not in use Undefined and
withdraws its placements; for a page in use or above 63 it is refused, and from any other source ignored (R2, R5, R6, R11,
R13). -/
def Obligations.PagesAreDefinedAndDropped : Prop :=
  (∀ (s : State) (src : Nat) (b : DefinePageBody) (inRange : Prop), s.station.Listens → src ≤ 1 →
      (inRange ↔ (b.asset = 65535 ∨ (b.asset ≤ 1023 ∧ b.x ≤ 3839 ∧ b.y ≤ 2159)) ∧ (b.default = 255 ∨ b.default < b.buttons)
        ∧ b.onTimeout ≤ 2 ∧ (b.onTimeout = 1 → b.goPage ≤ 63) ∧ b.guardLevel ≤ 7
        ∧ (b.entry.kind = 255 ∨ effectInRange b.entry) ∧ b.buttons ≤ 32 ∧ b.pictures ≤ 16) →
      (63 < b.page → ∃ t, exec (.definePage src b) s = .next t
        ∧ s.Becomes s.station.scene s.station.timers (s.station.refusal .badDefinition 0x40 (some b.page) none src) t)
      ∧ (b.page ≤ 63 → s.station.scene.shown = some b.page ∨ s.station.scene.pendingPage = some b.page
          ∨ s.station.scene.leaving = some b.page → ∃ t, exec (.definePage src b) s = .next t
        ∧ s.Becomes s.station.scene s.station.timers (s.station.refusal .pageBusy 0x40 (some b.page) none src) t)
      ∧ (b.page ≤ 63 → s.station.scene.inUse b.page = false → ¬ inRange → ∃ t,
          exec (.definePage src b) s = .next t
        ∧ s.Becomes s.station.scene s.station.timers (s.station.refusal .badDefinition 0x40 (some b.page) none src) t)
      ∧ (∀ h : Header, b.page ≤ 63 → s.station.scene.inUse b.page = false → inRange →
          h = { background := if b.asset = 65535 then .colour b.colour else .asset b.asset b.x b.y
                default := if b.default = 255 then none else some b.default, timeout := b.timeout
                onTimeout := if b.onTimeout = 0 then .none else if b.onTimeout = 1 then .go b.goPage else .activateSelected
                guardLevel := b.guardLevel, entryEffect := if b.entry.kind = 255 then none else some (effectMeant b.entry)
                buttons := b.buttons, pictures := b.pictures } →
        ∃ t, exec (.definePage src b) s = .next t
          ∧ s.Becomes { s.station.scene with
              pages := s.station.scene.pages.set b.page
                (if b.buttons = 0 ∧ b.pictures = 0 then .complete { header := h, buttons := [], pictures := [] }
                else .defining { header := h, buttons := [], pictures := [] }) } s.station.timers
              { s.station.closed src none with
                store := { s.station.blocks.store with
                  placements := s.station.blocks.store.placements.filter (fun pl => decide (pl.maker.page ≠ some b.page))
                    ++ backgroundPlacements b.page h } } t)
      ∧ (∀ other, 1 < other → ∃ t, exec (.definePage other b) s = .next t
        ∧ s.Becomes s.station.scene s.station.timers (s.station.closed other none) t))
  ∧ (∀ (s : State) (src p : Nat), s.station.Listens → src ≤ 1 →
      (p ≤ 63 → s.station.scene.inUse p = false → ∃ t, exec (.dropPage src p) s = .next t
        ∧ s.Becomes { s.station.scene with pages := s.station.scene.pages.set p .undefined } s.station.timers
            { s.station.closed src none with
              store := { s.station.blocks.store with
                placements := s.station.blocks.store.placements.filter
                  (fun pl => decide (pl.maker.page ≠ some p)) } } t)
      ∧ (p ≤ 63 → s.station.scene.inUse p = true → ∃ t, exec (.dropPage src p) s = .next t
        ∧ s.Becomes s.station.scene s.station.timers (s.station.refusal .pageBusy 0x43 (some p) none src) t)
      ∧ (63 < p → ∃ t, exec (.dropPage src p) s = .next t
        ∧ s.Becomes s.station.scene s.station.timers (s.station.refusal .badDefinition 0x43 (some p) none src) t)
      ∧ (∀ other, 1 < other → ∃ t, exec (.dropPage other p) s = .next t
        ∧ s.Becomes s.station.scene s.station.timers (s.station.closed other none) t))

/-- Define Button and Define Picture for a page above 63 are refused with Bad Definition, for a page in use with Page Busy, and
from a source that is neither 0 nor 1 ignored (R2, R6). Define Button on a page not in use: a button of a declared ID and with fields in range takes its place among the page's
buttons, its placements in place of those it made before; on an Undefined page, of an undeclared ID or out of range it is
refused (R6, R8, R10, R13). `inRange` spells the ranges of R3, R8 and R15 for a page that declares `n` buttons, and `o` is the
button; that the sense of an absent condition is not tested is the model's choice (log 47). Define Picture on a page not in use, in the same way (R6, R9, R10, R13). -/
def Obligations.DefineButtonAndPicture : Prop :=
  (∀ (s : State) (src : Nat) (b : DefineButtonBody) (d : DefinePictureBody) (inUse : Nat → Prop), s.station.Listens →
      src ≤ 1 →
      (∀ p, inUse p ↔ s.station.scene.shown = some p ∨ s.station.scene.pendingPage = some p
        ∨ s.station.scene.leaving = some p) →
      (63 < b.page → ∃ t, exec (.defineButton src b) s = .next t
        ∧ s.Becomes s.station.scene s.station.timers
            (s.station.refusal .badDefinition 0x41 (some b.page) (some b.button) src) t)
      ∧ (b.page ≤ 63 → inUse b.page → ∃ t, exec (.defineButton src b) s = .next t
        ∧ s.Becomes s.station.scene s.station.timers
            (s.station.refusal .pageBusy 0x41 (some b.page) (some b.button) src) t)
      ∧ (63 < d.page → ∃ t, exec (.definePicture src d) s = .next t
        ∧ s.Becomes s.station.scene s.station.timers
            (s.station.refusal .badDefinition 0x42 (some d.page) (some d.picture) src) t)
      ∧ (d.page ≤ 63 → inUse d.page → ∃ t, exec (.definePicture src d) s = .next t
        ∧ s.Becomes s.station.scene s.station.timers
            (s.station.refusal .pageBusy 0x42 (some d.page) (some d.picture) src) t)
      ∧ (∀ other, 1 < other →
        (∃ t, exec (.defineButton other b) s = .next t
          ∧ s.Becomes s.station.scene s.station.timers (s.station.closed other none) t)
        ∧ ∃ t, exec (.definePicture other d) s = .next t
          ∧ s.Becomes s.station.scene s.station.timers (s.station.closed other none) t))
  ∧ (∀ (s : State) (src : Nat) (b : DefineButtonBody) (inRange : Nat → Prop), s.station.Listens → src ≤ 1 → b.page ≤ 63 →
      s.station.scene.inUse b.page = false →
      (∀ n, inRange n ↔ b.x ≤ 3839 ∧ b.y ≤ 2159 ∧ 1 ≤ b.width ∧ b.width ≤ 3840 ∧ 1 ≤ b.height ∧ b.height ≤ 2160
        ∧ b.normal ≤ 1023 ∧ b.selected ≤ 1023 ∧ (b.activated = 65535 ∨ b.activated ≤ 1023)
        ∧ (∀ l ∈ [b.up, b.down, b.left, b.right], l = 255 ∨ l < n)
        ∧ (b.enableWord = 255 ∨ (b.enableWord ≤ 7 ∧ b.sense ≤ 1)) ∧ (b.number = 255 ∨ (1 ≤ b.number ∧ b.number ≤ 99))
        ∧ (b.goPage = 255 ∨ b.goPage ≤ 63) ∧ 1 ≤ b.report ∧ b.count = b.effects.length ∧ b.count ≤ 4
        ∧ ∀ e ∈ b.effects, effectInRange e) →
      (∀ (pg : PageBody) (o : Button), s.station.scene.body b.page = some pg → b.button < pg.header.buttons →
          inRange pg.header.buttons →
          o = { id := b.button, rect := { x := b.x, y := b.y, width := b.width, height := b.height }
                normal := b.normal, selected := b.selected
                activated := if b.activated = 65535 then none else some b.activated
                up := if b.up = 255 then none else some b.up, down := if b.down = 255 then none else some b.down
                left := if b.left = 255 then none else some b.left, right := if b.right = 255 then none else some b.right
                condition := if b.enableWord = 255 then none
                  else some { word := b.enableWord, mask := b.mask, value := b.value, differ := decide (b.sense = 1) }
                number := if b.number = 255 then none else some b.number, effects := b.effects.map effectMeant
                report := if b.report = 65535 then none else some b.report
                goPage := if b.goPage = 255 then none else some b.goPage } →
        ∃ t, exec (.defineButton src b) s = .next t
          ∧ s.Becomes { s.station.scene with
              pages := s.station.scene.pages.set b.page
                (Page.ofBody { pg with buttons := putButton o pg.buttons }) } s.station.timers
              { s.station.closed src none with
                store := { s.station.blocks.store with
                  placements := s.station.blocks.store.placements.filter
                      (fun pl => decide (pl.maker ≠ .button b.page b.button)) ++ buttonPlacements b.page o } } t)
      ∧ (s.station.scene.body b.page = none
          ∨ (∃ pg, s.station.scene.body b.page = some pg
              ∧ (pg.header.buttons ≤ b.button ∨ ¬ inRange pg.header.buttons)) →
        ∃ t, exec (.defineButton src b) s = .next t
          ∧ s.Becomes s.station.scene s.station.timers
              (s.station.refusal .badDefinition 0x41 (some b.page) (some b.button) src) t))
  ∧ (∀ (s : State) (src : Nat) (b : DefinePictureBody), s.station.Listens → src ≤ 1 → b.page ≤ 63 →
      s.station.scene.inUse b.page = false →
      (∀ pg, s.station.scene.body b.page = some pg → b.picture < pg.header.pictures → b.asset ≤ 1023 → b.x ≤ 3839 →
          b.y ≤ 2159 →
        ∃ t o, o = { id := b.picture, asset := b.asset, x := b.x, y := b.y }
          ∧ exec (.definePicture src b) s = .next t
          ∧ s.Becomes { s.station.scene with
              pages := s.station.scene.pages.set b.page
                (Page.ofBody { pg with pictures := putPicture o pg.pictures }) } s.station.timers
              { s.station.closed src none with
                store := { s.station.blocks.store with
                  placements := s.station.blocks.store.placements.filter
                      (fun pl => decide (pl.maker ≠ .picture b.page b.picture))
                    ++ [{ asset := b.asset, x := b.x, y := b.y, clip := none, maker := .picture b.page b.picture }] } } t)
      ∧ (s.station.scene.body b.page = none
          ∨ (∃ pg, s.station.scene.body b.page = some pg ∧ pg.header.pictures ≤ b.picture)
          ∨ 1023 < b.asset ∨ 3839 < b.x ∨ 2159 < b.y →
        ∃ t, exec (.definePicture src b) s = .next t
          ∧ s.Becomes s.station.scene s.station.timers
              (s.station.refusal .badDefinition 0x42 (some b.page) (some b.picture) src) t))

/-! ### Strips, jobs and answers -/

/-- A Want of the station's own ends its asset's outstanding state; another station's takes the strips it covers off the Want
list, all of the asset's for a count of 0, and the list stays so in a quiet station; a Want of another source is ignored (R120,
R121); that a count above 16 takes that many strips is the model's choice (log 44). Wants are queued at an event's end (R120):
from the oldest range whose asset has none outstanding, its first 16 strips at most, or the whole asset with count 0; none in
Link Silent, none into a queue of four messages; and no event of a Running station leaves one that could be queued. The room-
wait list is retried, oldest pair first, in an event that left some entry unpinned: a Packed pair that is needed has its Want,
an Open one is offered again where the pending or the shown page names it and it is Held, and has its Want where it is not
Held; a Broken strip has none (R118). -/
def Obligations.WantTrimsTheList : Prop :=
  (∀ (s : State) (src : Nat) (b : WantBody) (own : Blocks), s.station.Listens →
    own = s.station.closed src (some (.want b)) →
    (2 ≤ src → src ≤ 5 → src = s.station.number → ∃ t, exec (.want src b) s = .next t
      ∧ s.Becomes s.station.scene s.station.timers
          { own with store := { own.store with outstanding := own.store.outstanding.erase b.asset } } t)
    ∧ (2 ≤ src → src ≤ 5 → src ≠ s.station.number → ∃ t l, exec (.want src b) s = .next t
      ∧ s.Becomes s.station.scene s.station.timers { own with store := { own.store with wants := l } } t
      ∧ (s.station.Quiet → t.station.blocks.store.wants = l)
      ∧ (b.count = 0 → l = own.store.wants.filter (fun r => r.asset != b.asset))
      ∧ (b.count ≠ 0 → l = removeSpan b.asset b.first (b.first + b.count - 1) own.store.wants))
    ∧ (src < 2 ∨ 5 < src → ∃ t, exec (.want src b) s = .next t
      ∧ s.Becomes s.station.scene s.station.timers own t))
  ∧ (∀ (s : State) (b : WantBody) (r : Running) (o : List Nat) (own : Blocks) (after : Link → Store → State),
      s.station.Listens → 2 ≤ s.station.number → s.station.number ≤ 5 →
      own = s.station.closed s.station.number (some (.want b)) → o = s.station.blocks.store.outstanding.erase b.asset →
      s.station.blocks.decode.running = some r → s.station.blocks.decode.deferred = false →
      s.station.blocks.store.roomWait = [] → s.station.scene.pendingPage = none → s.station.scene.pendingIndex = none →
      (∀ l x, after l x = { s with station := { s.station with blocks := { s.station.blocks with link := l, store := x } } }) →
      (own.link.silent = true ∨ 4 ≤ own.link.queue.length
          ∨ (∀ w ∈ s.station.blocks.store.wants, o.contains w.asset = true) →
        exec (.want s.station.number b) s = .next (after own.link { s.station.blocks.store with outstanding := o }))
      ∧ (∀ pre w post m left, own.link.silent = false → s.station.blocks.store.wants = pre ++ w :: post →
          (∀ x ∈ pre, o.contains x.asset = true) → o.contains w.asset = false →
          m = (match w.span with
            | none => { asset := w.asset, first := 0, count := 0 }
            | some (f, e) => { asset := w.asset, first := f, count := min 16 (e + 1 - f) } : WantBody) →
          left = (match w.span with
            | none => []
            | some (f, e) => if f + 16 ≤ e then [{ asset := w.asset, span := some (f + 16, e) }] else [] : List WantRange) →
          (own.link.queue.length < 4 → ∃ t, exec (.want s.station.number b) s = .next t
            ∧ own.link.queue ++ [.want m] <+: t.station.blocks.link.queue
            ∧ t.station.blocks.store.outstanding.contains w.asset = true)
          ∧ (own.link.queue.length = 3 →
            exec (.want s.station.number b) s = .next (after { own.link with queue := own.link.queue ++ [.want m] }
              { s.station.blocks.store with
                wants := pre ++ left ++ post, outstanding := Stations.insert w.asset o }))))
  ∧ (∀ (s : State) (c : Instr), s.station.Listens →
      (∃ src own, c.carried = some (src, own)) ∨ c = .frameStrobe ∨ (∃ bytes, c = .segmentArrival bytes)
        ∨ (∃ d, c = .pagePrepareComplete d) ∨ (∃ d, c = .batchStripComplete d) ∨ (∃ d, c = .checkStripComplete d) →
      ∃ t, exec c s = .next t ∧ (t.station.blocks.link.silent = true ∨ 4 ≤ t.station.blocks.link.queue.length
        ∨ ∀ w ∈ t.station.blocks.store.wants, t.station.blocks.store.outstanding.contains w.asset = true))
  ∧ (∀ (g : Geometry) (change : Half) (before b : Blocks) (unpinned : Prop),
      (unpinned ↔ (∃ e ∈ before.store.packed, 0 < e.pins ∧ ∃ d, b.store.findPacked e.id = some d ∧ d.pins = 0)
        ∨ ∃ e ∈ before.store.opened, 0 < e.pins ∧ ∃ d, b.store.findOpened e.id = some d ∧ d.pins = 0) →
      (¬ unpinned → b.retryRoom g change before = b)
      ∧ (unpinned → b.retryRoom g change before = b.store.roomWait.foldl (Blocks.retryWait g change)
          { b with store := { b.store with roomWait := [] } }))
  ∧ (∀ (g : Geometry) (change : Half) (b want : Blocks) (w : RoomWait) (named : Prop),
      want = { b with
        store := { b.store with wants := addRun w.id.asset w.id.index w.id.index b.store.wants } } →
      (named ↔ w.id ∈ b.store.roles.pending.strips ∨ w.id ∈ b.store.roles.shown.strips) →
      (b.store.isBroken w.id = true → b.retryWait g change w = b)
      ∧ (w.inOpen = false → b.store.isBroken w.id = false → b.retryWait g change w = if b.store.needed g w.id then want else b)
      ∧ (w.inOpen = true → b.store.isHeld w.id = false → b.store.isBroken w.id = false → b.retryWait g change w = want)
      ∧ (w.inOpen = true → b.store.isHeld w.id = true → ¬ named → b.retryWait g change w = b)
      ∧ (w.inOpen = true → b.store.isHeld w.id = true → named →
        (b.decode.hasJob w.id = true → b.retryWait g change w = b)
        ∧ (b.decode.hasJob w.id = false → b.decode.pageJobs.length < 30 → b.retryWait g change w = { b with
            decode := { b.decode with pageJobs := b.decode.pageJobs ++ [{ id := w.id, tag := change }] } })
        ∧ (b.decode.hasJob w.id = false → 30 ≤ b.decode.pageJobs.length → b.retryWait g change w = { b with
            decode := { b.decode with deferred := true } })))

/-- A Check addressed to the station queues its job: it waits while another is in progress, and in a unit with nothing else to
do it begins with the first Held strip of its range, or, without one, Check Done goes out with nothing checked, first of the
messages that the event's end queues (R124, R136, R137; the order is log 8's). Where its first asset is above 1023 and its
range is empty, it completes at once with nothing checked; Check Busy goes out instead while one is queued or in progress;
addressed to another station, or from a source other than 0, it is ignored (R136). That a count above 1024 ends at asset 1023
as well is the model's reading (log 24). -/
def Obligations.CheckIsQueuedOnce : Prop :=
  ∀ (s : State) (first count : Nat), s.station.Listens →
    (s.station.blocks.decode.check = none → (∀ c k, s.station.blocks.decode.running ≠ some (.check c k)) →
      (∀ (job : CheckJob) (held : List Packed), first ≤ 1023 →
          job = { first := first, stop := if count = 0 then 1024 else min 1024 (first + count)
                  position := none, checked := 0, bad := 0, firstBad := none } →
          held = s.station.blocks.store.packed.filter
            (fun e => decide (e.state = .held ∧ first ≤ e.id.asset ∧ e.id.asset < job.stop)) →
        ∃ t, exec (.check 0 s.station.number first count) s = .next t
          ∧ s.Becomes s.station.scene s.station.timers
              { s.station.closed 0 none with decode := { s.station.blocks.decode with check := some job } } t
          ∧ (∀ r, s.station.blocks.decode.running = some r →
            t.station.blocks.decode.running = some r ∧ t.station.blocks.decode.check = some job)
          ∧ (s.station.blocks.decode.running = none → s.station.blocks.decode.pageJobs = [] →
              s.station.blocks.decode.suspended = none → s.station.blocks.decode.batch = none →
              s.station.blocks.decode.deferred = false → s.station.blocks.store.roomWait = [] →
            t.station.blocks.decode.check = none
            ∧ (∀ e rest, held = e :: rest → t.station.blocks.decode.running = some (.check job e.id))
            ∧ (held = [] → t.station.blocks.decode.running = none
              ∧ (s.station.blocks.link.silent = false → s.station.blocks.link.queue.length < 8 →
                s.station.blocks.link.queue
                  ++ [.checkDone { checked := 0, bad := 0, firstBad := none, remaining := 0 }]
                  <+: t.station.blocks.link.queue))))
      ∧ (1023 < first → ∃ t, exec (.check 0 s.station.number first count) s = .next t
        ∧ s.Becomes s.station.scene s.station.timers
            ((s.station.closed 0 none).enqueue
              (.checkDone { checked := 0, bad := 0, firstBad := none, remaining := 0 })) t))
    ∧ (s.station.blocks.decode.check.isSome = true ∨ (∃ c k, s.station.blocks.decode.running = some (.check c k)) →
      ∃ t, exec (.check 0 s.station.number first count) s = .next t
        ∧ s.Becomes s.station.scene s.station.timers
            ((s.station.closed 0 none).enqueue (.fault (checkBusyFault first count))) t)
    ∧ (∀ src station, src ≠ 0 ∨ station ≠ s.station.number →
      ∃ t, exec (.check src station first count) s = .next t
        ∧ s.Becomes s.station.scene s.station.timers (s.station.closed src none) t)

/-- An Ask addressed to a station in Joining, Running or Spare queues one Answer: its Station Status, which takes the overflow
flag with it, or no data for a topic the part does not know; in Running the scene digest, an asset's size with the counts of
its strips by state, busy while a job is on one of its strips, or a page's state, its use, its declared counts and the IDs it
holds; addressed to another station it is ignored (R172, R181 to R186). The next state is given whole for Station Status in
Joining, in Spare, and in a Running station whose event's end queues nothing more: the flag is clear where the Answer found
room, and set again where the Answer itself met a full queue (R169, R172). -/
def Obligations.AskQueuesAnAnswer : Prop :=
  ∀ (s : State) (arg : Nat) (b : Blocks), s.station.framing = true → b = s.station.closed 0 none →
    (∀ (m : Message) (answered : Link) (after : State),
        m = .answer { topic := 0, argument := arg, busy := false
                      data := .status (if s.station.mode = Mode.joining then 0 else if s.station.mode = Mode.running then 1 else 2)
                        (decide (s.station.mode = Mode.running ∧ s.station.scene.speaker = some s.station.number))
                        b.link.overflow b.bc.overrun b.bc.lateCount b.store.freeUnits b.link.queue.length
                        (b.decode.pageJobs.length + (if b.decode.batch.isSome then 1 else 0)
                          + (if b.decode.check.isSome then 1 else 0)) b.decode.suspended.isSome } →
        answered = (if b.link.silent then b.link
          else if b.link.queue.length < 8 then { b.link with overflow := false, queue := b.link.queue ++ [m] }
          else { b.link with overflow := true }) →
        after = { s with station := { s.station with blocks := { b with link := answered } } } →
      (∃ t, exec (.ask 0 s.station.number 0 arg) s = .next t
        ∧ s.Becomes s.station.scene s.station.timers { b with link := answered } t)
      ∧ (s.station.mode = .joining ∨ s.station.mode = .spare → exec (.ask 0 s.station.number 0 arg) s = .next after)
      ∧ (∀ r, s.station.mode = .running → b.decode.running = some r → b.decode.deferred = false →
          b.store.roomWait = [] → s.station.scene.pendingPage = none → s.station.scene.pendingIndex = none →
          b.link.silent = true ∨ 3 ≤ b.link.queue.length ∨ b.store.wants = [] →
        exec (.ask 0 s.station.number 0 arg) s = .next after))
    ∧ (s.station.mode = .running → ∃ t, exec (.ask 0 s.station.number 2 arg) s = .next t
      ∧ s.Becomes s.station.scene s.station.timers
          (b.enqueue (.answer { topic := 2, argument := arg
                                busy := s.station.scene.pendingPage.isSome || s.station.scene.pendingIndex.isSome
                                data := s.station.scene.digestData })) t)
    ∧ (∀ busy data, s.station.mode = .running →
        (busy = true ↔ (∃ j, s.station.blocks.decode.running = some (.page j) ∧ j.id.asset = arg)
          ∨ (∃ q i stopping, s.station.blocks.decode.running = some (.batch q i stopping) ∧ q.content.asset = arg)
          ∨ ∃ c k, s.station.blocks.decode.running = some (.check c k) ∧ k.asset = arg) →
        data = (match s.station.blocks.store.asset arg with
          | none => .asset none none 0 0 0 0 0
          | some a => .asset (some a.width) (some a.height)
              (s.station.blocks.store.packed.filter (fun e => decide (e.id.asset = arg ∧ e.state = .held))).length
              (s.station.blocks.store.packed.filter (fun e => decide (e.id.asset = arg ∧ e.state = .skipped))).length
              (s.station.blocks.store.packed.filter (fun e => decide (e.id.asset = arg ∧ e.state = .bad ∧ e.failures = 1))).length
              (s.station.blocks.store.packed.filter (fun e => decide (e.id.asset = arg ∧ e.state = .bad ∧ 2 ≤ e.failures))).length
              (s.station.blocks.store.opened.filter (fun e => decide (e.id.asset = arg ∧ e.ready = true))).length) →
        ∃ t, exec (.ask 0 s.station.number 1 arg) s = .next t
          ∧ s.Becomes s.station.scene s.station.timers
              (b.enqueue (.answer { topic := 1, argument := arg, busy := busy, data := data })) t)
    ∧ (∀ data, s.station.mode = .running →
        data = (if 63 < arg then .page none false false false 0 0 [] []
          else match s.station.scene.pages.getD arg .undefined with
            | .undefined => .page (some 0) (decide (s.station.scene.shown = some arg))
                (decide (s.station.scene.pendingPage = some arg)) (decide (s.station.scene.leaving = some arg)) 0 0 [] []
            | .defining p => .page (some 1) (decide (s.station.scene.shown = some arg))
                (decide (s.station.scene.pendingPage = some arg)) (decide (s.station.scene.leaving = some arg))
                p.header.buttons p.header.pictures (p.buttons.map Button.id) (p.pictures.map Picture.id)
            | .complete p => .page (some 2) (decide (s.station.scene.shown = some arg))
                (decide (s.station.scene.pendingPage = some arg)) (decide (s.station.scene.leaving = some arg))
                p.header.buttons p.header.pictures (p.buttons.map Button.id) (p.pictures.map Picture.id)) →
        ∃ t, exec (.ask 0 s.station.number 3 arg) s = .next t
          ∧ s.Becomes s.station.scene s.station.timers
              (b.enqueue (.answer { topic := 3, argument := arg, busy := false, data := data })) t)
    ∧ (∀ topic, 4 ≤ topic ∨ (s.station.mode ≠ .running ∧ topic ≠ 0) →
      ∃ t, exec (.ask 0 s.station.number topic arg) s = .next t
        ∧ s.Becomes s.station.scene s.station.timers
            (b.enqueue (.answer { topic := topic, argument := arg, busy := true, data := .empty })) t)
    ∧ (∀ src station topic, src ≠ 0 ∨ station ≠ s.station.number →
      ∃ t, exec (.ask src station topic arg) s = .next t
        ∧ s.Becomes s.station.scene s.station.timers (s.station.closed src none) t)

/-- A segment's arrival. A frame that is no segment, and a header that fails R105, change nothing (R105, R189). The first segment
of an asset makes its record: the whole-asset range leaves the Want list and every role set is resolved (R104). `m` is the block
after it. A strip Held or Broken is dropped, and a damaged one that is not needed (R109, R110). A needed one whose check word
fails is Bad with its failures counted, wanted again at the first, at the second Broken with Strip Broken (R106, R110, R113). A
strip placed but not needed is Skipped; an unplaced one is kept as a reserve while 4,096 units stay free, else Skipped; a needed
one is stored where room is found, with evictions if need be, takes the arrival count as its number, which the model lets begin
with 0 (log 17), leaves the Want list and is offered as a job; without room it is Skipped, waits for room, and Store Exhausted
goes out unless the mark is set, which it then is (R109, R111, R112, R117). That a reserve leaves the Want list and is offered as
a needed strip is, is the model's reading (log 40). Failures are kept throughout. In a quiet station
the store and the jobs stay so at the event's end. -/
def Obligations.SegmentsAreClassedAndFailuresCounted : Prop :=
  (∀ (s : State) (bytes : List Byte), s.station.Runs →
      readSegment bytes = none ∨ (∃ q, readSegment bytes = some q
        ∧ (1023 < q.asset ∨ q.width < 8 ∨ 3840 < q.width ∨ q.height < 8 ∨ 2160 < q.height ∨ q.length = 0
          ∨ (q.height + 7) / 8 ≤ q.index
          ∨ ∃ a, s.station.blocks.store.asset q.asset = some a ∧ (a.width ≠ q.width ∨ a.height ≠ q.height))) →
      ∃ t, exec (.segmentArrival bytes) s = .next t ∧ s.Becomes s.station.scene s.station.timers s.station.blocks t)
  ∧ (∀ (s : State) (b m : Blocks) (g : Geometry) (q : Segment), b = s.station.blocks → m = b.meetAsset g q →
      (∀ a, b.store.asset q.asset = some a → m = b)
      ∧ (b.store.asset q.asset = none → m.link = b.link ∧ m.bc = b.bc
        ∧ m.store.asset q.asset = some { id := q.asset, width := q.width, height := q.height }
        ∧ { asset := q.asset, span := none } ∉ m.store.wants
        ∧ ∀ f ∈ [Roles.display, Roles.shown, Roles.pending, Roles.currentSlide, Roles.pendingSlide, Roles.fading],
          (f m.store.roles).unresolved = (f b.store.roles).unresolved.filter (fun pl => decide (pl.asset ≠ q.asset))
            ∧ (∀ k ∈ (f b.store.roles).strips, k ∈ (f m.store.roles).strips)
            ∧ ∀ pl ∈ (f b.store.roles).unresolved, pl.asset = q.asset → ∀ i ∈ pl.strips g q.height,
              { asset := q.asset, index := i } ∈ (f m.store.roles).strips))
  ∧ (∀ (s : State) (bytes : List Byte) (q : Segment) (m : Blocks) (k : Strip) (u v n cand : Nat)
      (working : Option Strip) (needed : Bool) (after : (Blocks → Packed → Prop) → Prop)
      (stored : Blocks → Packed → Prop), s.station.Runs → readSegment bytes = some q →
      s.station.blocks.store.headerPasses q = true → m = s.station.blocks.meetAsset s.station.geometry q →
      k = { asset := q.asset, index := q.index } → u = (q.length + 4095) / 4096 →
      v = ((m.store.findPacked k).map Packed.units).getD 0 → n = ((m.store.findPacked k).map Packed.failures).getD 0 →
      working = s.station.blocks.decode.running.map Running.strip → needed = m.store.needed s.station.geometry k →
      cand = ((m.store.opened.filter (fun e => decide (e.ready = true ∧ e.pins = 0 ∧ working ≠ some e.id))).map
            Opened.units).sum
        + ((m.store.packed.filter (fun e => decide (e.state = .held ∧ e.pins = 0 ∧ working ≠ some e.id))).map
            Packed.units).sum →
      (∀ p, after p ↔ ∃ t b e, exec (.segmentArrival bytes) s = .next t ∧ s.Becomes s.station.scene s.station.timers b t
        ∧ b.store.findPacked k = some e ∧ p b e
        ∧ (s.station.Quiet → s.station.blocks.store.pinsWf = true → t.station.blocks.store = b.store
          ∧ t.station.blocks.decode.pageJobs = b.decode.pageJobs ∧ t.station.blocks.decode.running = b.decode.running)) →
      (∀ b e, stored b e ↔ e.state = .held ∧ e.units = u ∧ e.failures = n ∧ e.arrival = m.store.arrivals ∧ e.data = q.data
        ∧ e.checkWord = q.checkWord ∧ b.store.arrivals = m.store.arrivals + 1 ∧ b.link = m.link
        ∧ ((m.store.roles.pending.strips.contains k || m.store.roles.shown.strips.contains k) = true →
          b.store.isReady k = false → b.decode.hasJob k = true ∨ b.decode.deferred = true)) →
      (m.store.isHeld k = true ∨ m.store.isBroken k = true ∨ (q.passes = false ∧ needed = false) →
        ∃ t, exec (.segmentArrival bytes) s = .next t ∧ s.Becomes s.station.scene s.station.timers m t)
      ∧ (m.store.isHeld k = false → m.store.isBroken k = false →
        (q.passes = false → needed = true → after (fun b e => e.state = .bad ∧ e.units = 0 ∧ e.failures = n + 1
          ∧ b.store.freeUnits = m.store.freeUnits + v
          ∧ (n = 0 → b.link = m.link ∧ b.store.wants = addRun k.asset k.index k.index m.store.wants)
          ∧ (n ≠ 0 → b.link = m.link.enqueue (.fault (brokenFault k)) ∧ b.store.wants = removeStrip k m.store.wants)))
        ∧ (q.passes = true →
          (needed = false → m.store.placed k = true ∨ m.store.freeUnits < 4096 + u →
            after (fun b e => e.state = .skipped ∧ e.units = 0 ∧ e.failures = n
              ∧ b.store.freeUnits = m.store.freeUnits + v ∧ b.link = m.link ∧ b.store.wants = m.store.wants))
          ∧ (needed = true ∧ u ≤ m.store.freeUnits ∨ m.store.placed k = false ∧ 4096 + u ≤ m.store.freeUnits →
            after (fun b e => stored b e ∧ b.store.freeUnits + u = m.store.freeUnits + v
              ∧ b.store.wants = removeStrip k m.store.wants))
          ∧ (needed = true → s.station.blocks.store.unitsWf = true → m.store.freeUnits < u →
              u ≤ m.store.freeUnits + cand → after stored)
          ∧ (needed = true → m.store.freeUnits + cand < u →
            after (fun b e => e.state = .skipped ∧ e.units = 0 ∧ e.failures = n
              ∧ b.store.freeUnits = m.store.freeUnits + v ∧ b.store.exhausted = true ∧ b.store.wants = m.store.wants
              ∧ b.store.roomWait = (if m.store.roomWait.contains { id := k, inOpen := false } then m.store.roomWait
                else m.store.roomWait ++ [{ id := k, inOpen := false }])
              ∧ b.link = (if m.store.exhausted then m.link
                else m.link.enqueue (.fault (exhaustedFault k false u (m.store.freeUnits + v)))))))))

/-- A Page Prepare job ends: its strip's Open form is Ready with its rows, and stays so at the event's end where a role set
pins it or no job asks for room; or the strip is Bad with one failure more and its Open entry gone (R113, R116, R127). The
oldest queued job is chosen then and starts: its Open entry is made in Decoding and takes its units (R124, R126); the last-
shown frame of such an entry is the model's choice (log 45). When every strip of the need set is settled, Ready (page, C) goes
out, once; else none does (R54); that it comes before the event's other messages is the model's choice (log 8). A strip on the
room-wait list is short (R117), a Broken one settled there too, as the model reads it (log 51). The choice: Page Prepare jobs,
the suspended batch, which resumes with its progress at 0, a batch whose strips are known, its back surface free and one of its
pending strips Held or Broken or none pending, then the Check (R124, R135). A job whose strip is not Held is dropped, and so is
one without room, which waits for room (R117, R126); that one whose strip has an Open entry is dropped is the model's reading
(log 52). The refill while the deferred mark is set: up to 30 jobs, tagged with C, for the Held strips of the pending and the
shown set that have no Open entry and no job; the mark goes when none is left (R125). Room is granted from the free units, else
by evictions until it suffices, or refused with nothing evicted: unpinned Ready Open entries first, the longest not shown, then
unpinned Held Packed ones, the lowest arrival number first; an evicted Packed strip is Skipped, and wanted where a job or a
batch waits for it (R116). -/
def Obligations.PagePrepareEnds : Prop :=
  (∀ (s : State) (j : PageJob) (e : Opened), s.station.Runs → s.station.blocks.decode.running = some (.page j) →
    s.station.blocks.store.findOpened j.id = some e → e.id = j.id → e.ready = false →
    (∀ rows, ∃ t b, exec (.pagePrepareComplete (some rows)) s = .next t
      ∧ s.Becomes s.station.scene s.station.timers b t ∧ b.decode = { s.station.blocks.decode with running := none }
      ∧ b.store.findOpened j.id = some { e with
          ready := true, lastShown := s.station.blocks.bc.frame, rows := rows
          pins := s.station.blocks.store.roles.pins j.id }
      ∧ b.store.packed = s.station.blocks.store.packed ∧ b.link = s.station.blocks.link
      ∧ (s.station.blocks.store.unitsWf = true → 0 < s.station.blocks.store.roles.pins j.id
            ∨ (s.station.blocks.decode.pageJobs = [] ∧ s.station.blocks.decode.deferred = false
              ∧ s.station.blocks.store.roomWait = []) →
          t.station.blocks.store.findOpened j.id = some { e with
            ready := true, lastShown := s.station.blocks.bc.frame, rows := rows
            pins := s.station.blocks.store.roles.pins j.id }))
    ∧ (∀ p, s.station.blocks.store.findPacked j.id = some p →
      ∃ t b, exec (.pagePrepareComplete none) s = .next t ∧ s.Becomes s.station.scene s.station.timers b t
        ∧ b.decode = { s.station.blocks.decode with running := none } ∧ b.store.findOpened j.id = none
        ∧ b.store.findPacked j.id = some { p with
            state := .bad, units := 0, failures := p.failures + 1, data := [], checkWord := 0
            pins := s.station.blocks.store.roles.pins j.id }
        ∧ (s.station.blocks.store.unitsWf = true → t.station.blocks.store.findOpened j.id = none
          ∧ t.station.blocks.store.findPacked j.id = some { p with
              state := .bad, units := 0, failures := p.failures + 1, data := [], checkWord := 0
              pins := s.station.blocks.store.roles.pins j.id })
        ∧ b.link = (if p.failures = 0 then s.station.blocks.link
            else s.station.blocks.link.enqueue (.fault (brokenFault j.id)))))
  ∧ (∀ (s : State) (j : PageJob) (e : Opened) (rows : Rows), s.station.Runs →
      s.station.blocks.decode.running = some (.page j) → s.station.blocks.store.findOpened j.id = some e →
      s.station.blocks.store.pinsWf = true → s.station.blocks.decode.deferred = false →
      (∀ (n : PageJob) rest a u, s.station.blocks.decode.pageJobs = n :: rest → s.station.blocks.store.isHeld n.id = true →
          s.station.blocks.store.findOpened n.id = none → s.station.blocks.store.asset n.id.asset = some a →
          u = (a.width * 32 + 4095) / 4096 → u ≤ s.station.blocks.store.freeUnits →
        ∃ t, exec (.pagePrepareComplete (some rows)) s = .next t ∧ t.station.blocks.decode.running = some (.page n)
          ∧ t.station.blocks.decode.pageJobs = rest
          ∧ t.station.blocks.store.findOpened n.id = some {
              id := n.id, ready := false, units := u, pins := s.station.blocks.store.roles.pins n.id, lastShown := 0, rows := [] }
          ∧ t.station.blocks.store.freeUnits + u = s.station.blocks.store.freeUnits)
      ∧ (∀ (p : Nat) (settled : Prop), s.station.blocks.decode.pageJobs = [] → s.station.blocks.decode.suspended = none →
          s.station.blocks.decode.batch = none → s.station.blocks.decode.check = none →
          s.station.scene.pendingPage = some p → s.station.blocks.decode.pageReadySent = false →
          (settled ↔ s.station.blocks.store.roles.pending.unresolved = []
            ∧ ∀ k ∈ s.station.blocks.store.roles.pending.strips, s.station.blocks.store.isBroken k = true
              ∨ ((k = j.id ∨ s.station.blocks.store.isReady k = true) ∧ s.station.blocks.store.isBad k = false
                ∧ ∀ w ∈ s.station.blocks.store.roomWait, w.id ≠ k)) →
        ∃ t added, exec (.pagePrepareComplete (some rows)) s = .next t
          ∧ t.station.blocks.link.queue = s.station.blocks.link.queue ++ added
          ∧ (settled → t.station.blocks.decode.pageReadySent = true
            ∧ (s.station.blocks.link.silent = false → s.station.blocks.link.queue.length < 8 →
              [.ready { stream := 0, index := p, change := s.station.scene.pageChange }] <+: added))
          ∧ (¬ settled → t.station.blocks.decode.pageReadySent = false ∧ ∀ body, .ready body ∈ added → body.stream = 1)))
  ∧ (∀ (sc : Scene) (b : Blocks) (eligible : Batch → Prop),
      (∀ q, eligible q ↔ q.strips.isSome = true ∧ b.bc.transition = none
        ∧ (∀ w, b.bc.slideSwitch = some w → w.content = q.content)
        ∧ (q.pendingStrips = [] ∨ ∃ k ∈ q.pendingStrips, b.store.isHeld k = true ∨ b.store.isBroken k = true)) →
      (∀ r, b.decode.running = some r → b.chooseOne sc = none)
      ∧ (b.decode.running = none →
        (∀ j rest, b.decode.pageJobs = j :: rest →
          b.chooseOne sc = some (Blocks.startPage j { b with decode := { b.decode with pageJobs := rest } }))
        ∧ (b.decode.pageJobs = [] →
          (∀ q, b.decode.suspended = some q → b.chooseOne sc
            = some (Blocks.takeBatch sc { q with progress := 0 } { b with decode := { b.decode with suspended := none } }))
          ∧ (b.decode.suspended = none →
            (∀ q, b.decode.batch = some q → eligible q →
              b.chooseOne sc = some (Blocks.takeBatch sc q { b with decode := { b.decode with batch := none } }))
            ∧ ((∀ q, b.decode.batch = some q → ¬ eligible q) →
              b.chooseOne sc
                = b.decode.check.map (fun c => Blocks.takeCheck c { b with decode := { b.decode with check := none } }))))))
  ∧ (∀ (j : PageJob) (b : Blocks) (u : Nat), u = b.store.openUnitsOf j.id →
      (b.store.isHeld j.id = false ∨ (b.store.findOpened j.id).isSome = true → b.startPage j = b)
      ∧ (b.store.isHeld j.id = true → b.store.findOpened j.id = none → b.findRoom (some j.id) u = none →
        b.startPage j = { b with
          link := if b.store.exhausted then b.link
            else b.link.enqueue (.fault (exhaustedFault j.id true u b.store.freeUnits))
          store := { b.store with
            exhausted := true
            roomWait := if b.store.roomWait.contains { id := j.id, inOpen := true } then b.store.roomWait
              else b.store.roomWait ++ [{ id := j.id, inOpen := true }] } }))
  ∧ (∀ (change : Half) (b c : Blocks) (wanting : Decode → Strip → Prop), c = b.refill change →
      (∀ d k, wanting d k ↔ (k ∈ b.store.roles.pending.strips ∨ k ∈ b.store.roles.shown.strips)
        ∧ b.store.isHeld k = true ∧ b.store.findOpened k = none ∧ d.hasJob k = false) →
      (b.decode.deferred = false ∨ 30 ≤ b.decode.pageJobs.length → c = b)
      ∧ (b.decode.deferred = true → b.decode.pageJobs.length < 30 →
        c = { b with decode := { b.decode with pageJobs := c.decode.pageJobs, deferred := c.decode.deferred } }
        ∧ b.decode.pageJobs <+: c.decode.pageJobs ∧ c.decode.pageJobs.length ≤ 30
        ∧ (∀ j ∈ c.decode.pageJobs, j ∈ b.decode.pageJobs ∨ (j.tag = change ∧ wanting b.decode j.id))
        ∧ (c.decode.pageJobs.length = 30 ∨ ∀ k, ¬ wanting c.decode k)
        ∧ (c.decode.deferred = false ↔ ∀ k, ¬ wanting c.decode k)))
  ∧ (∀ (b : Blocks) (working : Option Strip) (u : Nat) (opens : List Opened) (packs : List Packed) (back : Opened → Nat),
      b.store.unitsWf = true →
      opens = b.store.opened.filter (fun e => decide (e.ready = true ∧ e.pins = 0 ∧ working ≠ some e.id)) →
      packs = b.store.packed.filter (fun e => decide (e.state = .held ∧ e.pins = 0 ∧ working ≠ some e.id)) →
      (∀ e, back e = (b.bc.frame - e.lastShown).toNat) →
      (u ≤ b.store.freeUnits → b.findRoom working u = some b)
      ∧ (b.store.freeUnits + (opens.map Opened.units).sum + (packs.map Packed.units).sum < u → b.findRoom working u = none)
      ∧ (u ≤ b.store.freeUnits + (opens.map Opened.units).sum + (packs.map Packed.units).sum →
        ∃ c, b.findRoom working u = some c ∧ u ≤ c.store.freeUnits ∧ c.link = b.link ∧ c.bc = b.bc
          ∧ (∀ k, c.store.findOpened k = b.store.findOpened k ∨ (c.store.findOpened k = none ∧ ∃ e ∈ opens, e.id = k))
          ∧ ∀ k, c.store.findPacked k = b.store.findPacked k
            ∨ ∃ e ∈ packs, e.id = k ∧ (∀ d ∈ opens, c.store.findOpened d.id = none)
              ∧ c.store.findPacked k = some { e with
                  state := .skipped, units := 0, data := [], checkWord := 0, pins := b.store.roles.pins k })
      ∧ (∀ e ∈ opens, (∀ d ∈ opens, d ≠ e → back d < back e ∨ (back d = back e ∧ e.id.before d.id = true)) →
        b.evictNext working = some { b with store := b.store.dropOpened e.id })
      ∧ (opens = [] → ∀ e ∈ packs, (∀ d ∈ packs, d ≠ e → e.arrival.toNat < d.arrival.toNat) →
        ∃ c, b.evictNext working = some c
          ∧ c.decode = { b.decode with pageJobs := b.decode.pageJobs.filter (fun j => decide (j.id ≠ e.id)) }
          ∧ c.store.wants = (if (∃ j ∈ b.decode.pageJobs, j.id = e.id) ∨ b.decode.awaits e.id = true then
              addRun e.id.asset e.id.index e.id.index b.store.wants
            else b.store.wants)
          ∧ c.store.freeUnits = b.store.freeUnits + e.units)
      ∧ (opens = [] → packs = [] → b.evictNext working = none))

/-- A strip of a slide batch ends: one of a removed batch is the last of it, nothing written but a failure counted, and the new
batch in the queue starts, its content named on the cleared back surface, a batch without strips completing at once (R129,
R130, R133); the last pending strip of a batch is written to the back surface, which is whole then, and stays so at the event's
end where no other batch can begin, and the batch's change is reported (R130, R131), with its Ready unless a transition runs
(R93); that this Ready comes before the event's Wants is the model's choice (log 8). A strip that decodes is done, one that
fails is Bad, counted, and filled in the back surface; the batch goes on with its lowest pending strip that is Held, waits in
the queue when none is Held or Broken, or is suspended after four strips for a Page Prepare job when no pending change awaits
it (R131, R135). A strip of a Check ends: it is counted, a failing one set Bad, and the Check goes on to the next Held strip of
its range while no work of another class waits, else it gives way; after the last one Check Done goes out with the counts
(R113, R137). That a batch completes before the suspension test is made, and a Check is done before it gives way, is the
model's reading (log 29). -/
def Obligations.BatchAndCheckStripsEnd : Prop :=
  (∀ (s : State) (q : Batch) (i : Nat) (rows : Rows), s.station.Runs →
      (s.station.blocks.decode.running = some (.batch q i true) →
        (∃ t, exec (.batchStripComplete (some rows)) s = .next t
          ∧ s.Becomes s.station.scene s.station.timers
              { s.station.blocks with decode := { s.station.blocks.decode with running := none } } t
          ∧ (∀ r n, t.station.blocks.decode.running ≠ some (.batch r n true))
          ∧ (s.station.blocks.decode.batch = none → s.station.blocks.decode.suspended = none →
              s.station.scene.pendingIndex.isSome = true ∨ s.station.scene.show_ = .stopped →
            t.station.blocks.bc.back = s.station.blocks.bc.back))
        ∧ (∀ p own, own = { asset := q.content.asset, index := i } →
            s.station.blocks.store.findPacked own = some p → s.station.blocks.store.unitsWf = true →
          ∃ t, exec (.batchStripComplete none) s = .next t
            ∧ (∀ r n, t.station.blocks.decode.running ≠ some (.batch r n true))
            ∧ t.station.blocks.store.findPacked own = some { p with
                state := .bad, units := 0, failures := p.failures + 1, data := [], checkWord := 0
                pins := s.station.blocks.store.roles.pins own }))
      ∧ (∀ a change back, s.station.blocks.decode.running = some (.batch q i false) → q.begun = true →
          q.change = some change → (∀ e ∈ q.strips.getD [], e.1 ≠ i → e.2 ≠ .pending) →
          s.station.blocks.store.asset q.content.asset = some a →
          back = { s.station.blocks.bc.back with
            whole := true, firstFailing := q.firstFailing
            strips := s.station.blocks.bc.back.strips
              ++ [{ index := i, width := a.width, height := a.height, rows := .decoded rows }] } →
        ∃ t, exec (.batchStripComplete (some rows)) s = .next t
          ∧ s.Becomes s.station.scene s.station.timers
              { s.station.blocks with
                decode := { s.station.blocks.decode with running := none, reported := some change }
                bc := { s.station.blocks.bc with back := back } } t
          ∧ (s.station.blocks.decode.batch = none → s.station.blocks.decode.suspended = none →
              s.station.scene.pendingIndex.isSome = true ∨ s.station.scene.show_ = .stopped →
            t.station.blocks.bc.back = back ∧ t.station.blocks.decode.reported = some change)))
  ∧ (∀ (s : State) (c n : CheckJob) (k : Strip), s.station.Runs → s.station.blocks.decode.running = some (.check c k) →
      n = { c with position := some k, checked := c.checked + 1 } →
      (s.station.blocks.store.unchecked n = [] →
        ∃ t, exec (.checkStripComplete true) s = .next t
          ∧ s.Becomes s.station.scene s.station.timers
              ({ s.station.blocks with decode := { s.station.blocks.decode with running := none } }.enqueue
                (.checkDone { checked := c.checked + 1, bad := c.bad
                              firstBad := c.firstBad.map (fun (k : Strip) => (k.asset, k.index)), remaining := 0 })) t
          ∧ (s.station.blocks.decode.check = none → t.station.blocks.decode.check = none
            ∧ ∀ d x, t.station.blocks.decode.running ≠ some (.check d x)))
      ∧ (∀ e rest, s.station.blocks.store.unchecked n = e :: rest → s.station.blocks.decode.pageJobs = [] →
          s.station.blocks.decode.batch = none → s.station.blocks.decode.suspended = none →
        ∃ t, exec (.checkStripComplete true) s = .next t
          ∧ s.Becomes s.station.scene s.station.timers
              { s.station.blocks with decode := { s.station.blocks.decode with running := some (.check n e.id) } } t
          ∧ t.station.blocks.decode.running = some (.check n e.id)))
  ∧ (∀ (s : State) (q : Batch) (i p : Nat) (rows : Rows) (change : Half), s.station.Runs →
      s.station.blocks.decode.running = some (.batch q i false) → q.begun = true → q.change = some change →
      (∀ e ∈ q.strips.getD [], e.1 ≠ i → e.2 ≠ .pending) → s.station.blocks.decode.pageJobs = [] →
      s.station.blocks.decode.suspended = none → s.station.blocks.decode.batch = none →
      s.station.blocks.decode.check = none → s.station.blocks.store.roomWait = [] →
      s.station.blocks.decode.deferred = false → s.station.scene.pendingPage = none →
      s.station.scene.pendingIndex = some p → change = s.station.scene.slideChange →
      s.station.blocks.decode.slideReadySent = false →
      ∃ t, exec (.batchStripComplete (some rows)) s = .next t ∧ t.station.blocks.decode.reported = some change
        ∧ (s.station.blocks.bc.transition = none → t.station.blocks.decode.slideReadySent = true
          ∧ (s.station.blocks.link.silent = false → s.station.blocks.link.queue.length < 8 →
            s.station.blocks.link.queue ++ [.ready { stream := 1, index := p, change := change }]
              <+: t.station.blocks.link.queue))
        ∧ (s.station.blocks.bc.transition.isSome = true → t.station.blocks.decode.slideReadySent = false))
  ∧ (∀ (s : State) (q r : Batch) (i : Nat) (l : List (Nat × BatchStrip)) (decoded : Option Rows) (own : Strip),
      s.station.Runs → s.station.blocks.decode.running = some (.batch q i false) → q.begun = true → q.strips = some l →
      s.station.blocks.decode.deferred = false → s.station.blocks.store.roomWait = [] →
      own = { asset := q.content.asset, index := i } →
      r = { q with
        strips := some (l.map (fun e => if e.1 = i then (i, if decoded.isSome then .done else .filled) else e))
        progress := min 4 (q.progress + 1)
        firstFailing := if decoded.isSome then q.firstFailing else some (q.firstFailing.getD i) } →
      (∀ n pre post a, s.station.blocks.decode.pageJobs = [] ∨ q.progress < 3
            ∨ (s.station.scene.pendingIndex.isSome = true ∧ q.change = some s.station.scene.slideChange) →
          r.strips = some (pre ++ (n, .pending) :: post) →
          s.station.blocks.store.isHeld { asset := q.content.asset, index := n } = true →
          (∀ e ∈ pre, e.2 = .pending → s.station.blocks.store.isHeld { asset := q.content.asset, index := e.1 } = false
            ∧ s.station.blocks.store.isBroken { asset := q.content.asset, index := e.1 } = false) →
          s.station.blocks.store.asset q.content.asset = some a →
        ∃ t, exec (.batchStripComplete decoded) s = .next t ∧ t.station.blocks.decode.running = some (.batch r n false)
          ∧ t.station.blocks.bc.back = { s.station.blocks.bc.back with
              strips := s.station.blocks.bc.back.strips ++ [{
                index := i, width := a.width, height := a.height
                rows := match decoded with
                  | some rows => .decoded rows
                  | none => .filled }] }
          ∧ (∀ p, decoded = none → s.station.blocks.store.findPacked own = some p →
            t.station.blocks.store.findPacked own = some { p with
                state := .bad, units := 0, failures := p.failures + 1, data := [], checkWord := 0
                pins := s.station.blocks.store.roles.pins own }
              ∧ (p.failures ≠ 0 →
                (s.station.blocks.link.enqueue (.fault (brokenFault own))).queue <+: t.station.blocks.link.queue)))
      ∧ ((∃ e ∈ r.strips.getD [], e.2 = .pending) → (∀ e ∈ r.strips.getD [], e.2 = .pending →
            s.station.blocks.store.isHeld { asset := q.content.asset, index := e.1 } = false
              ∧ s.station.blocks.store.isBroken { asset := q.content.asset, index := e.1 } = false) →
          s.station.blocks.decode.pageJobs = [] → s.station.blocks.decode.suspended = none →
          s.station.blocks.decode.check = none →
        ∃ t, exec (.batchStripComplete decoded) s = .next t ∧ t.station.blocks.decode.running = none
          ∧ t.station.blocks.decode.batch = some r)
      ∧ (∀ j rest, (∃ e ∈ r.strips.getD [], e.2 = .pending) → s.station.blocks.decode.pageJobs = j :: rest →
          s.station.blocks.decode.suspended = none → 3 ≤ q.progress →
          s.station.scene.pendingIndex = none ∨ q.change ≠ some s.station.scene.slideChange → j.id ≠ own →
          s.station.blocks.store.isHeld j.id = true → s.station.blocks.store.findOpened j.id = none →
          s.station.blocks.store.openUnitsOf j.id ≤ s.station.blocks.store.freeUnits →
        ∃ t, exec (.batchStripComplete decoded) s = .next t ∧ t.station.blocks.decode.suspended = some r
          ∧ t.station.blocks.decode.running = some (.page j) ∧ t.station.blocks.decode.pageJobs = rest))
  ∧ (∀ (s : State) (q w : Batch) (i : Nat) (rows : Rows), s.station.Runs →
      s.station.blocks.decode.running = some (.batch q i true) → s.station.blocks.decode.pageJobs = [] →
      s.station.blocks.decode.suspended = none → s.station.blocks.decode.deferred = false →
      s.station.blocks.store.roomWait = [] → s.station.blocks.decode.batch = some w → w.begun = false →
      s.station.blocks.bc.transition = none →
      (∀ x, s.station.blocks.bc.slideSwitch = some x → x.content = w.content) →
      (∀ n pre post, w.strips = some (pre ++ (n, .pending) :: post) →
          s.station.blocks.store.isHeld { asset := w.content.asset, index := n } = true →
          (∀ e ∈ pre, e.2 = .pending → s.station.blocks.store.isHeld { asset := w.content.asset, index := e.1 } = false
            ∧ s.station.blocks.store.isBroken { asset := w.content.asset, index := e.1 } = false) →
        ∃ t, exec (.batchStripComplete (some rows)) s = .next t
          ∧ t.station.blocks.decode.running = some (.batch { w with begun := true } n false)
          ∧ t.station.blocks.decode.batch = none
          ∧ t.station.blocks.bc.back = { content := some w.content, whole := false, firstFailing := none, strips := [] })
      ∧ (w.strips = some [] → s.station.scene.pendingIndex.isSome = true → s.station.blocks.decode.check = none →
        ∃ t, exec (.batchStripComplete (some rows)) s = .next t ∧ t.station.blocks.decode.running = none
          ∧ t.station.blocks.decode.batch = none
          ∧ t.station.blocks.bc.back
            = { content := some w.content, whole := true, firstFailing := w.firstFailing, strips := [] }
          ∧ (∀ c, w.change = some c → t.station.blocks.decode.reported = some c)))
  ∧ (∀ (s : State) (c n : CheckJob) (k : Strip), s.station.Runs → s.station.blocks.decode.running = some (.check c k) →
      (∀ p, s.station.blocks.store.findPacked k = some p → s.station.blocks.store.unchecked n = [] →
          n = { c with
            position := some k, checked := c.checked + 1, bad := c.bad + 1, firstBad := some (c.firstBad.getD k) } →
        ∃ t b, exec (.checkStripComplete false) s = .next t ∧ s.Becomes s.station.scene s.station.timers b t
          ∧ b.store.findPacked k = some { p with
              state := .bad, units := 0, failures := p.failures + 1, data := [], checkWord := 0
              pins := s.station.blocks.store.roles.pins k }
          ∧ (s.station.blocks.store.unitsWf = true →
            t.station.blocks.store.findPacked k = b.store.findPacked k)
          ∧ (s.station.blocks.decode.check = none → t.station.blocks.decode.check = none
            ∧ ∀ d x, t.station.blocks.decode.running ≠ some (.check d x))
          ∧ b.link = (if p.failures = 0 then s.station.blocks.link
              else s.station.blocks.link.enqueue (.fault (brokenFault k))).enqueue (.checkDone {
                checked := c.checked + 1, bad := c.bad + 1
                firstBad := some ((c.firstBad.getD k).asset, (c.firstBad.getD k).index), remaining := 0 }))
      ∧ (∀ j rest, n = { c with position := some k, checked := c.checked + 1 } → s.station.blocks.store.unchecked n ≠ [] →
          s.station.blocks.decode.pageJobs = j :: rest → s.station.blocks.decode.deferred = false →
          s.station.blocks.store.roomWait = [] → s.station.blocks.store.isHeld j.id = true →
          s.station.blocks.store.findOpened j.id = none →
          s.station.blocks.store.openUnitsOf j.id ≤ s.station.blocks.store.freeUnits →
        ∃ t, exec (.checkStripComplete true) s = .next t ∧ t.station.blocks.decode.check = some n
          ∧ t.station.blocks.decode.running = some (.page j) ∧ t.station.blocks.decode.pageJobs = rest))

/-! ### Invariants that every step keeps -/

/-- The outgoing queue holds at most 8 messages, none in Link Silent, and the head's objection count is below 16 (R158,
R169, R171). The speaker's timers run in the speaker alone, the absence counter in the others alone, and a station outside
Strap Fault has a number from 2 to 5 (R61, R63, R173). -/
def Obligations.StepsKeepTheLinkAndRoles : Prop :=
  (∀ s t : State, s.station.blocks.link.wf = true → step s = .next t → t.station.blocks.link.wf = true)
  ∧ (∀ s t : State, s.station.timersWf = true → s.station.numberWf = true → step s = .next t →
      t.station.timersWf = true ∧ t.station.numberWf = true)

/-- The guard's ranges hold, and it is closed exactly when no attempt is left (R68). 64 pages, 8 words, 8 cues and an entry
of at most four digits (R3, R14, R27, R97). -/
def Obligations.StepsKeepTheGuardAndTables : Prop :=
  (∀ s t : State, s.station.scene.guard.wf = true → step s = .next t → t.station.scene.guard.wf = true)
  ∧ (∀ s t : State, s.station.scene.shapeWf = true → step s = .next t → t.station.scene.shapeWf = true)

/-- The slide list and its indices agree (R79, R83). -/
def Obligations.StepsKeepTheSlideList : Prop :=
  ∀ s t : State, s.station.scene.slidesWf = true → step s = .next t → t.station.scene.slidesWf = true

/-- The shown and the pending page are Complete, there is a state for each button of the shown page, and at most one button is
chosen, an enabled one when it is Selected (R10, R18, R19). -/
def Obligations.StepsKeepTheShownPage : Prop :=
  ∀ s t : State, s.station.scene.pagesWf = true → s.station.scene.selectionWf = true → step s = .next t →
    t.station.scene.pagesWf = true ∧ t.station.scene.selectionWf = true

/-- The directory stays in canonical form, and the free units and the units held add up to the store (R106, R107). -/
def Obligations.StepsKeepTheStoreUnits : Prop :=
  ∀ s t : State, s.station.blocks.store.unitsWf = true → step s = .next t → t.station.blocks.store.unitsWf = true

/-- Every pin count is the number of role sets that name the strip (R114), and at most 30 Page Prepare jobs are queued
(R123). -/
def Obligations.StepsKeepPinsAndJobs : Prop :=
  ∀ s t : State, s.station.blocks.store.pinsWf = true → s.station.blocks.decode.wf = true → step s = .next t →
    t.station.blocks.store.pinsWf = true ∧ t.station.blocks.decode.wf = true

/-- The machine after reset is well formed in every one of these ways. -/
def Obligations.ResetIsWellFormed : Prop :=
  State.reset.station.blocks.link.wf = true ∧ State.reset.station.scene.guard.wf = true
    ∧ State.reset.station.scene.shapeWf = true ∧ State.reset.station.scene.slidesWf = true
    ∧ State.reset.station.scene.pagesWf = true ∧ State.reset.station.scene.selectionWf = true
    ∧ State.reset.station.blocks.store.unitsWf = true ∧ State.reset.station.blocks.store.pinsWf = true
    ∧ State.reset.station.blocks.decode.wf = true ∧ State.reset.station.timersWf = true
    ∧ State.reset.station.numberWf = true
end

