-- ==== Sys2Proof/Laws/State.lean ====
section
/-! SUPPORT. What each update of one part of the station leaves in each field: one lemma a field, true by rfl. -/

namespace Sys2Proof.Machine

/-! ### Station.withScene -/

@[simp] theorem Station.withScene_lineAsserted (f : Scene → Scene) (st : Station) : (st.withScene f).lineAsserted = st.lineAsserted := rfl

@[simp] theorem Station.withScene_number (f : Scene → Scene) (st : Station) : (st.withScene f).number = st.number := rfl

@[simp] theorem Station.withScene_mode (f : Scene → Scene) (st : Station) : (st.withScene f).mode = st.mode := rfl

@[simp] theorem Station.withScene_layout (f : Scene → Scene) (st : Station) : (st.withScene f).layout = st.layout := rfl

@[simp] theorem Station.withScene_scene (f : Scene → Scene) (st : Station) : (st.withScene f).scene = f st.scene := rfl

@[simp] theorem Station.withScene_timers (f : Scene → Scene) (st : Station) : (st.withScene f).timers = st.timers := rfl

@[simp] theorem Station.withScene_blocks (f : Scene → Scene) (st : Station) : (st.withScene f).blocks = st.blocks := rfl

/-! ### Station.withTimers -/

@[simp] theorem Station.withTimers_lineAsserted (f : Timers → Timers) (st : Station) : (st.withTimers f).lineAsserted = st.lineAsserted := rfl

@[simp] theorem Station.withTimers_number (f : Timers → Timers) (st : Station) : (st.withTimers f).number = st.number := rfl

@[simp] theorem Station.withTimers_mode (f : Timers → Timers) (st : Station) : (st.withTimers f).mode = st.mode := rfl

@[simp] theorem Station.withTimers_layout (f : Timers → Timers) (st : Station) : (st.withTimers f).layout = st.layout := rfl

@[simp] theorem Station.withTimers_scene (f : Timers → Timers) (st : Station) : (st.withTimers f).scene = st.scene := rfl

@[simp] theorem Station.withTimers_timers (f : Timers → Timers) (st : Station) : (st.withTimers f).timers = f st.timers := rfl

@[simp] theorem Station.withTimers_blocks (f : Timers → Timers) (st : Station) : (st.withTimers f).blocks = st.blocks := rfl

/-! ### Station.withBlocks -/

@[simp] theorem Station.withBlocks_lineAsserted (f : Blocks → Blocks) (st : Station) : (st.withBlocks f).lineAsserted = st.lineAsserted := rfl

@[simp] theorem Station.withBlocks_number (f : Blocks → Blocks) (st : Station) : (st.withBlocks f).number = st.number := rfl

@[simp] theorem Station.withBlocks_mode (f : Blocks → Blocks) (st : Station) : (st.withBlocks f).mode = st.mode := rfl

@[simp] theorem Station.withBlocks_layout (f : Blocks → Blocks) (st : Station) : (st.withBlocks f).layout = st.layout := rfl

@[simp] theorem Station.withBlocks_scene (f : Blocks → Blocks) (st : Station) : (st.withBlocks f).scene = st.scene := rfl

@[simp] theorem Station.withBlocks_timers (f : Blocks → Blocks) (st : Station) : (st.withBlocks f).timers = st.timers := rfl

@[simp] theorem Station.withBlocks_blocks (f : Blocks → Blocks) (st : Station) : (st.withBlocks f).blocks = f st.blocks := rfl

/-! ### Blocks.withLink -/

@[simp] theorem Blocks.withLink_link (f : Link → Link) (b : Blocks) : (b.withLink f).link = f b.link := rfl

@[simp] theorem Blocks.withLink_store (f : Link → Link) (b : Blocks) : (b.withLink f).store = b.store := rfl

@[simp] theorem Blocks.withLink_decode (f : Link → Link) (b : Blocks) : (b.withLink f).decode = b.decode := rfl

@[simp] theorem Blocks.withLink_bc (f : Link → Link) (b : Blocks) : (b.withLink f).bc = b.bc := rfl

/-! ### Blocks.withStore -/

@[simp] theorem Blocks.withStore_link (f : Store → Store) (b : Blocks) : (b.withStore f).link = b.link := rfl

@[simp] theorem Blocks.withStore_store (f : Store → Store) (b : Blocks) : (b.withStore f).store = f b.store := rfl

@[simp] theorem Blocks.withStore_decode (f : Store → Store) (b : Blocks) : (b.withStore f).decode = b.decode := rfl

@[simp] theorem Blocks.withStore_bc (f : Store → Store) (b : Blocks) : (b.withStore f).bc = b.bc := rfl

/-! ### Blocks.withDecode -/

@[simp] theorem Blocks.withDecode_link (f : Decode → Decode) (b : Blocks) : (b.withDecode f).link = b.link := rfl

@[simp] theorem Blocks.withDecode_store (f : Decode → Decode) (b : Blocks) : (b.withDecode f).store = b.store := rfl

@[simp] theorem Blocks.withDecode_decode (f : Decode → Decode) (b : Blocks) : (b.withDecode f).decode = f b.decode := rfl

@[simp] theorem Blocks.withDecode_bc (f : Decode → Decode) (b : Blocks) : (b.withDecode f).bc = b.bc := rfl

/-! ### Blocks.withBc -/

@[simp] theorem Blocks.withBc_link (f : Compositor → Compositor) (b : Blocks) : (b.withBc f).link = b.link := rfl

@[simp] theorem Blocks.withBc_store (f : Compositor → Compositor) (b : Blocks) : (b.withBc f).store = b.store := rfl

@[simp] theorem Blocks.withBc_decode (f : Compositor → Compositor) (b : Blocks) : (b.withBc f).decode = b.decode := rfl

@[simp] theorem Blocks.withBc_bc (f : Compositor → Compositor) (b : Blocks) : (b.withBc f).bc = f b.bc := rfl

/-! ### Queueing -/

@[simp] theorem Station.enqueue_lineAsserted (m : Message) (st : Station) : (st.enqueue m).lineAsserted = st.lineAsserted := rfl

@[simp] theorem Station.enqueue_number (m : Message) (st : Station) : (st.enqueue m).number = st.number := rfl

@[simp] theorem Station.enqueue_mode (m : Message) (st : Station) : (st.enqueue m).mode = st.mode := rfl

@[simp] theorem Station.enqueue_layout (m : Message) (st : Station) : (st.enqueue m).layout = st.layout := rfl

@[simp] theorem Station.enqueue_scene (m : Message) (st : Station) : (st.enqueue m).scene = st.scene := rfl

@[simp] theorem Station.enqueue_timers (m : Message) (st : Station) : (st.enqueue m).timers = st.timers := rfl

@[simp] theorem Station.enqueue_blocks (m : Message) (st : Station) : (st.enqueue m).blocks = st.blocks.enqueue m := rfl

@[simp] theorem Blocks.enqueue_link (m : Message) (b : Blocks) : (b.enqueue m).link = b.link.enqueue m := rfl

@[simp] theorem Blocks.enqueue_store (m : Message) (b : Blocks) : (b.enqueue m).store = b.store := rfl

@[simp] theorem Blocks.enqueue_decode (m : Message) (b : Blocks) : (b.enqueue m).decode = b.decode := rfl

@[simp] theorem Blocks.enqueue_bc (m : Message) (b : Blocks) : (b.enqueue m).bc = b.bc := rfl

/-! ### Role sets -/

@[simp] theorem Store.setRoles_assets (f : Roles → Roles) (s : Store) : (s.setRoles f).assets = s.assets := rfl

@[simp] theorem Store.setRoles_freeUnits (f : Roles → Roles) (s : Store) : (s.setRoles f).freeUnits = s.freeUnits := rfl

@[simp] theorem Store.setRoles_arrivals (f : Roles → Roles) (s : Store) : (s.setRoles f).arrivals = s.arrivals := rfl

@[simp] theorem Store.setRoles_placements (f : Roles → Roles) (s : Store) : (s.setRoles f).placements = s.placements := rfl

@[simp] theorem Store.setRoles_roomWait (f : Roles → Roles) (s : Store) : (s.setRoles f).roomWait = s.roomWait := rfl

@[simp] theorem Store.setRoles_exhausted (f : Roles → Roles) (s : Store) : (s.setRoles f).exhausted = s.exhausted := rfl

@[simp] theorem Store.setRoles_wants (f : Roles → Roles) (s : Store) : (s.setRoles f).wants = s.wants := rfl

@[simp] theorem Store.setRoles_outstanding (f : Roles → Roles) (s : Store) : (s.setRoles f).outstanding = s.outstanding := rfl

@[simp] theorem Store.setRoles_roles (f : Roles → Roles) (s : Store) : (s.setRoles f).roles = f s.roles := rfl

/-! ### Events and the queue of commands -/

theorem State.event_eq (f : Station → Station) (s : State) : s.event f = .next { s with station := f s.station } := rfl

theorem step_nil (s : State) (h : s.pending = []) : step s = .next s := by
  unfold step; rw [h]

theorem step_cons (s : State) (c : Instr) (rest : List Instr) (h : s.pending = c :: rest) :
    step s = exec c { s with pending := rest } := by
  unfold step; rw [h]

theorem withFetchWord_eq (s : State) (nbits w : Nat) : s.withFetchWord nbits w = s := rfl

end Sys2Proof.Machine
end

