-- ==== Sys2Proof/Laws/Table.lean ====
section
/-! SUPPORT. What a keyed table holds after each of its operations, and what the directory holds after each of the store's. -/

namespace Sys2Proof.Machine

theorem Table.find_put_same {α : Type} (key : α → Strip) (e : α) (l : List α) :
    Table.find key (key e) (Table.put key e l) = some e := by
  induction l with
  | nil => simp [Table.put, Table.find]
  | cons f l ih =>
    unfold Table.put
    split
    · simp [Table.find]
    · next h =>
      split
      · simp [Table.find]
      · simp [Table.find, h, ih]

theorem Table.find_put_other {α : Type} (key : α → Strip) (e : α) {k : Strip} (h : key e ≠ k) (l : List α) :
    Table.find key k (Table.put key e l) = Table.find key k l := by
  induction l with
  | nil => simp [Table.put, Table.find, h]
  | cons f l ih =>
    unfold Table.put
    split
    · next hf => simp [Table.find, hf, h]
    · split
      · simp [Table.find, h]
      · simp [Table.find, ih]

theorem Table.find_erase_same {α : Type} (key : α → Strip) (k : Strip) (l : List α) :
    Table.find key k (Table.erase key k l) = none := by
  unfold Table.erase
  induction l with
  | nil => simp [Table.find]
  | cons f l ih =>
    by_cases h : key f = k <;> simp [Table.find, h, ih]

theorem Table.find_erase_other {α : Type} (key : α → Strip) {k j : Strip} (h : j ≠ k) (l : List α) :
    Table.find key k (Table.erase key j l) = Table.find key k l := by
  unfold Table.erase
  induction l with
  | nil => simp [Table.find]
  | cons f l ih =>
    by_cases hf : key f = j
    · simp [Table.find, hf, ih, h]
    · by_cases hk : key f = k
      · simp [Table.find, hk, Ne.symm h]
      · simp [Table.find, hf, hk, ih]

/-- A member's key is found. -/
theorem Table.find_of_mem {α : Type} (key : α → Strip) {e : α} {l : List α} (h : e ∈ l) :
    (Table.find key (key e) l).isSome := by
  induction l with
  | nil => exact absurd h (by simp)
  | cons f l ih =>
    unfold Table.find
    split
    · rfl
    · next hf =>
      rcases List.mem_cons.mp h with rfl | hm
      · exact absurd rfl hf
      · exact ih hm

/-! ### The directory -/

theorem Store.findPacked_setPacked_same (e : Packed) (s : Store) :
    (s.setPacked e).findPacked e.id = some { e with pins := s.roles.pins e.id } :=
  Table.find_put_same Packed.id { e with pins := s.roles.pins e.id } s.packed

theorem Store.findPacked_setPacked_other {e : Packed} {k : Strip} (h : e.id ≠ k) (s : Store) :
    (s.setPacked e).findPacked k = s.findPacked k :=
  Table.find_put_other Packed.id { e with pins := s.roles.pins e.id } h s.packed

@[simp] theorem Store.findOpened_setPacked (e : Packed) (k : Strip) (s : Store) :
    (s.setPacked e).findOpened k = s.findOpened k := rfl

theorem Store.findOpened_setOpened_same (e : Opened) (s : Store) :
    (s.setOpened e).findOpened e.id = some { e with pins := s.roles.pins e.id } :=
  Table.find_put_same Opened.id { e with pins := s.roles.pins e.id } s.opened

theorem Store.findOpened_setOpened_other {e : Opened} {k : Strip} (h : e.id ≠ k) (s : Store) :
    (s.setOpened e).findOpened k = s.findOpened k :=
  Table.find_put_other Opened.id { e with pins := s.roles.pins e.id } h s.opened

@[simp] theorem Store.findPacked_setOpened (e : Opened) (k : Strip) (s : Store) :
    (s.setOpened e).findPacked k = s.findPacked k := rfl

theorem Store.findOpened_dropOpened_same (k : Strip) (s : Store) : (s.dropOpened k).findOpened k = none :=
  Table.find_erase_same Opened.id k s.opened

theorem Store.findOpened_dropOpened_other {k j : Strip} (h : j ≠ k) (s : Store) :
    (s.dropOpened j).findOpened k = s.findOpened k :=
  Table.find_erase_other Opened.id h s.opened

@[simp] theorem Store.findPacked_dropOpened (k j : Strip) (s : Store) :
    (s.dropOpened j).findPacked k = s.findPacked k := rfl

theorem Store.packedOrNew_id (k : Strip) (s : Store) : (s.packedOrNew k).id = k := by
  unfold Store.packedOrNew
  cases h : s.findPacked k with
  | none => rfl
  | some e =>
    have hk : ∀ l : List Packed, Table.find Packed.id k l = some e → e.id = k := by
      intro l
      induction l with
      | nil => intro hn; exact absurd hn (by simp [Table.find])
      | cons f l ih =>
        intro hf
        unfold Table.find at hf
        split at hf
        · next hk => rw [← Option.some.inj hf]; exact hk
        · exact ih hf
    exact hk _ h

/-- The earliest arrival is one of the entries. -/
theorem earliestArrived_mem {l : List Packed} {e : Packed} (h : earliestArrived l = some e) : e ∈ l := by
  induction l generalizing e with
  | nil => exact absurd h (by simp [earliestArrived])
  | cons f l ih =>
    unfold earliestArrived at h
    split at h
    · rw [← Option.some.inj h]; exact List.mem_cons_self
    · next g hg =>
      split at h
      · rw [← Option.some.inj h]; exact List.mem_cons_of_mem _ (ih hg)
      · rw [← Option.some.inj h]; exact List.mem_cons_self

end Sys2Proof.Machine
end

