-- ==== Sys2Proof/Laws/Worked.lean ====
section
/-! SUPPORT. The end of an event touches the queue's tail, the store's directory and Want records, the Decode Unit and the back
surface, and nothing else: `settle_worked`, from one lemma for each operation it is made of. -/

namespace Sys2Proof.Machine

/-! ### The relation -/

theorem Link.grows_refl (l : Link) : Link.Grows l l := ⟨rfl, ⟨[], by simp, by simp⟩, id⟩

theorem Link.grows_trans {l m n : Link} (h : Link.Grows l m) (k : Link.Grows m n) : Link.Grows l n := by
  refine ⟨?_, ?_, fun o => k.2.2 (h.2.2 o)⟩
  · have hk := k.1
    rw [h.1] at hk
    exact hk
  · obtain ⟨a, ha, ea⟩ := h.2.1
    obtain ⟨c, hc, ec⟩ := k.2.1
    refine ⟨a ++ c, by rw [hc, ha, List.append_assoc], fun x hx => ?_⟩
    exact (List.mem_append.mp hx).elim (ea x) (ec x)

/-- The queue as it was begins the queue as it is. -/
theorem Link.Grows.isPrefix {l m : Link} (h : Link.Grows l m) : l.queue <+: m.queue := by
  obtain ⟨a, ha, _⟩ := h.2.1
  exact ⟨a, ha.symm⟩

theorem Packed.evicted_evicted {s t : Store} (h : t.roles = s.roles) (e : Packed) :
    Packed.evicted t (Packed.evicted s e) = Packed.evicted s e := by
  unfold Packed.evicted
  rw [h]

theorem Store.keeps_refl (s : Store) : Store.Keeps s s := ⟨fun _ => Or.inl rfl, fun _ _ h => Or.inl h⟩

theorem Store.worked_roles {s t : Store} (h : Store.Worked s t) : t.roles = s.roles := by
  rw [h.1]

theorem Store.keeps_trans {s t u : Store} (hr : t.roles = s.roles) (h : Store.Keeps s t) (k : Store.Keeps t u) :
    Store.Keeps s u := by
  constructor
  · intro j
    rcases k.1 j with hu | hu <;> rcases h.1 j with ht | ht
    · exact Or.inl (hu.trans ht)
    · exact Or.inr (hu.trans ht)
    · refine Or.inr ?_
      rw [hu, ht]
      cases s.findPacked j with
      | none => rfl
      | some e =>
        simp only [Option.map_some]
        unfold Packed.evicted
        rw [hr]
    · refine Or.inr ?_
      rw [hu, ht]
      cases s.findPacked j with
      | none => rfl
      | some e =>
        simp only [Option.map_some]
        rw [Packed.evicted_evicted hr]
  · intro j e he
    rcases k.2 j e he with ht | hn
    · exact h.2 j e ht
    · exact Or.inr hn

/-- A change that leaves the directory, the roles, the assets and the placements alone. -/
theorem Store.worked_of_same {s t : Store}
    (h : t = { s with freeUnits := t.freeUnits, roomWait := t.roomWait, exhausted := t.exhausted, wants := t.wants
                      outstanding := t.outstanding })
    (hx : s.exhausted = true → t.exhausted = true) : Store.Worked s t := by
  have hp : t.packed = s.packed := by rw [h]
  have ho : t.opened = s.opened := by rw [h]
  refine ⟨?_, ⟨fun k => Or.inl ?_, fun k e he => Or.inl ?_⟩, hx⟩
  · rw [hp, ho]
    exact h
  · unfold Store.findPacked
    rw [hp]
  · unfold Store.findOpened at he ⊢
    rw [← ho]
    exact he

theorem Store.worked_refl (s : Store) : Store.Worked s s := ⟨rfl, Store.keeps_refl s, id⟩

theorem Store.worked_trans {s t u : Store} (h : Store.Worked s t) (k : Store.Worked t u) : Store.Worked s u := by
  refine ⟨?_, Store.keeps_trans (Store.worked_roles h) h.2.1 k.2.1, fun x => k.2.2 (h.2.2 x)⟩
  have hk := k.1
  rw [h.1] at hk
  exact hk

theorem Compositor.worked_refl (c : Compositor) : Compositor.Worked c c := rfl

theorem Compositor.worked_trans {c d e : Compositor} (h : Compositor.Worked c d) (k : Compositor.Worked d e) :
    Compositor.Worked c e := by
  unfold Compositor.Worked at *
  rw [h] at k
  exact k

theorem Blocks.worked_refl (b : Blocks) : Blocks.Worked b b :=
  ⟨Link.grows_refl _, Store.worked_refl _, Compositor.worked_refl _⟩

theorem Blocks.worked_trans {b c d : Blocks} (h : Blocks.Worked b c) (k : Blocks.Worked c d) : Blocks.Worked b d :=
  ⟨Link.grows_trans h.1 k.1, Store.worked_trans h.2.1 k.2.1, Compositor.worked_trans h.2.2 k.2.2⟩

/-! ### The queue -/

theorem Link.grows_enqueue {m : Message} (h : m.endsEvent = true) (l : Link) : Link.Grows l (l.enqueue m) := by
  unfold Link.enqueue
  split
  · exact Link.grows_refl l
  · split
    · exact ⟨rfl, ⟨[], by simp, by simp⟩, fun _ => rfl⟩
    · exact ⟨rfl, ⟨[m], rfl, by simp [h]⟩, id⟩

theorem Blocks.worked_enqueue {m : Message} (h : m.endsEvent = true) (b : Blocks) : Blocks.Worked b (b.enqueue m) :=
  ⟨Link.grows_enqueue h b.link, Store.worked_refl _, rfl⟩

theorem Blocks.worked_withDecode (f : Decode → Decode) (b : Blocks) : Blocks.Worked b (b.withDecode f) :=
  ⟨Link.grows_refl _, Store.worked_refl _, rfl⟩

theorem Blocks.worked_withStore {f : Store → Store} {b : Blocks} (h : Store.Worked b.store (f b.store)) :
    Blocks.Worked b (b.withStore f) := ⟨Link.grows_refl _, h, rfl⟩

/-! ### The store -/

theorem Store.worked_setOpened {e : Opened} (s : Store) (h : e.ready = false) : Store.Worked s (s.setOpened e) := by
  refine ⟨rfl, ⟨fun _ => Or.inl rfl, fun k d hd => ?_⟩, id⟩
  by_cases hk : e.id = k
  · subst hk
    rw [Store.findOpened_setOpened_same] at hd
    rw [← Option.some.inj hd]
    exact Or.inr h
  · rw [Store.findOpened_setOpened_other hk] at hd
    exact Or.inl hd

theorem Store.worked_dropOpened (k : Strip) (s : Store) : Store.Worked s (s.dropOpened k) := by
  refine ⟨rfl, ⟨fun _ => Or.inl rfl, fun j d hd => ?_⟩, id⟩
  by_cases hk : k = j
  · subst hk
    rw [Store.findOpened_dropOpened_same] at hd
    exact absurd hd (by simp)
  · rw [Store.findOpened_dropOpened_other hk] at hd
    exact Or.inl hd

/-- A Packed entry that is there set Skipped. -/
theorem Store.worked_skip {k : Strip} {s : Store} (h : (s.findPacked k).isSome) : Store.Worked s (s.skip k) := by
  obtain ⟨e, he⟩ := Option.isSome_iff_exists.mp h
  have hn : s.packedOrNew k = e := by
    unfold Store.packedOrNew
    rw [he]
    rfl
  have hid : e.id = k := by
    rw [← hn]
    exact Store.packedOrNew_id k s
  refine ⟨rfl, ⟨fun j => ?_, fun _ _ hd => Or.inl hd⟩, id⟩
  unfold Store.skip
  rw [hn]
  by_cases hk : e.id = j
  · refine Or.inr ?_
    have hf := Store.findPacked_setPacked_same { e with state := .skipped, units := 0, data := [], checkWord := 0 } s
    rw [← hk]
    have he' : s.findPacked e.id = some e := by rw [hid]; exact he
    rw [he']
    exact hf
  · exact Or.inl (Store.findPacked_setPacked_other (e := { e with state := .skipped, units := 0, data := [], checkWord := 0 }) hk s)

theorem Store.worked_withWants (f : List WantRange → List WantRange) (s : Store) : Store.Worked s (s.withWants f) :=
  Store.worked_of_same rfl id

theorem Store.worked_waitForRoom (k : Strip) (inOpen : Bool) (s : Store) : Store.Worked s (s.waitForRoom k inOpen) := by
  unfold Store.waitForRoom
  split
  · exact Store.worked_refl s
  · exact Store.worked_of_same rfl id

theorem Store.worked_wantBatch (q : Batch) (s : Store) : Store.Worked s (s.wantBatch q) := by
  unfold Store.wantBatch
  split
  · exact Store.worked_withWants _ _
  · exact Store.worked_withWants _ _

/-! ### Room -/

theorem Blocks.worked_evictPacked {k : Strip} {b : Blocks} (h : (b.store.findPacked k).isSome) :
    Blocks.Worked b (b.evictPacked k) := by
  have hs : Blocks.Worked b (b.withStore (Store.skip k)) := Blocks.worked_withStore (Store.worked_skip h)
  unfold Blocks.evictPacked
  dsimp only
  split
  · exact Blocks.worked_trans hs (Blocks.worked_trans (Blocks.worked_withDecode _ _)
      (Blocks.worked_withStore (Store.worked_withWants _ _)))
  · exact Blocks.worked_trans hs (Blocks.worked_withDecode _ _)

theorem Blocks.worked_evictNext {working : Option Strip} {b c : Blocks} (h : b.evictNext working = some c) :
    Blocks.Worked b c := by
  unfold Blocks.evictNext at h
  split at h
  · obtain rfl := Option.some.inj h
    exact Blocks.worked_withStore (Store.worked_dropOpened _ _)
  · split at h
    · obtain rfl := Option.some.inj h
      exact Blocks.worked_evictPacked (Table.find_of_mem Packed.id (List.mem_of_mem_filter (earliestArrived_mem ‹_›)))
    · exact absurd h (by simp)

theorem Blocks.worked_evictUntil (working : Option Strip) (u n : Nat) (b : Blocks) :
    Blocks.Worked b (b.evictUntil working u n) := by
  induction n generalizing b with
  | zero => exact Blocks.worked_refl b
  | succ n ih =>
    unfold Blocks.evictUntil
    split
    · exact Blocks.worked_refl b
    · split
      · exact Blocks.worked_refl b
      · next c h => exact Blocks.worked_trans (Blocks.worked_evictNext h) (ih c)

theorem Blocks.worked_findRoom {working : Option Strip} {u : Nat} {b c : Blocks} (h : b.findRoom working u = some c) :
    Blocks.Worked b c := by
  unfold Blocks.findRoom at h
  split at h
  · obtain rfl := Option.some.inj h
    exact Blocks.worked_refl b
  · split at h
    · exact absurd h (by simp)
    · obtain rfl := Option.some.inj h
      exact Blocks.worked_evictUntil _ _ _ _

theorem Blocks.worked_refuseRoom (k : Strip) (inOpen : Bool) (u : Nat) (b : Blocks) :
    Blocks.Worked b (b.refuseRoom k inOpen u) := by
  unfold Blocks.refuseRoom
  dsimp only
  have h : Blocks.Worked b (b.withStore (Store.waitForRoom k inOpen)) :=
    Blocks.worked_withStore (Store.worked_waitForRoom k inOpen b.store)
  split
  · exact h
  · exact Blocks.worked_trans h (Blocks.worked_trans (Blocks.worked_enqueue rfl _) (Blocks.worked_withStore
      (f := fun s => { s with exhausted := true }) (Store.worked_of_same rfl (fun _ => rfl))))

/-! ### Jobs -/

theorem Blocks.worked_startPage (j : PageJob) (b : Blocks) : Blocks.Worked b (b.startPage j) := by
  unfold Blocks.startPage
  split
  · exact Blocks.worked_refl b
  · split
    · exact Blocks.worked_refuseRoom _ _ _ _
    · next c h =>
      exact Blocks.worked_trans (Blocks.worked_findRoom h)
        (Blocks.worked_trans (Blocks.worked_withStore (Store.worked_setOpened _ rfl)) (Blocks.worked_withDecode _ _))

theorem Blocks.worked_beginBatch (q : Batch) (b : Blocks) : Blocks.Worked b (b.beginBatch q) := by
  unfold Blocks.beginBatch
  split
  · exact Blocks.worked_refl b
  · exact ⟨Link.grows_refl _, Store.worked_refl _, rfl⟩

theorem Blocks.worked_writeBack (q : Batch) (i : Nat) (rows : SurfaceRows) (b : Blocks) :
    Blocks.Worked b (b.writeBack q i rows) := by
  unfold Blocks.writeBack
  split
  · exact Blocks.worked_refl b
  · exact ⟨Link.grows_refl _, Store.worked_refl _, rfl⟩

theorem Blocks.worked_completeBatch (q : Batch) (b : Blocks) : Blocks.Worked b (b.completeBatch q) := by
  unfold Blocks.completeBatch
  dsimp only
  split
  · exact ⟨Link.grows_refl _, Store.worked_refl _, rfl⟩
  · exact ⟨Link.grows_refl _, Store.worked_refl _, rfl⟩

theorem Blocks.worked_advanceBatch (sc : Scene) (n : Nat) (q : Batch) (b : Blocks) :
    Blocks.Worked b (b.advanceBatch sc n q) := by
  induction n generalizing q b with
  | zero => exact Blocks.worked_withDecode _ _
  | succ n ih =>
    unfold Blocks.advanceBatch
    split
    · split
      · exact Blocks.worked_trans (Blocks.worked_beginBatch q b) (Blocks.worked_completeBatch q _)
      · exact Blocks.worked_withDecode _ _
    · dsimp only
      split
      · exact Blocks.worked_trans (Blocks.worked_beginBatch q b) (Blocks.worked_withDecode _ _)
      · have h := Blocks.worked_trans (Blocks.worked_beginBatch q b)
          (Blocks.worked_writeBack q (‹Strip›).index .filled (b.beginBatch q))
        split
        · exact Blocks.worked_trans h (Blocks.worked_withDecode _ _)
        · exact Blocks.worked_trans h (ih _ _)

theorem Blocks.worked_takeBatch (sc : Scene) (q : Batch) (b : Blocks) : Blocks.Worked b (b.takeBatch sc q) :=
  Blocks.worked_advanceBatch sc _ q b

theorem Blocks.worked_takeCheck (c : CheckJob) (b : Blocks) : Blocks.Worked b (b.takeCheck c) := by
  unfold Blocks.takeCheck
  split
  · exact Blocks.worked_enqueue rfl _
  · exact Blocks.worked_withDecode _ _

theorem Blocks.worked_chooseOne {sc : Scene} {b c : Blocks} (h : b.chooseOne sc = some c) : Blocks.Worked b c := by
  unfold Blocks.chooseOne at h
  split at h
  · exact absurd h (by simp)
  · split at h
    · obtain rfl := Option.some.inj h
      exact Blocks.worked_trans (Blocks.worked_withDecode _ _) (Blocks.worked_startPage _ _)
    · split at h
      · obtain rfl := Option.some.inj h
        exact Blocks.worked_trans (Blocks.worked_withDecode _ _) (Blocks.worked_takeBatch _ _ _)
      · split at h
        · split at h
          · obtain rfl := Option.some.inj h
            exact Blocks.worked_trans (Blocks.worked_withDecode _ _) (Blocks.worked_takeBatch _ _ _)
          · split at h
            · obtain rfl := Option.some.inj h
              exact Blocks.worked_trans (Blocks.worked_withDecode _ _) (Blocks.worked_takeCheck _ _)
            · exact absurd h (by simp)
        · split at h
          · obtain rfl := Option.some.inj h
            exact Blocks.worked_trans (Blocks.worked_withDecode _ _) (Blocks.worked_takeCheck _ _)
          · exact absurd h (by simp)

theorem Blocks.worked_chooseJobs (sc : Scene) (n : Nat) (b : Blocks) : Blocks.Worked b (b.chooseJobs sc n) := by
  induction n generalizing b with
  | zero => exact Blocks.worked_refl b
  | succ n ih =>
    unfold Blocks.chooseJobs
    split
    · exact Blocks.worked_refl b
    · next c h => exact Blocks.worked_trans (Blocks.worked_chooseOne h) (ih c)

theorem Blocks.worked_refill (change : Half) (b : Blocks) : Blocks.Worked b (b.refill change) := by
  unfold Blocks.refill
  split
  · dsimp only
    split
    · exact Blocks.worked_trans (Blocks.worked_withDecode _ _) (Blocks.worked_withDecode _ _)
    · exact Blocks.worked_withDecode _ _
  · exact Blocks.worked_refl b

theorem Blocks.worked_retryWait (g : Geometry) (change : Half) (b : Blocks) (w : RoomWait) :
    Blocks.Worked b (b.retryWait g change w) := by
  unfold Blocks.retryWait
  split
  · exact Blocks.worked_refl b
  · split
    · split
      · exact Blocks.worked_withStore (Store.worked_withWants _ _)
      · split
        · exact Blocks.worked_withDecode _ _
        · exact Blocks.worked_refl b
    · split
      · exact Blocks.worked_withStore (Store.worked_withWants _ _)
      · exact Blocks.worked_refl b

theorem Blocks.worked_retryAll (g : Geometry) (change : Half) (l : List RoomWait) (b : Blocks) :
    Blocks.Worked b (l.foldl (Blocks.retryWait g change) b) := by
  induction l generalizing b with
  | nil => exact Blocks.worked_refl b
  | cons w l ih => exact Blocks.worked_trans (Blocks.worked_retryWait g change b w) (ih _)

theorem Blocks.worked_retryRoom (g : Geometry) (change : Half) (b before : Blocks) :
    Blocks.Worked b (b.retryRoom g change before) := by
  unfold Blocks.retryRoom
  split
  · exact Blocks.worked_trans (Blocks.worked_withStore (f := fun s => { s with roomWait := [] })
      (Store.worked_of_same rfl id))
      (Blocks.worked_retryAll g change _ _)
  · exact Blocks.worked_refl b

theorem Blocks.worked_prefetch (g : Geometry) (sc : Scene) (b : Blocks) : Blocks.Worked b (b.prefetch g sc) := by
  unfold Blocks.prefetch
  split
  · exact Blocks.worked_refl b
  · split
    · exact Blocks.worked_refl b
    · exact Blocks.worked_trans (Blocks.worked_withDecode _ _) (Blocks.worked_withStore (Store.worked_wantBatch _ _))

/-! ### Readiness and Wants -/

theorem Blocks.worked_pageReadiness (sc : Scene) (b : Blocks) : Blocks.Worked b (b.pageReadiness sc) := by
  unfold Blocks.pageReadiness
  split
  · exact Blocks.worked_refl b
  · split
    · exact Blocks.worked_trans (Blocks.worked_enqueue rfl _) (Blocks.worked_withDecode _ _)
    · exact Blocks.worked_refl b

theorem Blocks.worked_slideReadiness (sc : Scene) (b : Blocks) : Blocks.Worked b (b.slideReadiness sc) := by
  unfold Blocks.slideReadiness
  split
  · exact Blocks.worked_refl b
  · split
    · exact Blocks.worked_trans (Blocks.worked_enqueue rfl _) (Blocks.worked_withDecode _ _)
    · exact Blocks.worked_refl b

theorem Blocks.worked_queueWant (b : Blocks) : Blocks.Worked b b.queueWant := by
  unfold Blocks.queueWant
  split
  · exact Blocks.worked_refl b
  · split
    · exact Blocks.worked_refl b
    · next w l _ =>
      exact Blocks.worked_trans (Blocks.worked_enqueue rfl _) (Blocks.worked_withStore
        (f := fun s => { s with wants := l, outstanding := Stations.insert w.asset s.outstanding })
        (Store.worked_of_same rfl id))

theorem Blocks.worked_queueWants (b : Blocks) : Blocks.Worked b b.queueWants :=
  Blocks.worked_trans (Blocks.worked_queueWant _) (Blocks.worked_trans (Blocks.worked_queueWant _)
    (Blocks.worked_trans (Blocks.worked_queueWant _) (Blocks.worked_queueWant _)))

/-- Everything the end of an event can do to the blocks. -/
theorem Blocks.settle_worked (g : Geometry) (scBefore sc : Scene) (before b : Blocks) :
    Blocks.Worked b (Blocks.settle g scBefore sc before b) := by
  unfold Blocks.settle
  dsimp only
  have h := Blocks.worked_trans (Blocks.worked_retryRoom g sc.pageChange b before)
    (Blocks.worked_trans (Blocks.worked_chooseJobs sc chooseBound _)
      (Blocks.worked_trans (Blocks.worked_refill sc.pageChange _) (Blocks.worked_chooseJobs sc chooseBound _)))
  refine Blocks.worked_trans h ?_
  refine Blocks.worked_trans ?_ (Blocks.worked_trans (Blocks.worked_pageReadiness sc _)
    (Blocks.worked_trans (Blocks.worked_slideReadiness sc _) (Blocks.worked_queueWants _)))
  split
  · exact Blocks.worked_trans (Blocks.worked_prefetch g sc _) (Blocks.worked_chooseJobs sc chooseBound _)
  · exact Blocks.worked_refl _

/-! ### The station -/

theorem Station.settle_eq (st before : Station) :
    ∃ b, st.settle before = { st with blocks := b } ∧ Blocks.Worked st.blocks b := by
  unfold Station.settle
  split
  · exact ⟨_, rfl, Blocks.settle_worked _ _ _ _ _⟩
  · exact ⟨st.blocks, rfl, Blocks.worked_refl _⟩

@[simp] theorem Station.settle_scene (st before : Station) : (st.settle before).scene = st.scene := by
  unfold Station.settle; split <;> rfl

@[simp] theorem Station.settle_timers (st before : Station) : (st.settle before).timers = st.timers := by
  unfold Station.settle; split <;> rfl

@[simp] theorem Station.settle_mode (st before : Station) : (st.settle before).mode = st.mode := by
  unfold Station.settle; split <;> rfl

@[simp] theorem Station.settle_number (st before : Station) : (st.settle before).number = st.number := by
  unfold Station.settle; split <;> rfl

@[simp] theorem Station.settle_layout (st before : Station) : (st.settle before).layout = st.layout := by
  unfold Station.settle; split <;> rfl

@[simp] theorem Station.settle_lineAsserted (st before : Station) :
    (st.settle before).lineAsserted = st.lineAsserted := by
  unfold Station.settle; split <;> rfl

end Sys2Proof.Machine
end

