-- ==== Sys2Proof/Laws/Close.lean ====
section
/-! SUPPORT. What a command does to the machine, by the way it comes in: the close of a message at a Running station
(`close_becomes`), at a station that only frames, and at one that takes no message. -/

namespace Sys2Proof.Machine

/-- A station that takes the message that closes frames messages. -/
theorem Station.framing_of_listens {st : Station} (h : st.Listens) : st.framing = true := by
  unfold Station.framing
  rw [h.1, h.2.1]
  simp [Mode.frames, h.2.2]

/-- The close of a message at a station that frames: its own head settled, the rule, and the end of the event. -/
theorem Station.close_framing {src : Nat} {own : Option Message} {rule : Station → Station} {st : Station}
    (h : st.framing = true) :
    st.close src own rule
      = (if src < 6 then rule { st with blocks := st.closed src own } else { st with blocks := st.closed src own }).settle st := by
  unfold Station.close
  rw [if_pos h]
  rfl

/-- The close of a message at a station that does not frame changes nothing. -/
theorem Station.close_deaf {src : Nat} {own : Option Message} {rule : Station → Station} {st : Station}
    (h : st.framing = false) : st.close src own rule = st := by
  unfold Station.close
  rw [if_neg (by simp [h])]

/-- A message command at a station that listens: when its rule leaves this scene, these timers and these blocks, so does the
command, but for the end of the event. -/
theorem State.close_becomes {s : State} {src : Nat} {own : Option Message} {rule : Station → Station}
    (h : s.station.Listens) (hs : src < 6) {sc : Scene} {ti : Timers} {b : Blocks}
    (hr : rule { s.station with blocks := s.station.closed src own }
      = { s.station with scene := sc, timers := ti, blocks := b }) :
    ∃ t, s.event (Station.close src own rule) = .next t ∧ s.Becomes sc ti b t := by
  refine ⟨_, rfl, ?_⟩
  rw [Station.close_framing (Station.framing_of_listens h), if_pos hs, hr]
  obtain ⟨c, hc, hw⟩ := Station.settle_eq { s.station with scene := sc, timers := ti, blocks := b } s.station
  rw [hc]
  exact ⟨rfl, hw⟩

/-- A message of a source that belongs to no station, or one whose rule changes nothing, at a station that frames. -/
theorem State.close_passes {s : State} {src : Nat} {own : Option Message} {rule : Station → Station}
    (h : s.station.framing = true) (hr : src < 6 → ∀ st, rule st = st) :
    ∃ t, s.event (Station.close src own rule) = .next t
      ∧ s.Becomes s.station.scene s.station.timers (s.station.closed src own) t := by
  refine ⟨_, rfl, ?_⟩
  rw [Station.close_framing h]
  have hst : (if src < 6 then rule { s.station with blocks := s.station.closed src own }
      else { s.station with blocks := s.station.closed src own }) = { s.station with blocks := s.station.closed src own } := by
    split
    · next hlt => exact hr hlt _
    · rfl
  rw [hst]
  obtain ⟨c, hc, hw⟩ := Station.settle_eq { s.station with blocks := s.station.closed src own } s.station
  rw [hc]
  exact ⟨rfl, hw⟩

theorem Station.whenRunning_of {f : Station → Station} {st : Station} (h : st.mode = .running) :
    st.whenRunning f = f st := if_pos h

/-- The link at a close where no own message closes: Idle, nothing being received. -/
theorem Link.closeMessage_none (mine : Bool) (l : Link) :
    l.closeMessage mine none = { l with rx := .idle, errorMark := false, rxBits := [], sending := .none } := by
  unfold Link.closeMessage Link.ownHead
  simp

/-- The station's own head, sent whole and accepted, leaves the queue, however the wire spelled its absent fields. -/
theorem Link.closeMessage_own {l : Link} {m : Message} (hs : l.sending = .whole) :
    l.closeMessage true (some m)
      = { l with rx := .idle, errorMark := false, rxBits := [], sending := .none, queue := l.queue.tail, objections := 0 } := by
  unfold Link.closeMessage Link.ownHead
  simp [hs]

end Sys2Proof.Machine
end

