-- ==== Sys2Proof/Laws/Settle.lean ====
section
/-! SUPPORT. What the end of an event does when little is left to do: each part of `Blocks.settle` that finds no work leaves the
blocks as they are, and `settle_busy` says what is left of it while a job is in progress. -/

namespace Sys2Proof.Machine

/-- With a job in progress none is chosen. -/
theorem Blocks.chooseJobs_busy {sc : Scene} {n : Nat} {b : Blocks} {r : Running} (h : b.decode.running = some r) :
    b.chooseJobs sc n = b := by
  cases n with
  | zero => rfl
  | succ n =>
    have hc : b.chooseOne sc = none := by
      unfold Blocks.chooseOne
      rw [h]
    unfold Blocks.chooseJobs
    rw [hc]

/-- With no job queued and no batch suspended none is chosen. -/
theorem Blocks.chooseJobs_empty {sc : Scene} {n : Nat} {b : Blocks} (hp : b.decode.pageJobs = [])
    (hs : b.decode.suspended = none) (hb : b.decode.batch = none) (hc : b.decode.check = none) : b.chooseJobs sc n = b := by
  cases n with
  | zero => rfl
  | succ n =>
    have h : b.chooseOne sc = none := by
      unfold Blocks.chooseOne
      rw [hp, hs, hb, hc]
      cases b.decode.running <;> rfl
    unfold Blocks.chooseJobs
    rw [h]

/-- One choice, and then no more, once it leaves a job in progress. -/
theorem Blocks.chooseJobs_one {sc : Scene} {n : Nat} {b c : Blocks} {r : Running} (h : b.chooseOne sc = some c)
    (hr : c.decode.running = some r) : b.chooseJobs sc (n + 1) = c := by
  unfold Blocks.chooseJobs
  rw [h]
  exact Blocks.chooseJobs_busy hr

theorem Blocks.refill_clear {change : Half} {b : Blocks} (h : b.decode.deferred = false) : b.refill change = b := by
  unfold Blocks.refill
  rw [if_neg (by simp [h])]

theorem Blocks.retryRoom_empty {g : Geometry} {change : Half} {b before : Blocks} (h : b.store.roomWait = []) :
    b.retryRoom g change before = b := by
  unfold Blocks.retryRoom
  split
  · rw [h]
    have hb : b.withStore (fun s => { s with roomWait := [] }) = b := by
      cases b with
      | mk link store decode bc =>
        cases store
        simp only at h
        subst h
        rfl
    rw [hb]
    rfl
  · rfl

/-- An event that changes nothing a prefetch depends on brings no prefetch test. -/
theorem prefetchDue_same {sc : Scene} {before b : Blocks} (hc : b.bc = before.bc)
    (hb : before.decode.hasBatch = true → b.decode.hasBatch = true) : prefetchDue sc sc before b = false := by
  unfold prefetchDue
  rw [hc]
  cases hh : before.decode.hasBatch
  · simp
  · simp [hb hh]

theorem Blocks.pageReadiness_none {sc : Scene} {b : Blocks} (h : sc.pendingPage = none) : b.pageReadiness sc = b := by
  unfold Blocks.pageReadiness
  rw [h]

theorem Blocks.slideReadiness_none {sc : Scene} {b : Blocks} (h : sc.pendingIndex = none) : b.slideReadiness sc = b := by
  unfold Blocks.slideReadiness
  rw [h]

/-- A strip is waited for by no range, or every asset with a range has a Want outstanding: no Want is queued. -/
theorem Blocks.queueWant_none {b : Blocks} (h : takeWant b.store.outstanding b.store.wants = none) : b.queueWant = b := by
  unfold Blocks.queueWant
  split
  · rfl
  · rw [h]

theorem Blocks.queueWants_none {b : Blocks} (h : takeWant b.store.outstanding b.store.wants = none) : b.queueWants = b := by
  unfold Blocks.queueWants
  rw [Blocks.queueWant_none h, Blocks.queueWant_none h, Blocks.queueWant_none h, Blocks.queueWant_none h]

/-- No Want is queued into a queue of four messages or more, nor in Link Silent (R120). -/
theorem Blocks.queueWants_full {b : Blocks} (h : b.link.silent = true ∨ 4 ≤ b.link.queue.length) : b.queueWants = b := by
  have hq : b.queueWant = b := by
    unfold Blocks.queueWant
    rw [if_pos]
    rcases h with h | h
    · simp [h]
    · simp [Config.wantQueueRoom, h]
  unfold Blocks.queueWants
  rw [hq, hq, hq, hq]

/-- The end of an event that leaves a job in progress, with the room-wait list empty, no offer deferred and no prefetch test
due: readiness and Wants are left. -/
theorem Blocks.settle_busy {g : Geometry} {scBefore sc : Scene} {before b : Blocks} {r : Running}
    (hr : b.decode.running = some r) (hw : b.store.roomWait = []) (hd : b.decode.deferred = false)
    (hp : prefetchDue scBefore sc before b = false) :
    Blocks.settle g scBefore sc before b = ((b.pageReadiness sc).slideReadiness sc).queueWants := by
  unfold Blocks.settle
  dsimp only
  rw [Blocks.retryRoom_empty hw, Blocks.chooseJobs_busy hr, Blocks.refill_clear hd, Blocks.chooseJobs_busy hr, hp]
  rfl

/-- The same for an event that leaves no job at all. -/
theorem Blocks.settle_idle {g : Geometry} {scBefore sc : Scene} {before b : Blocks} (hj : b.decode.pageJobs = [])
    (hs : b.decode.suspended = none) (hb : b.decode.batch = none) (hc : b.decode.check = none)
    (hw : b.store.roomWait = []) (hd : b.decode.deferred = false) (hp : prefetchDue scBefore sc before b = false) :
    Blocks.settle g scBefore sc before b = ((b.pageReadiness sc).slideReadiness sc).queueWants := by
  unfold Blocks.settle
  dsimp only
  rw [Blocks.retryRoom_empty hw, Blocks.chooseJobs_empty hj hs hb hc, Blocks.refill_clear hd,
    Blocks.chooseJobs_empty hj hs hb hc, hp]
  rfl

/-- The same for an event whose first choice leaves a job in progress. -/
theorem Blocks.settle_choose {g : Geometry} {scBefore sc : Scene} {before b c : Blocks} {r : Running}
    (h : b.chooseOne sc = some c) (hr : c.decode.running = some r) (hw : b.store.roomWait = [])
    (hd : c.decode.deferred = false) (hp : prefetchDue scBefore sc before c = false) :
    Blocks.settle g scBefore sc before b = ((c.pageReadiness sc).slideReadiness sc).queueWants := by
  have hone : b.chooseJobs sc chooseBound = c := Blocks.chooseJobs_one (n := 39) h hr
  unfold Blocks.settle
  dsimp only
  rw [Blocks.retryRoom_empty hw, hone, Blocks.refill_clear hd, Blocks.chooseJobs_busy hr, hp]
  rfl

/-- A prefetch changes the queued batch and the Want list alone; none is due in a Stopped show or while a change is pending. -/
theorem Blocks.prefetch_none {g : Geometry} {sc : Scene} {b : Blocks}
    (h : sc.show_ = .stopped ∨ sc.pendingIndex.isSome = true) : b.prefetch g sc = b := by
  unfold Blocks.prefetch Scene.prefetchContent
  rw [if_pos h]

/-- Nothing is left to do at the end of an event that resets the store and the Decode Unit and leaves no change pending. -/
theorem Blocks.settle_reset {g : Geometry} {scBefore sc : Scene} {before b : Blocks} (hs : b.store = Store.reset)
    (hd : b.decode = Decode.reset) (hw : sc.show_ = .stopped) (hp : sc.pendingPage = none) (hi : sc.pendingIndex = none) :
    Blocks.settle g scBefore sc before b = b := by
  have hc : b.chooseJobs sc chooseBound = b := Blocks.chooseJobs_empty (by rw [hd]; rfl) (by rw [hd]; rfl) (by rw [hd]; rfl)
    (by rw [hd]; rfl)
  unfold Blocks.settle
  dsimp only
  rw [Blocks.retryRoom_empty (by rw [hs]; rfl), hc, Blocks.refill_clear (by rw [hd]; rfl), hc,
    Blocks.prefetch_none (Or.inl hw), hc, ite_self, Blocks.pageReadiness_none hp, Blocks.slideReadiness_none hi,
    Blocks.queueWants_none (by rw [hs]; rfl)]

/-! ### What the end of an event leaves of the Decode Unit -/

/-- Nothing that ends an event but the choice of a job writes the job in progress or the Check that is queued. -/
def Decode.KeepsWork (d e : Decode) : Prop := e.running = d.running ∧ e.check = d.check ∧ e.suspended = d.suspended

theorem Decode.keepsWork_refl (d : Decode) : d.KeepsWork d := ⟨rfl, rfl, rfl⟩

theorem Decode.keepsWork_trans {d e f : Decode} (h : d.KeepsWork e) (k : e.KeepsWork f) : d.KeepsWork f :=
  ⟨k.1.trans h.1, k.2.1.trans h.2.1, k.2.2.trans h.2.2⟩

theorem Decode.keepsWork_offer (change : Half) (k : Strip) (d : Decode) : d.KeepsWork (d.offer change k) := by
  unfold Decode.offer
  split
  · exact Decode.keepsWork_refl d
  · split <;> exact ⟨rfl, rfl, rfl⟩

theorem Decode.keepsWork_offerAll (change : Half) (l : List Strip) (d : Decode) : d.KeepsWork (d.offerAll change l) := by
  unfold Decode.offerAll
  induction l generalizing d with
  | nil => exact Decode.keepsWork_refl d
  | cons k l ih => exact Decode.keepsWork_trans (Decode.keepsWork_offer change k d) (ih _)

theorem Blocks.refill_keepsWork (change : Half) (b : Blocks) : b.decode.KeepsWork (b.refill change).decode := by
  unfold Blocks.refill
  split
  · dsimp only
    split <;> exact Decode.keepsWork_offerAll change b.refillable b.decode
  · exact Decode.keepsWork_refl _

theorem Blocks.retryWait_keepsWork (g : Geometry) (change : Half) (b : Blocks) (w : RoomWait) :
    b.decode.KeepsWork (b.retryWait g change w).decode := by
  unfold Blocks.retryWait
  split
  · exact Decode.keepsWork_refl _
  · split
    · split
      · exact Decode.keepsWork_refl _
      · split
        · exact Decode.keepsWork_offer change w.id b.decode
        · exact Decode.keepsWork_refl _
    · split <;> exact Decode.keepsWork_refl _

theorem Blocks.retryRoom_keepsWork (g : Geometry) (change : Half) (b before : Blocks) :
    b.decode.KeepsWork (b.retryRoom g change before).decode := by
  unfold Blocks.retryRoom
  split
  · have h : ∀ (l : List RoomWait) (c : Blocks), c.decode.KeepsWork (l.foldl (Blocks.retryWait g change) c).decode := by
      intro l
      induction l with
      | nil => exact fun c => Decode.keepsWork_refl _
      | cons w l ih => exact fun c => Decode.keepsWork_trans (Blocks.retryWait_keepsWork g change c w) (ih _)
    exact h _ _
  · exact Decode.keepsWork_refl _

theorem Blocks.prefetch_keepsWork (g : Geometry) (sc : Scene) (b : Blocks) : b.decode.KeepsWork (b.prefetch g sc).decode := by
  unfold Blocks.prefetch
  split
  · exact Decode.keepsWork_refl _
  · split
    · exact Decode.keepsWork_refl _
    · exact ⟨rfl, rfl, rfl⟩

theorem Blocks.pageReadiness_keepsWork (sc : Scene) (b : Blocks) : b.decode.KeepsWork (b.pageReadiness sc).decode := by
  unfold Blocks.pageReadiness
  split
  · exact Decode.keepsWork_refl _
  · split <;> exact ⟨rfl, rfl, rfl⟩

theorem Blocks.slideReadiness_keepsWork (sc : Scene) (b : Blocks) : b.decode.KeepsWork (b.slideReadiness sc).decode := by
  unfold Blocks.slideReadiness
  split
  · exact Decode.keepsWork_refl _
  · split <;> exact ⟨rfl, rfl, rfl⟩

theorem Blocks.queueWant_decode (b : Blocks) : b.queueWant.decode = b.decode := by
  unfold Blocks.queueWant
  split
  · rfl
  · split <;> rfl

theorem Blocks.queueWants_decode (b : Blocks) : b.queueWants.decode = b.decode := by
  unfold Blocks.queueWants
  rw [Blocks.queueWant_decode, Blocks.queueWant_decode, Blocks.queueWant_decode, Blocks.queueWant_decode]

/-- While a job is in progress the end of an event leaves it, a suspended batch and a queued Check where they are. -/
theorem Blocks.settle_keepsWork {g : Geometry} {scBefore sc : Scene} {before b : Blocks} {r : Running}
    (h : b.decode.running = some r) : b.decode.KeepsWork (Blocks.settle g scBefore sc before b).decode := by
  have h1 := Blocks.retryRoom_keepsWork g sc.pageChange b before
  have h2 := Decode.keepsWork_trans h1 (Blocks.refill_keepsWork sc.pageChange (b.retryRoom g sc.pageChange before))
  have h3 := Decode.keepsWork_trans h2 (Blocks.prefetch_keepsWork g sc ((b.retryRoom g sc.pageChange before).refill sc.pageChange))
  unfold Blocks.settle
  dsimp only
  rw [Blocks.chooseJobs_busy (h1.1.trans h), Blocks.chooseJobs_busy (h2.1.trans h), Blocks.chooseJobs_busy (h3.1.trans h),
    Blocks.queueWants_decode]
  refine Decode.keepsWork_trans ?_ (Decode.keepsWork_trans (Blocks.pageReadiness_keepsWork sc _)
    (Blocks.slideReadiness_keepsWork sc _))
  split
  · exact h3
  · exact h2

end Sys2Proof.Machine
end

