-- ==== Sys2Proof/Tests/Slice0.lean ====
section
/-! SUPPORT. Tests of the check of well-formed commands, of single commands on small states, and a state for the hypotheses of
each statement, clause by clause. -/

namespace Sys2Proof.Tests

open Sys2Proof Sys2Proof.Machine

/-! ### Small states -/

/-- The machine after one command. -/
def after (c : Instr) (s : State) : State :=
  match exec c s with
  | .next t => t
  | _ => s

def on (st : Station) : State := { pending := [], station := st }

def bands2 : List Band := [{ owner := 2, first := 0 }, { owner := 3, first := 240 }]

def layoutBody : LayoutBody :=
  { width := 720, height := 480, count := 2, prepareLimit := 40, placeholder := 0, bands := bands2 }

/-- Station 2 of two band owners, Running, the speaker of an empty scene. -/
def base : Station :=
  { Station.atRelease 2 with mode := .running, layout := some (layoutOf layoutBody), scene := Scene.started [2, 3] }

/-- Station 3 of the same two. -/
def peer : Station := { base with number := 3 }

def withLink (f : Link → Link) (st : Station) : Station := st.withBlocks (fun b => b.withLink f)

def withBc (f : Compositor → Compositor) (st : Station) : Station := st.withBlocks (fun b => b.withBc f)

def withStore (f : Store → Store) (st : Station) : Station := st.withBlocks (fun b => b.withStore f)

def withDecode (f : Decode → Decode) (st : Station) : Station := st.withBlocks (fun b => b.withDecode f)

/-- Station 2 framing messages in another station state. -/
def framingIn (m : Mode) : Station := { Station.atRelease 2 with mode := m }

def header : Header :=
  { background := .colour 0, default := none, timeout := 1, onTimeout := .none, guardLevel := 0
    entryEffect := none, buttons := 2, pictures := 0 }

def button (id : Nat) (down : Option Nat) : Button :=
  { id := id, rect := { x := 0, y := 0, width := 8, height := 8 }, normal := 1, selected := 2, activated := none
    up := none, down := down, left := none, right := none, condition := none, number := none, effects := []
    report := none, goPage := none }

/-- A page of two buttons, the first linked down to the second. -/
def page : PageBody := { header := header, buttons := [button 0 (some 1), button 1 none], pictures := [] }

/-- Page 5 in the table and shown, its first button Selected. -/
def showing (st : Station) : Station :=
  st.withScene (fun sc => { sc with
    pages := sc.pages.set 5 (.complete page), shown := some 5
    live := [{ enabled := true, state := .selected }, { enabled := true, state := .normal }] })

/-- A slide entry. -/
def slide (tag : Option Nat) : Slide :=
  { content := { asset := 7, x := 0, y := 0, fill := 0 }, duration := 9, kind := .fade, length := 4, tag := tag }

/-- A list of two entries in a slide state. -/
def showWith (w : Show) (st : Station) : Station :=
  st.withScene (fun sc => { sc with slides := [slide none, slide (some 3)], show_ := w })

def timer (n : Nat) : Timer := { tag := 4, remaining := n }

def snap : Snapshot := base.blocks.snapshot base.geometry 0 base.scene

def content : Content := (slide none).content

def wholeBack (c : Compositor) : Compositor := { c with back := { c.back with content := some content, whole := true } }

def heldSlide : SlideSwitch :=
  { content := content, change := 1, kind := .fade, length := 4, target := 1, late := false, awaitingContent := false }

def heldPage : PageSwitch := { page := 5, change := 1, target := 1, late := false }

/-! ### The check of well-formed commands -/

theorem test_wf_ok : (Instr.layout 0 layoutBody).wf = true := by decide

theorem test_wf_source : (Instr.sceneReset 8).wf = false := by decide

theorem test_wf_straps : (Instr.resetRelease 8).wf = false := by decide

theorem test_wf_byte : (Instr.key 0 256).wf = false := by decide

theorem test_wf_half : (Instr.ask 0 2 1 65536).wf = false := by decide

theorem test_wf_long :
    (Instr.checkDone 2 { checked := 4294967296, bad := 0, firstBad := none, remaining := 0 }).wf = false := by decide

theorem test_wf_noBands : (Instr.layout 0 { layoutBody with bands := [] }).wf = false := by decide

theorem test_wf_fiveBands :
    (Instr.layout 0 { layoutBody with bands := List.replicate 5 { owner := 2, first := 0 } }).wf = false := by decide

theorem test_wf_band : (Instr.layout 0 { layoutBody with bands := [{ owner := 256, first := 0 }] }).wf = false := by decide

theorem test_wf_switch :
    (Instr.switch 2 { stream := 256, index := 0, change := 0, target := 0, partialFlag := 0 }).wf = false := by decide

theorem test_wf_ready : (Instr.ready 2 { stream := 0, index := 256, change := 0 }).wf = false := by decide

theorem test_wf_expire : (Instr.expire 2 { timer := 256, tag := 0 }).wf = false := by decide

theorem test_wf_append :
    (Instr.slideAppend 0 { asset := 65536, x := 0, y := 0, fill := 0, duration := 0, kind := 0, length := 0
                           tag := 0 }).wf = false := by decide

theorem test_wf_cueSet :
    (Instr.cueSet 0 { index := 0, kind := 0, trigger := 4294967296, effect := 0, word := 0, bit := 0 }).wf = false := by
  decide

theorem test_wf_cueHit :
    (Instr.cueHit 2 { index := 0, kind := 0, trigger := 0, slide := 256, change := 0 }).wf = false := by decide

def rawPage : DefinePageBody :=
  { page := 6, asset := 65535, colour := 0, x := 0, y := 0, default := 255, timeout := 0, onTimeout := 0, goPage := 0
    guardLevel := 0, entry := { kind := 255, word := 0, place := 0, value := 0 }, buttons := 2, pictures := 1 }

def rawButton : DefineButtonBody :=
  { page := 6, button := 1, x := 0, y := 0, width := 8, height := 8, normal := 1, selected := 2, activated := 65535
    up := 255, down := 255, left := 255, right := 255, enableWord := 255, mask := 0, value := 0, sense := 0
    number := 255, goPage := 255, report := 65535, count := 0, effects := [] }

theorem test_wf_page : (Instr.definePage 0 { rawPage with page := 256 }).wf = false := by decide

theorem test_wf_effect :
    (Instr.definePage 0 { rawPage with entry := { kind := 256, word := 0, place := 0, value := 0 } }).wf = false := by decide

theorem test_wf_button :
    (Instr.defineButton 0 { rawButton with effects := List.replicate 5 rawPage.entry }).wf = false := by decide

theorem test_wf_picture :
    (Instr.definePicture 0 { page := 0, picture := 0, asset := 65536, x := 0, y := 0 }).wf = false := by decide

theorem test_wf_want : (Instr.want 2 { asset := 0, first := 65536, count := 0 }).wf = false := by decide

theorem test_wf_report :
    (Instr.report 2 { kind := 0, page := 0, button := none, code := none, target := none, attempts := none
                      words := [] }).wf = false := by decide

theorem test_wf_fault : (Instr.fault 2 { FaultKind.pageBusy.plain with p := some 65536 }).wf = false := by decide

theorem test_wf_answer : (Instr.answer 2 { topic := 256, argument := 0, busy := false, data := .empty }).wf = false := by decide

theorem test_wf_answerPage :
    (Instr.answer 2 { topic := 3, argument := 0, busy := false
                      data := .page none false false false 0 0 [32] [] }).wf = false := by decide

theorem test_wf_rows : (Instr.pagePrepareComplete (some [])).wf = false := by decide

theorem test_wf_kind : (Instr.unknownKindClose 256 0).wf = false := by decide

/-! ### Formats -/

set_option maxRecDepth 50000 in
/-- The check word of the bytes 0x31 to 0x39 (R167). -/
theorem test_checkWord : checkWordOf [0x31, 0x32, 0x33, 0x34, 0x35, 0x36, 0x37, 0x38, 0x39] = 0x29B1 := by decide

set_option maxRecDepth 50000 in
/-- A Key message as it is sent reads as its command (R188). -/
theorem test_readKey :
    readMessage ([0x18, 0x00, 0x14] ++ put16 (checkWordOf [0x18, 0x00, 0x14]).toNat) = some (.key 0 0x14) := by decide

set_option maxRecDepth 50000 in
/-- A Go with a bit of its check word wrong is damaged (R164). -/
theorem test_readDamaged :
    readMessage ([0x1A, 0x00, 0x05] ++ put16 ((checkWordOf [0x1A, 0x00, 0x05]).toNat + 1)) = none := by decide

set_option maxRecDepth 50000 in
/-- A message of a kind the part does not know (R166). -/
theorem test_readUnknown :
    readMessage ([0x7F, 0x20] ++ put16 (checkWordOf [0x7F, 0x20]).toNat) = some (.unknownKindClose 0x7F 1) := by decide

set_option maxRecDepth 50000 in
/-- What the station sends it reads as the command of its kind (R162, R188). -/
theorem test_sentSwitch :
    readMessage (messageBytes 2 (.switch { stream := 0, index := 5, change := 7, target := 9, partialFlag := 1 }))
      = some (.switch 2 { stream := 0, index := 5, change := 7, target := 9, partialFlag := 1 }) := by decide

/-- Runs that touch merge in the place of the oldest (R119). -/
theorem test_wantRuns :
    addRun 3 4 4 [{ asset := 3, span := some (0, 3) }, { asset := 1, span := none }, { asset := 3, span := some (5, 9) }]
      = [{ asset := 3, span := some (0, 9) }, { asset := 1, span := none }] := by decide

/-- A strip taken from inside a range splits it (R119). -/
theorem test_wantSplit :
    removeStrip { asset := 3, index := 5 } [{ asset := 3, span := some (0, 9) }]
      = [{ asset := 3, span := some (0, 4) }, { asset := 3, span := some (6, 9) }] := by decide

/-! ### Commands on small states -/

theorem test_release : (after (.resetRelease 6) State.reset).station.mode = .strapFault := by decide

theorem test_calibrate :
    (after (.calibrationPulse 16000) State.reset).station.blocks.link.queue = [.present 2 16384] := by decide

theorem test_layout :
    (after (.layout 0 layoutBody) (on (framingIn .joining))).station.scene.speaker = some 2 := by decide

theorem test_strobe : (after .frameStrobe (on base)).station.blocks.bc.frame = 1 := by decide

theorem test_strobe_strapFault : after .frameStrobe (on (framingIn .strapFault)) = on (framingIn .strapFault) := by decide

theorem test_digit : (after (.key 0 7) (on (showing base))).station.scene.entry = [7] := by decide

theorem test_down : (after (.key 0 0x11) (on (showing base))).station.scene.selectedButton = some 1 := by decide

theorem test_enter : (after (.key 0 0x14) (on (showing base))).station.timers.hold = some { tag := 1, remaining := 8 } := by
  decide

theorem test_go : (after (.go 0 5) (on (showing peer))).station.scene.pendingPage = some 5 := by decide

theorem test_go_refused :
    (after (.go 0 9) (on base)).station.blocks.link.queue
      = [.fault (FaultKind.pageUnusable.refusal { kind := 0x1A, src := 0 } (some 9) none)] := by decide

/-- A page with nothing to prepare is Ready in the event that begins its change (R54). -/
theorem test_go_ready :
    (after (.go 0 5) (on (base.withScene (fun sc => { sc with
      pages := sc.pages.set 5 (.complete { header := { header with buttons := 0 }, buttons := [], pictures := [] }) })))).station.blocks.link.queue
      = [.ready { stream := 0, index := 5, change := 1 }] := by decide

theorem test_wordSet : (after (.wordSet 0 2 9) (on base)).station.scene.words = [0, 0, 9, 0, 0, 0, 0, 0] := by decide

theorem test_play : (after (.slidePlay 0 0) (on (showWith .stopped base))).station.scene.pendingIndex = some 0 := by decide

theorem test_play_flag : after (.slidePlay 0 2) (on (withLink (fun l => { l with rx := .idle }) (showWith .stopped base)))
    = on (withLink (fun l => { l with rx := .idle }) (showWith .stopped base)) := by decide

theorem test_definePage : (after (.definePage 0 rawPage) (on base)).station.scene.pages[6]?
    = some (.defining { header := { header with timeout := 0, pictures := 1 }, buttons := [], pictures := [] }) := by decide

theorem test_ask_spare : (after (.ask 0 2 2 0) (on (framingIn .spare))).station.blocks.link.queue
    = [.answer { topic := 2, argument := 0, busy := true, data := .empty }] := by decide

theorem test_strayLow : (after (.strayLow 192) (on (withLink (fun l => { l with rx := .idle }) base))).station.blocks.link.rxBits
    = [true] := by decide

theorem test_segment_short : after (.segmentArrival [0, 1]) (on base) = on base := by decide

/-- A queued command is taken and run (log 2). -/
theorem test_step : (match step { on base with pending := [.frameStrobe, .frameStrobe] } with
    | .next t => (t.pending, t.station.blocks.bc.frame)
    | _ => ([], 0)) = ([.frameStrobe], 1) := by decide

set_option maxRecDepth 50000 in
/-- A message that is sent whole, and accepted, leaves the queue (R168, R170). -/
theorem test_own_head :
    (after (.claimSpeaker 2) (after (.endWindow []) (after (.contend []) (on (withLink (fun l => { l with
      rx := .idle, queue := [.claim] }) base))))).station.blocks.link.queue = [] := by decide

/-- A head that was not sent stays when an equal message of its number closes (R170). -/
theorem test_head_not_sent :
    (after (.present 2 2 16384) (on (withLink (fun l => { l with queue := [.present 2 16384] }) base))).station.blocks.link.queue
      = [.present 2 16384] := by decide

/-- A head sent whole leaves the queue at its own close, though the wire reads a field of 0xFFFF as absent (R170, R188). -/
theorem test_head_with_absent_value :
    (after (.fault 2 { checkBusyFault 5 65535 with q := none }) (on (withLink (fun l => { l with
      rx := .endWindow, sending := .whole, queue := [.fault (checkBusyFault 5 65535), .claim] }) base))).station.blocks.link.queue
      = [.claim] := by decide

/-- Two Set Bit cues on one tag: the enabled states are decided once, when both have set their bits (R18, R98). -/
theorem test_two_cues :
    (((showWith .playing (showing base)).withScene (fun sc => { sc with
      pages := sc.pages.set 5 (.complete { page with buttons :=
        [{ button 0 none with condition := some { word := 0, mask := 3, value := 1, differ := true } }, button 1 none] })
      cues := (sc.cues.set 0 { forced := false, trigger := 3, effect := .setBit 0 0, armed := true }).set 1
        { forced := false, trigger := 3, effect := .setBit 0 1, armed := true } })).beginSlide 1).scene.selectedButton = some 0 := by decide

/-- An objecting station holds the wire low for 40 lu, whatever the others drive (R164). -/
theorem test_objection_low : (withLink (fun l => { l with rx := .objecting }) base).blocks.link.wireLow 64 = 2560 := by decide

/-! ### States that meet the statements' hypotheses

One theorem a statement: for each clause, the hypotheses on a state and operands, those that only name a value left out. -/

theorem test_hyp_StepRunsFrontCommand :
    ({ on base with pending := [.frameStrobe] } : State).pending = .frameStrobe :: [] ∧ (on base).pending = [] := by decide

theorem test_hyp_HeldOrStrapFaultIsDeaf :
    (on { base with lineAsserted := true }).station.lineAsserted = true
      ∧ (on (framingIn .strapFault)).station.mode = .strapFault
      ∧ (∀ n, Instr.frameStrobe ≠ .resetRelease n) ∧ Instr.frameStrobe ≠ .resetAsserted := by
  exact ⟨by decide, by decide, fun n => nofun, by decide⟩

theorem test_hyp_ReleaseTakesResetValues : 0 < 8 ∧ 2 < 8 ∧ 5 < 8 ∧ 7 < 8 := by decide

theorem test_hyp_StrobeByStationState :
    (on base).station.Runs ∧ (on (framingIn .uncalibrated)).station.lineAsserted = false
      ∧ (on (framingIn .uncalibrated)).station.mode = .uncalibrated ∧ (on (framingIn .joining)).station.mode = .joining
      ∧ (on (framingIn .spare)).station.mode = .spare := by decide

def record7 : Asset := { id := 7, width := 8, height := 8 }

def strip7 : Strip := { asset := 7, index := 0 }

def knows (pls : List Placement) (st : Station) : Station :=
  withStore (fun s => { s with assets := [record7], placements := pls }) st

/-- Asset 7 placed in the band of station 2. -/
def placed7 (y : Nat) : Placement := { asset := 7, x := 0, y := y, clip := none, maker := .slide }

def holding (st : Station) : Station := withStore (fun s => s.setPacked
  { id := strip7, state := .held, units := 1, pins := 0, failures := 0, arrival := 0, data := [0x55], checkWord := 0 }) st

def named7 : RoleSet := { strips := [strip7], unresolved := [] }

def ready7 : Opened := { id := strip7, ready := true, units := 1, pins := 1, lastShown := 0, rows := [[0xFF000000]] }

/-- Strip 0 of asset 7, Open and Ready, named by the display page. -/
def displaying (st : Station) : Station :=
  withStore (fun s => ({ s with roles := { s.roles with display := named7 } } : Store).setOpened ready7) (holding (knows [] st))

/-- The last step of a transition, and a held slide switch whose content the front surface holds. -/
def chained (step : Nat) : Station := withBc (fun c => { c with
  layerOn := true, transition := some { wipe := true, length := 4, step := step }, slideSwitch := some heldSlide
  front := { c.front with content := some content, whole := true } }) base

theorem test_hyp_StrobeByStationState_strips :
    (displaying base).Runs ∧ (displaying base).blocks.store.roles.display.strips.contains strip7 = true
      ∧ ((displaying base).blocks.store.findOpened strip7).map Opened.ready = some true
      ∧ (displaying base).blocks.store.isSpoiled strip7 = false
      ∧ (withStore (Store.setBad strip7) (displaying base)).blocks.store.isSpoiled strip7 = true
      ∧ ((after .frameStrobe (on (displaying base))).station.blocks.store.findOpened strip7).map Opened.ready = some true
      ∧ ((after .frameStrobe (on (chained 3))).station.blocks.bc.composing.map (fun p => p.transition.isSome)) = some true
      ∧ (chained 3).blocks.bc.transition = some { wipe := true, length := 4, step := 3 } ∧ 4 ≤ 3 + 1
      ∧ ((after .frameStrobe (on (chained 1))).station.blocks.bc.composing.map (fun p => p.transition.isSome)) = some true
      ∧ (chained 1).blocks.bc.transition = some { wipe := true, length := 4, step := 1 } ∧ 1 + 1 < 4 := by decide

theorem test_hyp_CompositionEndsOrOverruns :
    (on (withBc (fun c => { c with composing := some snap }) base)).station.Runs
      ∧ (withBc (fun c => { c with composing := some snap }) base).blocks.bc.composing = some snap
      ∧ (withBc (fun c => { c with composing := some snap }) base).blocks.bc.overrunReported = false
      ∧ (withBc (fun c => { c with composing := some snap }) base).blocks.link.silent = false
      ∧ (withBc (fun c => { c with composing := some snap }) base).blocks.link.queue.length < 8
      ∧ (withBc (fun c => { c with composing := some snap, overrunReported := true }) base).blocks.bc.overrunReported = true := by
  decide

/-- A drawn page of two buttons, the second disabled, over a front surface. -/
def drawn : Snapshot :=
  { snap with
    assets := [record7], ready := [ready7], layerOn := true
    page := some { number := 5, body := page
                   states := [{ enabled := true, state := .activated }, { enabled := false, state := .normal }] } }

theorem test_hyp_CompositionEndsOrOverruns_pixels :
    drawn.page.isSome = true ∧ snap.page = none ∧ drawn.transition = none
      ∧ (placed7 0).inside drawn.geometry 7 7 = true ∧ drawn.asset 7 = some record7 ∧ snap.asset 7 = none
      ∧ 7 - (placed7 0).x < record7.width ∧ 7 - (placed7 0).y < record7.height
      ∧ drawn.strip { asset := 7, index := (7 - (placed7 0).y) / 8 } = some ready7
      ∧ ({ drawn with ready := [] } : Snapshot).strip strip7 = none
      ∧ (drawn.page.map (fun d => (d.live 0).enabled)) = some true ∧ (drawn.page.map (fun d => (d.live 1).enabled)) = some false
      ∧ ({ wipe := false, length := 4, step := 3 } : Transition).step < 4 ∧ 1 ≤ 3 ∧ 3 < 4 := by decide

theorem test_hyp_PageSwitchAtTarget :
    (withBc (fun c => { c with pageSwitch := some heldPage }) base).Runs
      ∧ heldPage.target = (withBc (fun c => { c with pageSwitch := some heldPage }) base).blocks.bc.frame + 1
      ∧ ({ heldPage with late := true } : PageSwitch).late = true
      ∧ heldPage.late = false
      ∧ ({ heldPage with target := 2 } : PageSwitch).target ≠ base.blocks.bc.frame + 1 := by decide

def aboutToShow : Station := withBc (fun c => { wholeBack c with slideSwitch := some heldSlide }) base

theorem test_hyp_SlideSwitchBecomesVisible :
    aboutToShow.Runs ∧ aboutToShow.blocks.bc.slideSwitch = some heldSlide
      ∧ aboutToShow.blocks.transitionStep.bc.transition = none ∧ heldSlide.target = aboutToShow.blocks.bc.frame + 1
      ∧ aboutToShow.blocks.transitionStep.bc.back.content = some heldSlide.content
      ∧ aboutToShow.blocks.transitionStep.bc.back.whole = true
      ∧ aboutToShow.blocks.bc.layerOn = false
      ∧ heldSlide.kind ≠ .cut ∧ (withBc (fun c => { c with layerOn := true }) aboutToShow).blocks.bc.layerOn = true
      ∧ (withBc (fun c => { c with transition := some { wipe := true, length := 2, step := 1 } })
          aboutToShow).blocks.transitionStep.bc.transition = none := by decide

def fading (k : Nat) : Station := withBc (fun c => { c with transition := some { wipe := false, length := 4, step := k } }) base

theorem test_hyp_TransitionRunsAndEnds :
    (fading 3).Runs ∧ (fading 3).blocks.bc.transition = some { wipe := false, length := 4, step := 3 }
      ∧ (fading 3).blocks.bc.slideSwitch = none ∧ 4 ≤ 3 + 1 ∧ 2 + 1 < 4
      ∧ (fading 2).blocks.bc.transition = some { wipe := false, length := 4, step := 2 }
      ∧ (withBc (fun c => { c with slideSwitch := some { heldSlide with target := 2 } }) (fading 3)).blocks.bc.frame + 1 ≠ 2
      ∧ (withBc (fun c => { c with slideSwitch := some heldSlide }) (fading 3)).blocks.bc.front.content ≠ some heldSlide.content
      ∧ (withBc (fun c => { c with slideSwitch := some heldSlide }) (fading 3)).blocks.bc.front.whole = false := by decide

theorem test_hyp_ViewerTimersCountAndExpire :
    (base.withTimers (fun t => { t with pageTimeout := some (timer 1), hold := some (timer 1), slideDuration := some (timer 1) })).Runs
      ∧ (timer 1).remaining ≤ 1 ∧ 2 ≤ (timer 2).remaining ∧ base.blocks.link.silent = false
      ∧ base.blocks.link.queue.length ≤ 4 := by decide

def overdue : Station :=
  (base.withTimers (fun t => { t with pagePrepare := some (timer 1) })).withScene (fun sc => { sc with pendingPage := some 5 })

def overdueSlide : Station :=
  (base.withTimers (fun t => { t with slidePrepare := some (timer 1) })).withScene (fun sc => { sc with pendingIndex := some 0 })

theorem test_hyp_PrepareLimitClosesTheChange :
    overdue.Runs ∧ overdue.timers.pagePrepare = some (timer 1) ∧ overdue.timers.pageMark = false
      ∧ overdue.scene.pendingPage = some 5 ∧ overdue.blocks.link.silent = false ∧ overdue.blocks.link.queue.length ≤ 2
      ∧ overdueSlide.Runs ∧ overdueSlide.timers.slidePrepare = some (timer 1) ∧ overdueSlide.timers.slideMark = false
      ∧ overdueSlide.scene.pendingIndex = some 0 ∧ overdueSlide.timers.pagePrepare = none := by decide

def waiting (n : Nat) : Station := peer.withTimers (fun t => { t with absence := some n })

theorem test_hyp_AbsenceRaisesAClaim :
    (waiting 55).Runs ∧ (waiting 55).isSpeaker = false ∧ (waiting 55).timersWf = true
      ∧ (waiting 55).timers.absence = some 55 ∧ (waiting 55).blocks.link.silent = false
      ∧ (waiting 55).blocks.link.queue.length ≤ 6 ∧ Message.claim ∉ (waiting 55).blocks.link.queue
      ∧ 55 + 1 = (waiting 55).prepareLimit + 16 * (waiting 55).scene.rank 3
      ∧ 54 + 1 ≠ (waiting 54).prepareLimit + 16 * (waiting 54).scene.rank 3 := by decide

def cued : Station :=
  (showWith .playing base).withScene (fun sc => { sc with
    cues := sc.cues.set 2 { forced := true, trigger := 1, effect := .pause, armed := true } })

theorem test_hyp_ForcedCuesAreReported :
    cued.Runs ∧ cued.isSpeaker = true ∧ cued.scene.show_ = .playing ∧ cued.timers.elapsed < 4294967295
      ∧ timerDue cued.timers.pageTimeout = false ∧ timerDue cued.timers.hold = false
      ∧ timerDue cued.timers.slideDuration = false ∧ timerDue cued.timers.pagePrepare = false
      ∧ timerDue cued.timers.slidePrepare = false ∧ cued.blocks.bc.composing = none ∧ cued.blocks.link.silent = false
      ∧ cued.blocks.link.queue.length + (reached (cued.timers.elapsed + 1) 0 cued.scene.cues).length ≤ 8
      ∧ reached (cued.timers.elapsed + 1) 0 cued.scene.cues ≠ [] := by decide

def idle (st : Station) : Station := withLink (fun l => { l with rx := .idle }) st

def receiving (st : Station) : Station := withLink (fun l => { l with rx := .receiving }) st

theorem test_hyp_CalibrationSetsTheUnit :
    base.lineAsserted = false ∧ base.mode ≠ .strapFault ∧ base.mode ≠ .uncalibrated
      ∧ 240 ≤ 256 * 15360 / base.blocks.link.unit256
      ∧ (framingIn .uncalibrated).lineAsserted = false ∧ (framingIn .uncalibrated).mode ≠ .strapFault
      ∧ 240 ≤ 256 * 15360 / (framingIn .uncalibrated).blocks.link.unit256 := by decide

/-- Lows of 3, 4, 7, 8 and 239 lu, in each receive state that takes them. -/
theorem test_hyp_LowsAreReceivedByClass :
    base.lineAsserted = false ∧ base.mode.frames = true ∧ base.mode ≠ .strapFault ∧ base.blocks.link.rx = .waiting
      ∧ (idle base).blocks.link.rx = .idle ∧ (receiving base).blocks.link.rx = .receiving
      ∧ 256 * 192 / base.blocks.link.unit256 = 3 ∧ 256 * 256 / base.blocks.link.unit256 = 4
      ∧ 256 * 448 / base.blocks.link.unit256 = 7 ∧ 256 * 512 / base.blocks.link.unit256 = 8
      ∧ 256 * 15296 / base.blocks.link.unit256 = 239 ∧ (framingIn .uncalibrated).lineAsserted = false
      ∧ (framingIn .uncalibrated).mode = .uncalibrated ∧ (framingIn .uncalibrated).blocks.link.rx ≠ .objecting := by decide

def contender : Station := idle (withLink (fun l => { l with queue := [.claim] }) base)

theorem test_hyp_ContentionSendsOrLosesTheHead :
    contender.lineAsserted = false ∧ contender.mode.frames = true ∧ contender.blocks.link.silent = false
      ∧ contender.blocks.link.rx = .idle ∧ contender.blocks.link.queue = .claim :: []
      ∧ 256 ≤ contender.blocks.link.unit256 ∧ (messageBits contender.number .claim)[4]? = some true
      ∧ 4 ≤ 256 * 256 / contender.blocks.link.unit256 ∧ 256 * 256 / contender.blocks.link.unit256 ≤ 7
      ∧ (idle base).blocks.link.queue = [] ∧ base.blocks.link.rx ≠ .idle := by decide

/-- A message received whole: the Claim Speaker of station 3. -/
def heardClaim : Station := withLink (fun l => { l with rx := .receiving, rxBits := messageBits 3 .claim }) base

set_option maxRecDepth 50000 in
theorem test_hyp_DamagedMessagesMeetAnObjection :
    heardClaim.lineAsserted = false ∧ heardClaim.mode.frames = true ∧ heardClaim.blocks.link.rx = .receiving
      ∧ heardClaim.blocks.link.finds = false ∧ (receiving base).blocks.link.rx = .receiving
      ∧ (receiving base).blocks.link.finds = true ∧ 256 * 448 / base.blocks.link.unit256 ≤ 7 := by decide

def sent (n : Nat) : Station := withLink (fun l => { l with rx := .endWindow, sending := .whole, objections := n }) contender

theorem test_hyp_VoidedMessagesCountAgainstTheHead :
    base.lineAsserted = false ∧ base.mode.frames = true ∧ 256 * 4096 / base.blocks.link.unit256 < 240
      ∧ base.blocks.link.sending ≠ .whole ∧ (sent 14).blocks.link.sending = .whole
      ∧ (sent 14).blocks.link.objections < 15 ∧ 15 ≤ (sent 15).blocks.link.objections := by decide

/-- Lows of 40 and 41 lu against an objection. -/
theorem test_hyp_VoidedMessages_objecting :
    (withLink (fun l => { l with rx := .objecting }) base).blocks.link.rx = .objecting
      ∧ 256 ≤ (withLink (fun l => { l with rx := .objecting }) base).blocks.link.unit256
      ∧ 256 * 2560 / base.blocks.link.unit256 ≤ 40 ∧ 40 < 256 * 2624 / base.blocks.link.unit256 := by decide

theorem test_hyp_PassedOverMessages :
    base.framing = true ∧ (Instr.present 2 2 16384).carried = some (2, some (.present 2 16384))
      ∧ admitted 0x7F = none ∧ 3 ≠ base.number ∧ (2 : Nat) = base.number
      ∧ (withLink (fun l => { l with queue := [.present 2 16384], sending := .whole }) base).blocks.link.queue
          = .present 2 16384 :: []
      ∧ (withLink (fun l => { l with queue := [.present 2 16384], sending := .whole }) base).blocks.link.sending = .whole
      ∧ (withLink (fun l => { l with queue := [.present 2 16384] }) base).blocks.link.sending ≠ .whole ∧ 6 ≤ 6 := by
  decide

theorem test_hyp_MessagesThatAreNotApplied :
    base.framing = true ∧ (Instr.go 6 1).carried = some (6, none) ∧ (framingIn .joining).framing = true
      ∧ (framingIn .spare).framing = true ∧ (Instr.go 0 1).carried = some (0, none) ∧ (Instr.go 0 1).forRunning = true := by
  decide

/-- For the clauses on sources, streams and changes that do not match. -/
theorem test_hyp_MessagesThatAreNotApplied_running :
    base.Listens ∧ (1 : Nat) ≠ 0 ∧ (5 : Nat) ≠ 0 ∧ 1 < 2 ∧ base.scene.speaker ≠ some 3 ∧ base.scene.speaker = some 2
      ∧ base.scene.pendingPage = none ∧ base.scene.pendingIndex = none ∧ (1 : Half) ≠ base.scene.pageChange
      ∧ (1 : Half) ≠ base.scene.slideChange := by decide

def checking : Station := withDecode (fun d => { d with
  check := some { first := 0, stop := 4, position := none, checked := 0, bad := 0, firstBad := none } }) base

theorem test_hyp_SceneResetByStationState :
    base.Listens ∧ base.blocks.decode.currentCheck = none ∧ checking.blocks.decode.currentCheck.isSome = true
      ∧ (framingIn .joining).framing = true ∧ (framingIn .spare).framing = true ∧ base.framing = true
      ∧ (1 : Nat) ≠ 0 := by decide

theorem test_hyp_LayoutIsTakenOnceInJoining :
    (framingIn .joining).framing = true ∧ layoutValid layoutBody = true
      ∧ (layoutBody.bands.map Band.owner).contains (framingIn .joining).number = true
      ∧ (layoutBody.bands.map Band.owner).contains 4 = false
      ∧ layoutValid { layoutBody with prepareLimit := 7 } = false ∧ (framingIn .spare).framing = true
      ∧ base.framing = true := by decide

/-- For DigitKeyAppendsItsDigit, and for the clauses that the statements on Keys share. -/
theorem test_hyp_Keys :
    (showing base).Listens ∧ (showing base).scene.shown.isSome = true ∧ base.Listens ∧ base.scene.shown = none ∧ 9 ≤ 9
      ∧ readKey 0x16 = .nothing
      ∧ (0x10, Direction.up) ∈ [(0x10, Direction.up), (0x11, Direction.down), (0x12, Direction.left), (0x13, Direction.right)] := by
  decide

def activated (st : Station) : Station :=
  (showing st).withScene (fun sc => { sc with live := markOnly (some 0) .activated 0 sc.live })

theorem test_hyp_ClearKeyEmptiesTheEntry :
    (activated base).scene.activatedButton = some 0
      ∧ (activated base).scene.live[0]? = some { enabled := true, state := .activated }
      ∧ (activated base).scene.shownBody = some page ∧ page.header.timeout ≠ 0
      ∧ ((activated base).withScene (fun sc => { sc with
          live := sc.live.map (fun l => { l with enabled := false }) })).scene.live[0]?
          = some { enabled := false, state := .activated } := by decide

theorem test_hyp_DirectionKeysMoveTheSelection :
    (showing base).scene.chosenButton = some 0
      ∧ walk page.buttons (showing base).scene.keyed.live .down 32 0 [0] = some 1
      ∧ walk page.buttons (showing base).scene.keyed.live .up 32 0 [0] = none
      ∧ ((showing base).withScene (fun sc => { sc with
          live := sc.live.map (fun l => { l with state := .normal }) })).scene.chosenButton = none := by decide

theorem test_hyp_EnterActivatesAButton :
    (showing base).Listens ∧ (showing base).scene.keyed.servedWait = none
      ∧ (showing base).scene.keyed.numberedButton = none ∧ (showing base).scene.keyed.selectedButton = some 0
      ∧ (showing base).scene.keyed.buttonOf 0 = some (button 0 (some 1)) ∧ (button 0 (some 1)).goPage = none
      ∧ (showing base).isSpeaker = true ∧ (showing peer).Listens ∧ (showing peer).isSpeaker = false := by decide

/-- The Selected button goes to page 6. -/
def going (level : Nat) (known : Bool) (code : Option (List Nat)) : Station :=
  (showing base).withScene (fun sc => { sc with
    pages := (sc.pages.set 5 (.complete { page with buttons := [{ button 0 none with goPage := some 6, report := some 9 }] })).set 6
      (if known then .complete { page with header := { header with guardLevel := level } } else .undefined)
    guard := { sc.guard with code := code, allowance := 2 } })

theorem test_hyp_EnterActivatesAButton_goPage :
    (going 2 true (some [1, 2, 3, 4])).Listens
      ∧ ((going 2 true (some [1, 2, 3, 4])).scene.keyed.buttonOf 0).map Button.goPage = some (some 6)
      ∧ ((going 2 true (some [1, 2, 3, 4])).scene.completeBody 6).map (fun b => b.header.guardLevel) = some 2
      ∧ (going 2 true (some [1, 2, 3, 4])).scene.guard.allowance = 2
      ∧ ((going 3 true none).scene.completeBody 6).map (fun b => b.header.guardLevel) = some 3
      ∧ (going 3 true none).scene.guard.code = none ∧ (going 3 true none).scene.guard.closed = false
      ∧ (going 0 false none).scene.completeBody 6 = none
      ∧ (after (.key 0 0x14) (on (going 3 true none))).station.scene.pendingPage = some 6
      ∧ (after (.key 0 0x14) (on (going 0 false none))).station.blocks.link.queue.length = 2 := by decide

/-- The same with a closed guard, and with page 7 as the prompt page, of this level where it is known. -/
def goingPrompt (closed : Bool) (prompt : Option Nat) : Station :=
  (going 3 true (some [1, 2, 3, 4])).withScene (fun sc => { sc with
    pages := sc.pages.set 7 (match prompt with
      | none => .undefined
      | some n => .complete { page with header := { header with guardLevel := n } })
    guard := { sc.guard with prompt := 7, closed := closed } })

theorem test_hyp_EnterActivatesAButton_guard :
    (goingPrompt true none).Listens ∧ (goingPrompt true none).scene.guard.closed = true
      ∧ ((goingPrompt true none).scene.completeBody 6).map (fun b => b.header.guardLevel) = some 3
      ∧ (goingPrompt true none).scene.guard.allowance = 2
      ∧ (goingPrompt false (some 2)).scene.guard.closed = false ∧ (goingPrompt false (some 2)).scene.guard.code.isSome = true
      ∧ ((goingPrompt false (some 2)).scene.completeBody 7).map (fun b => b.header.guardLevel) = some 2
      ∧ (goingPrompt false none).scene.completeBody 7 = none
      ∧ ((goingPrompt false (some 3)).scene.completeBody 7).map (fun b => b.header.guardLevel) = some 3
      ∧ (after (.key 0 0x14) (on (goingPrompt false (some 2)))).station.scene.pendingPage = some 7
      ∧ (after (.key 0 0x14) (on (goingPrompt true none))).station.timers.hold.isSome = true := by decide

/-- Button 0, numbered 1, by its number; and the Selected one on a prompt page with an empty entry. -/
theorem test_hyp_EnterActivatesAButton_number :
    ((showing base).withScene (fun sc => { sc with
        entry := [1], pages := sc.pages.set 5 (.complete { page with
          buttons := [{ button 0 none with number := some 1 }] }) })).scene.keyed.numberedButton = some 0
      ∧ ((showing base).withScene (fun sc => { sc with
          guard := { sc.guard with prompt := 5, wait := some { target := 6, origin := none } } })).scene.keyed.servedWait.isSome = true
      ∧ (showing base).scene.keyed.entry = [] := by decide

/-- Button 0 under the condition that word 0 is 1. -/
def conditioned : PageBody :=
  { page with buttons := [{ button 0 none with condition := some { word := 0, mask := 1, value := 1, differ := false } },
    button 1 none] }

def conditionedScene (w : Half) : Scene :=
  { (showing base).scene with
    pages := (showing base).scene.pages.set 5 (.complete conditioned), words := (showing base).scene.words.set 0 w }

theorem test_hyp_WordSetTakesTheWordWhole :
    base.Listens ∧ 7 ≤ 7 ∧ 7 < 8 ∧ 1 ≠ 0 ∧ (conditionedScene 1).shownBody = some conditioned
      ∧ (conditionedScene 1).live.length = conditioned.buttons.length ∧ (conditionedScene 1).selectedButton = some 0
      ∧ (conditioned.buttons[0]?).map (enabledBy (conditionedScene 1).words) = some true
      ∧ (conditioned.buttons[0]?).map (enabledBy (conditionedScene 0).words) = some false := by decide

/-- A guard with a code, and page 6 above its allowance; page 5 is its prompt page. -/
def guarded (closed : Bool) (st : Station) : Station :=
  (showing st).withScene (fun sc => { sc with
    pages := sc.pages.set 6 (.complete { page with header := { header with guardLevel := 3 } })
    guard := { sc.guard with code := some [1, 2, 3, 4], allowance := 2, prompt := 5, closed := closed } })

theorem test_hyp_GoBeginsAPageChange :
    (showing base).Listens ∧ 5 ≤ 63 ∧ (showing base).scene.completeBody 5 = some page
      ∧ page.header.guardLevel ≤ (showing base).scene.guard.allowance
      ∧ (showing peer).isSpeaker = false ∧ (showing base).scene.guard.code = none
      ∧ (showing base).scene.guard.closed = false := by decide

/-- Page 6, whose background is asset 7; what lacks a record is unresolved. -/
def backed (st : Station) : Station :=
  st.withScene (fun sc => { sc with pages := sc.pages.set 6 (.complete {
    header := { header with background := .asset 7 0 0, buttons := 0 }, buttons := [], pictures := [] }) })

/-- A Page Prepare job in progress, and Link Silent. -/
def quiet (st : Station) : Station :=
  withLink (fun l => { l with silent := true }) (withDecode (fun d => { d with
    running := some (.page { id := { asset := 9, index := 0 }, tag := 0 }) }) st)

theorem test_hyp_GoBeginsAPageChange_strips :
    (quiet (backed (holding (knows [] base)))).Quiet
      ∧ (after (.go 0 6) (on (quiet (backed (holding (knows [] base)))))).station.blocks.store.roles.pending.strips = [strip7]
      ∧ (holding (knows [] base)).blocks.store.isHeld strip7 = true
      ∧ (holding (knows [] base)).blocks.store.isReady strip7 = false
      ∧ (after (.go 0 6) (on (quiet (backed (holding (knows [] base)))))).station.blocks.decode.pageJobs = [{ id := strip7, tag := 1 }]
      ∧ (knows [] base).blocks.store.isHeld strip7 = false ∧ (knows [] base).blocks.store.isBroken strip7 = false
      ∧ (after (.go 0 6) (on (quiet (backed (knows [] base))))).station.blocks.store.wants
          = [{ asset := 7, span := some (0, 0) }]
      ∧ (after (.go 0 6) (on (quiet (backed base)))).station.blocks.store.roles.pending.unresolved.length = 1
      ∧ (after (.go 0 6) (on (quiet (backed base)))).station.blocks.store.wants = [{ asset := 7, span := none }] := by decide

theorem test_hyp_GoThatIsRefusedOrWaits :
    base.Listens ∧ 63 < 64 ∧ base.scene.completeBody 63 = none ∧ (guarded true base).Listens
      ∧ ((guarded true base).scene.completeBody 6).isSome = true
      ∧ (((guarded true base).scene.completeBody 6).map (fun b => b.header.guardLevel)) = some 3
      ∧ (guarded true base).scene.guard.allowance = 2 ∧ (guarded true base).scene.guard.closed = true
      ∧ (guarded false base).scene.guard.closed = false ∧ (guarded false base).scene.guard.code.isSome = true
      ∧ (guarded false base).scene.completeBody 5 = some page ∧ page.header.guardLevel ≤ 2
      ∧ ((guarded false base).withScene (fun sc => { sc with
          guard := { sc.guard with prompt := 7 } })).scene.completeBody 7 = none := by decide

def prompted (entry : List Nat) (attempts : Nat) : Station :=
  (guarded false base).withScene (fun sc => { sc with
    entry := entry, guard := { sc.guard with attempts := attempts, wait := some { target := 6, origin := none } } })

theorem test_hyp_GuardComparesFourDigits :
    (prompted [1, 2, 3, 4] 4).Listens ∧ (prompted [1, 2, 3, 4] 4).scene.shown.isSome = true
      ∧ (prompted [1, 2, 3, 4] 4).scene.keyed.shown = some (prompted [1, 2, 3, 4] 4).scene.keyed.guard.prompt
      ∧ (prompted [1, 2, 3, 4] 4).scene.keyed.guard.wait = some { target := 6, origin := none }
      ∧ (prompted [1, 2, 3, 4] 4).scene.keyed.entry.length = 4
      ∧ (prompted [1, 2, 3, 4] 4).scene.keyed.guard.code = some (prompted [1, 2, 3, 4] 4).scene.keyed.entry
      ∧ ((prompted [1, 2, 3, 4] 4).scene.keyed.completeBody 6).isSome = true
      ∧ [1, 2, 3, 4] ≠ (prompted [1, 2, 3, 5] 2).scene.keyed.entry
      ∧ 2 ≤ (prompted [1, 2, 3, 5] 2).scene.keyed.guard.attempts
      ∧ (prompted [1, 2, 3, 5] 1).scene.keyed.guard.attempts = 1 := by decide

/-- The last attempt lost, the viewer coming from an origin page. -/
def lastTry (origin : Option Nat) (level : Nat) (st : Station) : Station :=
  (prompted [1, 2, 3, 5] 1).withScene (fun sc => { sc with
    owners := st.scene.owners
    pages := sc.pages.set 8 (.complete { page with header := { header with guardLevel := level } })
    guard := { sc.guard with wait := some { target := 6, origin := origin } } })

theorem test_hyp_GuardComparesFourDigits_ends :
    (prompted [1, 2, 3] 4).scene.keyed.entry.length = 3 ∧ (prompted [1] 4).scene.keyed.entry.length = 1
      ∧ (prompted [] 4).scene.keyed.entry = []
      ∧ ((prompted [] 4).withScene (fun sc => { sc with live := [] })).scene.keyed.selectedButton = none
      ∧ ((prompted [1, 2, 3, 4] 4).withScene (fun sc => { sc with
          guard := { sc.guard with code := none } })).scene.keyed.guard.code = none
      ∧ ((prompted [1, 2, 3, 4] 4).withScene (fun sc => { sc with
          pages := sc.pages.set 6 .undefined })).scene.keyed.completeBody 6 = none
      ∧ (lastTry none 0 base).scene.keyed.guard.attempts = 1
      ∧ (lastTry none 0 base).scene.keyed.guard.wait.map Wait.origin = some none
      ∧ (lastTry (some 7) 0 base).scene.keyed.completeBody 7 = none
      ∧ ((lastTry (some 8) 3 base).scene.keyed.completeBody 8).map (fun b => b.header.guardLevel) = some 3
      ∧ (lastTry (some 8) 3 base).scene.keyed.guard.allowance = 2
      ∧ (after (.key 0 0x14) (on (lastTry (some 8) 2 base))).station.scene.pendingPage = some 8
      ∧ (after (.key 0 0x14) (on (lastTry (some 8) 3 base))).station.blocks.link.queue.length = 2 := by decide

theorem test_hyp_GuardIsSetAndFrozen :
    base.Listens ∧ 1 ≤ 1 ∧ base.scene.guard.frozen = false
      ∧ (base.withScene (fun sc => { sc with guard := { sc.guard with frozen := true } })).scene.guard.frozen = true
      ∧ ((0x123A : Half) ≠ 0xFFFF ∧ ∃ d ∈ codeDigits 0x123A, 9 < d) ∧ ¬ (∃ d ∈ codeDigits 0x1239, 9 < d) ∧ 7 < 8
      ∧ 63 < 64 ∧ 1 < 2 := by decide

/-- A change to page 5 pending, its C 1. -/
def pendingPage (ready : List Nat) (st : Station) : Station :=
  (showing st).withScene (fun sc => { sc with pendingPage := some 5, pageChange := 1, pageReady := ready })

theorem test_hyp_PageReadyClosesTheChange :
    (pendingPage [] base).Listens ∧ (pendingPage [] base).scene.owners.contains 3 = true
      ∧ (pendingPage [] base).scene.pendingPage = some 5 ∧ (pendingPage [3] base).scene.pageReady.contains 3 = true
      ∧ (pendingPage [] base).scene.pageReady.contains 3 = false
      ∧ (∃ o ∈ (pendingPage [] base).scene.owners, o ∉ Stations.insert 3 (pendingPage [] base).scene.pageReady)
      ∧ (∀ o ∈ (pendingPage [2] base).scene.owners, o ∈ Stations.insert 3 (pendingPage [2] base).scene.pageReady)
      ∧ (pendingPage [2] base).isSpeaker = true ∧ (pendingPage [2] base).timers.pageMark = false
      ∧ (0 : Half) ≠ (pendingPage [] base).scene.pageChange ∧ (pendingPage [] base).scene.owners.contains 4 = false
      ∧ (showing base).scene.pendingPage = none ∧ (pendingPage [] base).scene.pendingPage ≠ some 6 := by decide

/-- For PageSwitchShowsThePage and PageSwitchIsHandedOver; frame counts late and in time. -/
theorem test_hyp_PageSwitch :
    (pendingPage [] base).Listens ∧ (2 : Nat) < 6 ∧ (pendingPage [] base).scene.speaker = some 2
      ∧ (pendingPage [] base).scene.pendingPage = some 5 ∧ (pendingPage [] base).scene.completeBody 5 = some page
      ∧ (pendingPage [] base).blocks.bc.pageSwitch = none ∧ page.header.entryEffect = none
      ∧ (0 : Long).toNat < 2 ^ 31 ∧ ¬ ((0 : Long) - 1).toNat < 2 ^ 31 ∧ (pendingPage [] base).blocks.link.silent = false
      ∧ (pendingPage [] base).blocks.link.queue.length < 8 := by decide

/-- A page with an entry effect: bit 0 of word 0 is set, and button 0 stands under a condition on that word. -/
def entered (value : Half) (buttons : List Button) : PageBody :=
  { header := { header with entryEffect := some (.setBit 0 0), buttons := buttons.length }, pictures := []
    buttons := buttons.map (fun b => { b with
      condition := some { word := 0, mask := 0xFFFF, value := value, differ := true } }) }

def entering (pg : PageBody) : Station :=
  (pendingPage [] base).withScene (fun sc => { sc with pages := sc.pages.set 5 (.complete pg) })

/-- The replica of PageSwitchShowsThePage's clauses on the entry effect, with the words of before it. -/
def enteredScene (pg : PageBody) : Scene :=
  { (after (.switch 2 { stream := 0, index := 5, change := 1, target := 9, partialFlag := 0 }) (on (entering pg))).station.scene with
    words := (entering pg).scene.words
    live := pg.buttons.map (fun b => { enabled := enabledBy (entering pg).scene.words b, state := .normal }) }

theorem test_hyp_PageSwitchShowsThePage_effect :
    (entering (entered 0 [button 0 none])).Listens
      ∧ (entered 0 [button 0 none]).header.entryEffect = some (.setBit 0 0)
      ∧ (enteredScene (entered 0 [button 0 none])).defaultChoice = none
      ∧ (enteredScene (entered 7 [button 0 none])).defaultChoice = some 0
      ∧ (entered 7 [button 0 none]).buttons.map (enabledBy [1]) = [true]
      ∧ (enteredScene (entered 1 [button 0 none])).defaultChoice = some 0
      ∧ (entered 1 [button 0 none]).buttons.map (enabledBy [1]) = [false]
      ∧ (after (.switch 2 { stream := 0, index := 5, change := 1, target := 9, partialFlag := 0 })
          (on (entering (entered 1 [button 0 none])))).station.scene.words.head? = some 1 := by decide

theorem test_hyp_PageSwitchIsHandedOver_catchUp :
    (withBc (fun c => { c with pageSwitch := some heldPage }) (pendingPage [] base)).blocks.bc.pageSwitch = some heldPage
      ∧ (withBc (fun c => { c with pageSwitch := some heldPage }) (pendingPage [] base)).Listens
      ∧ (withBc (fun c => { c with lateCount := 254 }) (pendingPage [] base)).blocks.bc.lateCount < 255
      ∧ ¬ (withBc (fun c => { c with lateCount := 255 }) (pendingPage [] base)).blocks.bc.lateCount < 255 := by decide

/-- A job in progress, one queued for a strip of the pending set and one for another, and no room for a Want. -/
def switching : Station :=
  withLink (fun l => { l with queue := List.replicate 5 .claim }) (withDecode (fun d => { d with
      running := some (.page { id := { asset := 9, index := 3 }, tag := 0 })
      pageJobs := [{ id := { asset := 9, index := 0 }, tag := 1 }, { id := { asset := 7, index := 0 }, tag := 1 }] })
    (withStore (fun s => s.setRoles (fun r => { r with
      pending := { strips := [{ asset := 7, index := 0 }], unresolved := [] } })) (pendingPage [] base)))

theorem test_hyp_PageSwitchIsHandedOver_jobs :
    switching.Quiet ∧ switching.Listens ∧ switching.scene.speaker = some 2
      ∧ (after (.switch 2 { stream := 0, index := 5, change := switching.scene.pageChange, target := 9, partialFlag := 0 })
          (on switching)).station.blocks.decode.pageJobs = [{ id := { asset := 7, index := 0 }, tag := 1 }] := by decide

theorem test_hyp_HoldExpireOrStaleExpire :
    (activated base).Listens ∧ (activated base).scene.speaker = some 2
      ∧ (activated base).scene.activatedButton = some 0
      ∧ (activated base).scene.live[0]? = some { enabled := true, state := .activated }
      ∧ (activated base).scene.speaker ≠ some 3 ∧ 2 < 3 ∧ base.scene.shown = none
      ∧ base.scene.activatedButton = none ∧ base.scene.show_ ≠ .playing := by decide

def timedOut (a : OnTimeout) : Station :=
  (showing base).withScene (fun sc => { sc with
    pages := sc.pages.set 5 (.complete { page with header := { header with onTimeout := a } }) })

theorem test_hyp_TimeoutAndDurationExpiresAct :
    (timedOut .none).Listens ∧ (timedOut .none).scene.speaker = some 2
      ∧ (timedOut .none).scene.shownBody.map (fun b => b.header.onTimeout) = some .none
      ∧ (timedOut (.go 5)).scene.shownBody.map (fun b => b.header.onTimeout) = some (.go 5)
      ∧ ((timedOut (.go 5)).scene.completeBody 5).map (fun b => b.header.guardLevel) = some 0
      ∧ (timedOut .activateSelected).scene.selectedButton = some 0
      ∧ ((timedOut .activateSelected).withScene (fun sc => { sc with live := [] })).scene.selectedButton = none
      ∧ (showWith .playing base).Listens ∧ (showWith .playing base).scene.show_ = .playing
      ∧ (showWith .playing base).scene.held = false ∧ (showWith .playing base).scene.nextIndex 0 = some 1
      ∧ ((showWith .playing base).withScene (fun sc => { sc with current := 1 })).scene.nextIndex 1 = none := by decide

/-- The shown page times out to page 6, above the allowance of a guard, open or closed, whose prompt page is page 7. -/
def timedOutTo (closed : Bool) (prompt : Option Nat) : Station :=
  (goingPrompt closed prompt).withScene (fun sc => { sc with
    pages := sc.pages.set 5 (.complete { page with header := { header with onTimeout := .go 6 } }) })

theorem test_hyp_TimeoutAndDurationExpiresAct_guard :
    (timedOutTo true none).Listens ∧ (timedOutTo true none).scene.speaker = some 2
      ∧ (timedOutTo true none).scene.shownBody.map (fun b => b.header.onTimeout) = some (.go 6)
      ∧ ((timedOutTo true none).scene.completeBody 6).map (fun b => b.header.guardLevel) = some 3
      ∧ (timedOutTo true none).scene.guard.closed = true ∧ (timedOut (.go 6)).scene.completeBody 6 = none
      ∧ (timedOutTo false (some 2)).scene.guard.closed = false ∧ (timedOutTo false (some 2)).scene.guard.code.isSome = true
      ∧ ((timedOutTo false (some 2)).scene.completeBody 7).map (fun b => b.header.guardLevel) = some 2
      ∧ (timedOutTo false none).scene.completeBody 7 = none
      ∧ ((timedOutTo false (some 3)).scene.completeBody 7).map (fun b => b.header.guardLevel) = some 3
      ∧ (after (.expire 2 { timer := 0, tag := 0 }) (on (timedOutTo false (some 2)))).station.scene.pendingPage = some 7 := by
  decide

theorem test_hyp_ClaimMakesTheSpeaker :
    peer.Listens ∧ peer.scene.owners.contains 2 = true ∧ (2 : Nat) ≠ peer.number
      ∧ peer.scene.owners.contains 3 = true ∧ (3 : Nat) = peer.number ∧ peer.scene.pendingPage = none
      ∧ peer.scene.pendingIndex = none ∧ (pendingPage [2, 3] peer).scene.pendingPage = some 5
      ∧ (∀ o ∈ (pendingPage [2, 3] peer).scene.owners, o ∈ (pendingPage [2, 3] peer).scene.pageReady)
      ∧ peer.scene.owners.contains 4 = false := by decide

/-- A page change and a slide change to entry 0 pending at the claimant. -/
def claimant (pages slides : List Nat) : Station :=
  (showWith .playing (pendingPage pages peer)).withScene (fun sc => { sc with pendingIndex := some 0, slideReady := slides })

theorem test_hyp_ClaimMakesTheSpeaker_changes :
    (claimant [2, 3] [2, 3]).Listens ∧ (claimant [2, 3] [2, 3]).scene.pendingPage = some 5
      ∧ (claimant [2, 3] [2, 3]).scene.pendingIndex = some 0 ∧ (claimant [2, 3] [2, 3]).scene.held = false
      ∧ (∀ o ∈ (claimant [2, 3] [2, 3]).scene.owners, o ∈ (claimant [2, 3] [2, 3]).scene.slideReady)
      ∧ (∃ o ∈ (pendingPage [3] peer).scene.owners, o ∉ (pendingPage [3] peer).scene.pageReady)
      ∧ (pendingPage [3] peer).scene.pendingIndex = none
      ∧ ((claimant [3] [3]).withScene (fun sc => { sc with pendingPage := none })).scene.pendingPage = none
      ∧ (∃ o ∈ (claimant [3] [3]).scene.owners, o ∉ (claimant [3] [3]).scene.slideReady)
      ∧ (showWith .playing peer).scene.show_ = .playing ∧ (showWith .playing peer).scene.pendingIndex = none
      ∧ (showWith .playing peer).scene.slides[0]? = some (slide none) ∧ (slide none).duration ≠ 0
      ∧ (activated peer).scene.activatedButton.isSome = true ∧ (activated peer).scene.pendingPage = none
      ∧ peer.scene.show_ ≠ .playing := by decide

set_option maxRecDepth 5000 in
theorem test_hyp_SlideAppendJoinsTheList :
    base.Listens ∧ base.scene.slides.length < 128
      ∧ 128 ≤ (base.withScene (fun sc => { sc with slides := List.replicate 128 (slide none) })).scene.slides.length
      ∧ (1023 ≤ 1023 ∧ 3839 ≤ 3839 ∧ 2159 ≤ 2159 ∧ 2 ≤ 2 ∧ 60 ≤ 60) ∧ ¬ 1024 ≤ 1023 := by decide

theorem test_hyp_SlideRemoveAndClear :
    (showWith .playing base).scene.show_ = .playing ∧ (showWith .stopped base).Listens
      ∧ (showWith .stopped base).scene.show_ ≠ .playing ∧ (showWith .stopped base).scene.slides.length ≤ 2
      ∧ (showWith .stopped base).scene.show_ = .stopped ∧ (showWith .stopped base).scene.pendingIndex = none
      ∧ (showWith .stopped base).scene.slides[1]? = some (slide (some 3))
      ∧ 2 ≤ (showWith .stopped base).scene.slides.length
      ∧ (base.withScene (fun sc => { sc with slides := [slide none] })).scene.slides = [slide none]
      ∧ (showWith .paused base).isSpeaker = true ∧ (showWith .paused peer).isSpeaker = false := by decide

theorem test_hyp_SlideRemoveAndClear_paused :
    (showWith .paused base).Listens ∧ (showWith .paused base).scene.show_ = .paused
      ∧ (showWith .paused base).scene.slides[0]? = some (slide none) ∧ 2 ≤ (showWith .paused base).scene.slides.length
      ∧ ((showWith .paused base).withScene (fun sc => { sc with pendingIndex := some 1 })).scene.pendingIndex = some 1
      ∧ 0 + 1 < (showWith .paused base).scene.slides.length ∧ ¬ 1 + 1 < (showWith .paused base).scene.slides.length
      ∧ (showWith .paused base).scene.pendingIndex = none ∧ (showWith .paused base).scene.current = 0
      ∧ 1 ≠ (showWith .paused base).scene.current := by decide

theorem test_hyp_SlideChangeBegins :
    (showWith .playing base).scene.slides[0]? = some (slide none) ∧ (slide none).tag = none
      ∧ (showWith .playing base).scene.slides[1]? = some (slide (some 3)) ∧ (slide (some 3)).tag = some 3
      ∧ (∃ c ∈ [({ forced := false, trigger := 3, effect := .pause, armed := true } : Cue)], c.armed = true
          ∧ c.forced = false ∧ c.trigger = 3 ∧ c.effect = .pause)
      ∧ (∀ c ∈ (showWith .playing base).scene.cues, c.armed = true → c.forced = false → c.trigger = 3 →
          c.effect ≠ .pause)
      ∧ (showWith .playing base).isSpeaker = true ∧ (showWith .playing peer).isSpeaker = false
      ∧ (showWith .playing base).blocks.link.silent = false
      ∧ (showWith .playing base).blocks.link.queue.length + (firing 3 0 (showWith .playing base).scene.cues).length ≤ 8 := by
  decide

def batch7 : Batch :=
  { content := content, change := some 1, strips := some [(0, .pending)], firstFailing := none, progress := 4, begun := true }

theorem test_hyp_SlideChangeBegins_batches :
    ((withBc wholeBack (showWith .playing base)).blocks.bc.back.content = some content
      ∧ (withBc wholeBack (showWith .playing base)).blocks.bc.back.whole = true
      ∧ (withBc wholeBack (showWith .playing base)).blocks.bc.back.firstFailing = none
      ∧ (withBc wholeBack (showWith .playing base)).blocks.bc.transition = none
      ∧ (withBc wholeBack (showWith .playing base)).blocks.bc.slideSwitch = none)
      ∧ (slide none).content = content ∧ base.blocks.bc.back.whole = false ∧ batch7.content = (slide none).content
      ∧ (withDecode (fun d => { d with running := some (.batch batch7 0 false) }) base).blocks.decode.running
          = some (.batch batch7 0 false)
      ∧ (withDecode (fun d => { d with suspended := some batch7 }) base).blocks.decode.suspended = some batch7
      ∧ (withDecode (fun d => { d with batch := some batch7 }) base).blocks.decode.batch = some batch7
      ∧ base.blocks.decode.running = none ∧ base.blocks.decode.suspended = none ∧ base.blocks.decode.batch = none
      ∧ base.blocks.store.wants.length + (batch7.strips.getD []).length < 64
      ∧ base.blocks.store.isHeld strip7 = false ∧ base.blocks.store.isBroken strip7 = false
      ∧ ((showWith .playing base).beginSlide 0).blocks.store.wants = [{ asset := 7, span := none }]
      ∧ ((showWith .playing (knows [] base)).beginSlide 0).blocks.store.wants = [{ asset := 7, span := some (0, 0) }] := by
  decide

/-- Two Tagged cues on tag 3 that set bits. -/
theorem test_hyp_SlideChangeBegins_cues :
    (∃ c ∈ [({ forced := false, trigger := 3, effect := .setBit 0 1, armed := true } : Cue)].filter
        (fun c => c.armed && !c.forced && decide (c.trigger = 3)), ∃ w k, c.effect = .setBit w k)
      ∧ (∀ c ∈ [({ forced := false, trigger := 3, effect := .pause, armed := true } : Cue)].filter
        (fun c => c.armed && !c.forced && decide (c.trigger = 3)), ∀ w k, c.effect ≠ .setBit w k) := by
  refine ⟨⟨_, List.Mem.head _, 0, 1, rfl⟩, ?_⟩
  intro c hc w k
  simp at hc
  simp [hc]

theorem test_hyp_PlayAndPause :
    base.Listens ∧ base.scene.show_ = .stopped ∧ base.scene.slides = []
      ∧ (showWith .stopped base).Listens ∧ (showWith .stopped base).scene.slides ≠ []
      ∧ (showWith .playing base).Listens ∧ (showWith .playing base).scene.show_ = .playing
      ∧ (showWith .paused base).Listens ∧ (showWith .paused base).scene.show_ = .paused
      ∧ (showWith .paused base).scene.held = false ∧ (showWith .paused base).scene.pendingIndex = none
      ∧ (showWith .paused base).scene.slides[(showWith .paused base).scene.current]? = some (slide none)
      ∧ ((showWith .playing base).withTimers (fun t => { t with
          slideDuration := some { tag := 0, remaining := 5 } })).timers.slideDuration = some { tag := 0, remaining := 5 }
      ∧ (showWith .playing base).timers.slideDuration = none ∧ (showWith .playing base).isSpeaker = true
      ∧ (1 : Half) ≠ (showWith .playing base).scene.slideChange := by
  decide

def heldShow (ready : List Nat) (st : Station) : Station :=
  (showWith .paused st).withScene (fun sc => { sc with held := true, pendingIndex := some 1, slideReady := ready })

theorem test_hyp_StepAndSeek :
    (showWith .paused base).Listens ∧ (showWith .paused base).scene.nextIndex 0 = some 1
      ∧ ((showWith .paused base).withScene (fun sc => { sc with current := 1 })).scene.nextIndex 1 = none
      ∧ (heldShow [2, 3] base).Listens ∧ (heldShow [2, 3] base).scene.held = true
      ∧ (heldShow [2, 3] base).scene.pendingIndex = some 1 ∧ (heldShow [2, 3] base).isSpeaker = true
      ∧ (∀ o ∈ (heldShow [2, 3] base).scene.owners, o ∈ (heldShow [2, 3] base).scene.slideReady)
      ∧ (heldShow [] peer).isSpeaker = false ∧ (showWith .stopped base).scene.show_ ≠ .paused
      ∧ (showWith .stopped base).scene.slides.length ≤ 2 ∧ 1 < (showWith .stopped base).scene.slides.length
      ∧ (showWith .playing base).scene.show_ ≠ .stopped := by decide

/-- A show that plays while a Page Prepare job is in progress. -/
def playingBusy : Station := quiet (showWith .playing base)

theorem test_hyp_PlayAndPause_releaseAndPrefetch :
    (heldShow [] base).Listens ∧ (heldShow [2, 3] base).scene.show_ = .paused
      ∧ (∃ o ∈ (heldShow [] base).scene.owners, o ∉ (heldShow [] base).scene.slideReady)
      ∧ ((showWith .paused base).withScene (fun sc => { sc with pendingIndex := some 1 })).scene.pendingIndex = some 1
      ∧ playingBusy.Listens ∧ playingBusy.scene.show_ = .playing ∧ playingBusy.blocks.decode.running.isSome = true
      ∧ playingBusy.blocks.decode.deferred = false ∧ playingBusy.blocks.store.roomWait = []
      ∧ playingBusy.scene.pendingIndex = none ∧ playingBusy.scene.nextIndex 0 = some 1
      ∧ playingBusy.scene.slides[1]? = some (slide (some 3)) ∧ playingBusy.blocks.decode.batch = none
      ∧ playingBusy.blocks.decode.suspended = none ∧ playingBusy.blocks.bc.transition = none
      ∧ playingBusy.blocks.bc.slideSwitch = none ∧ playingBusy.blocks.bc.back.whole = false
      ∧ (after (.slidePause 0) (on playingBusy)).station.blocks.decode.batch.isSome = true
      ∧ (after (.slidePause 0) (on (withBc wholeBack playingBusy))).station.blocks.decode.batch = none := by decide

/-- A slide change to entry 0 pending, its S 0. -/
def pendingSlide (ready : List Nat) (w : Show) (st : Station) : Station :=
  (showWith w st).withScene (fun sc => { sc with pendingIndex := some 0, slideReady := ready })

theorem test_hyp_SlideSwitchMakesTheEntryCurrent :
    (pendingSlide [] .playing base).Listens ∧ (pendingSlide [] .playing base).scene.speaker = some 2
      ∧ (pendingSlide [] .playing base).scene.pendingIndex = some 0
      ∧ (pendingSlide [] .playing base).scene.slides[0]? = some (slide none)
      ∧ (pendingSlide [] .playing base).isSpeaker = true ∧ (pendingSlide [] .paused base).scene.show_ ≠ .playing
      ∧ (pendingSlide [] .playing peer).isSpeaker = false
      ∧ (pendingSlide [] .playing base).blocks.bc.lateCount < 255 ∧ (0 : Long).toNat < 2 ^ 31
      ∧ ¬ ((0 : Long) - 1).toNat < 2 ^ 31 := by decide

theorem test_hyp_SlideReadyClosesTheChange :
    (pendingSlide [] .playing base).Listens ∧ (pendingSlide [] .playing base).scene.owners.contains 4 = false
      ∧ (1 : Half) ≠ (pendingSlide [] .playing base).scene.slideChange
      ∧ (pendingSlide [3] .playing base).scene.slideReady.contains 3 = true
      ∧ (pendingSlide [2] .playing base).scene.owners.contains 3 = true
      ∧ (pendingSlide [2] .playing base).scene.slideReady.contains 3 = false
      ∧ (pendingSlide [2] .playing base).isSpeaker = true ∧ (pendingSlide [2] .playing base).timers.slideMark = false
      ∧ (pendingSlide [2] .playing base).scene.held = false
      ∧ (∀ o ∈ (pendingSlide [2] .playing base).scene.owners,
          o ∈ Stations.insert 3 (pendingSlide [2] .playing base).scene.slideReady)
      ∧ (pendingSlide [2] .playing peer).isSpeaker = false ∧ base.scene.pendingIndex = none
      ∧ (∃ o ∈ (pendingSlide [] .playing base).scene.owners,
          o ∉ Stations.insert 3 (pendingSlide [] .playing base).scene.slideReady) := by decide

def rawCue : CueSetBody := { index := 7, kind := 0, trigger := 1, effect := 2, word := 7, bit := 15 }

def pauseCue : Cue := { forced := true, trigger := 1, effect := .pause, armed := true }

theorem test_hyp_CuesAreSetClearedAndHit :
    base.Listens ∧ rawCue.index ≤ 7 ∧ rawCue.kind = 0 ∧ 1 ≤ rawCue.trigger ∧ rawCue.effect = 2 ∧ rawCue.word ≤ 7
      ∧ rawCue.bit ≤ 15 ∧ ({ rawCue with kind := 1, trigger := 254, effect := 1 } : CueSetBody).trigger ≤ 254 ∧ 7 < 8
      ∧ ({ rawCue with trigger := 0 } : CueSetBody).trigger = 0
      ∧ 254 < ({ rawCue with kind := 1, trigger := 255 } : CueSetBody).trigger
      ∧ cued.Listens ∧ cued.scene.speaker = some 2 ∧ cued.scene.cues[2]? = some pauseCue ∧ pauseCue.armed = true
      ∧ pauseCue.forced = true ∧ pauseCue.effect = .pause ∧ cued.scene.show_ = .playing
      ∧ cued.scene.speaker ≠ some 3 ∧ cued.scene.cues[8]? = none := by decide

def defining6 (st : Station) : Station :=
  st.withScene (fun sc => { sc with
    pages := sc.pages.set 6 (.defining { header := { header with pictures := 1 }, buttons := [], pictures := [] }) })

theorem test_hyp_PagesAreDefinedAndDropped :
    base.Listens ∧ 63 < 64 ∧ rawPage.page ≤ 63 ∧ base.scene.inUse rawPage.page = false
      ∧ rawPage.asset = 65535 ∧ rawPage.default = 255 ∧ rawPage.onTimeout ≤ 2 ∧ rawPage.guardLevel ≤ 7
      ∧ rawPage.entry.kind = 255 ∧ rawPage.buttons ≤ 32 ∧ rawPage.pictures ≤ 16
      ∧ effectInRange { kind := 3, word := 7, place := 3, value := 15 }
      ∧ ¬ effectInRange { kind := 3, word := 7, place := 4, value := 15 } ∧ ¬ 33 ≤ 32 ∧ (showing base).scene.shown = some 5
      ∧ (pendingPage [] base).scene.pendingPage = some 5 ∧ (showing base).scene.inUse 5 = true ∧ 1 < 2 := by decide

theorem test_hyp_DefineButtonAndPicture :
    (defining6 base).Listens ∧ rawButton.page ≤ 63 ∧ (defining6 base).scene.inUse 6 = false
      ∧ ((defining6 base).scene.body 6).isSome = true
      ∧ (rawButton.x ≤ 3839 ∧ rawButton.y ≤ 2159 ∧ 1 ≤ rawButton.width ∧ rawButton.width ≤ 3840 ∧ 1 ≤ rawButton.height
        ∧ rawButton.height ≤ 2160 ∧ rawButton.normal ≤ 1023 ∧ rawButton.selected ≤ 1023 ∧ rawButton.activated = 65535
        ∧ (∀ l ∈ [rawButton.up, rawButton.down, rawButton.left, rawButton.right], l = 255 ∨ l < 2)
        ∧ rawButton.enableWord = 255 ∧ rawButton.number = 255 ∧ rawButton.goPage = 255 ∧ 1 ≤ rawButton.report
        ∧ rawButton.count = rawButton.effects.length ∧ rawButton.count ≤ 4 ∧ ∀ e ∈ rawButton.effects, effectInRange e)
      ∧ rawButton.button < 2 ∧ base.scene.body 6 = none ∧ ¬ 1 ≤ ({ rawButton with width := 0 } : DefineButtonBody).width
      ∧ 1023 ≤ 1023 ∧ 3839 ≤ 3839 ∧ 2159 ≤ 2159 ∧ 1023 < 1024
      ∧ 63 < ({ rawButton with page := 64 } : DefineButtonBody).page ∧ (showing base).scene.shown = some 5 ∧ 5 ≤ 63
      ∧ (pendingPage [] base).scene.pendingPage = some 5 ∧ 1 < 2 := by decide

/-- For WantTrimsTheList, CheckIsQueuedOnce and AskQueuesAnAnswer. -/
theorem test_hyp_WantCheckAsk :
    base.Listens ∧ (2 : Nat) = base.number ∧ (3 : Nat) ≠ base.number ∧ 1023 ≤ 1023 ∧ 1023 < 1024
      ∧ base.blocks.decode.check = none ∧ base.blocks.decode.running = none ∧ checking.blocks.decode.check.isSome = true
      ∧ checking.Listens ∧ base.framing = true ∧ (framingIn .spare).framing = true
      ∧ (framingIn .joining).mode ≠ .running ∧ 4 ≤ 4 := by decide

/-- A whole asset and a run wait to be asked for, the first one's asset outstanding; the queue holds `n` messages. -/
def wanting (n : Nat) : Station :=
  withLink (fun l => { l with queue := List.replicate n .claim }) (withStore (fun s => { s with
    wants := [{ asset := 7, span := none }, { asset := 9, span := some (4, 20) }], outstanding := [7] }) (withDecode (fun d => { d with
      running := some (.page { id := { asset := 9, index := 0 }, tag := 0 }) }) base))

def want5 : WantBody := { asset := 5, first := 0, count := 1 }

theorem test_hyp_WantTrimsTheList_queueing :
    (wanting 3).Listens ∧ 2 ≤ (wanting 3).number ∧ (wanting 3).number ≤ 5 ∧ (wanting 3).blocks.decode.running.isSome = true
      ∧ (wanting 3).blocks.decode.deferred = false ∧ (wanting 3).blocks.store.roomWait = []
      ∧ (wanting 3).scene.pendingPage = none ∧ (wanting 3).scene.pendingIndex = none
      ∧ ((wanting 3).closed 2 (some (.want want5))).link.queue.length = 3
      ∧ ((wanting 4).closed 2 (some (.want want5))).link.queue.length = 4
      ∧ ((wanting 2).closed 2 (some (.want want5))).link.silent = false
      ∧ [7].contains 7 = true ∧ [7].contains 9 = false ∧ [7, 9].contains 9 = true
      ∧ (after (.want 2 want5) (on (wanting 3))).station.blocks.link.queue.getLast?
          = some (.want { asset := 9, first := 4, count := 16 })
      ∧ (after (.want 2 want5) (on (wanting 3))).station.blocks.store.wants
          = [{ asset := 7, span := none }, { asset := 9, span := some (20, 20) }] := by decide

/-- Strip 0 of asset 7 waits for room in both forms, and nothing pins it any more. -/
def roomy (st : Station) : Station :=
  withStore (fun s => { s with roomWait := [{ id := strip7, inOpen := false }, { id := strip7, inOpen := true }] }) st

theorem test_hyp_WantTrimsTheList_room :
    (∃ e ∈ (withStore (fun s => ({ s with roles := { s.roles with shown := named7 } } : Store).setPacked
          { id := strip7, state := .held, units := 1, pins := 0, failures := 0, arrival := 0, data := [], checkWord := 0 })
          base).blocks.store.packed, 0 < e.pins
        ∧ ∃ d, (holding base).blocks.store.findPacked e.id = some d ∧ d.pins = 0)
      ∧ (roomy (holding base)).blocks.store.roomWait.length = 2
      ∧ (withStore (Store.setBad strip7) (withStore (Store.setBad strip7) base)).blocks.store.isBroken strip7 = true
      ∧ base.blocks.store.isBroken strip7 = false ∧ base.blocks.store.isHeld strip7 = false
      ∧ (holding base).blocks.store.isHeld strip7 = true
      ∧ strip7 ∈ (withStore (fun s => { s with roles := { s.roles with shown := named7 } }) base).blocks.store.roles.shown.strips
      ∧ strip7 ∉ base.blocks.store.roles.shown.strips ∧ base.blocks.decode.hasJob strip7 = false
      ∧ base.blocks.decode.pageJobs.length < 30
      ∧ 30 ≤ (List.replicate 30 ({ id := { asset := 9, index := 0 }, tag := 0 } : PageJob)).length := by
  refine ⟨⟨_, List.Mem.head _, ?_⟩, ?_⟩
  · exact ⟨by decide, _, rfl, rfl⟩
  · decide

/-- For the Answers of topics Asset and Page. -/
theorem test_hyp_AskQueuesAnAnswer_topics :
    base.mode = .running ∧ (holding (knows [] base)).blocks.store.asset 7 = some record7
      ∧ base.blocks.store.asset 7 = none ∧ ¬ 63 < 63 ∧ 63 < 64
      ∧ (after (.ask 0 2 1 7) (on (quiet (withLink (fun l => { l with rx := .idle }) (holding (knows [] base)))))).station.blocks.link.queue
          = []
      ∧ (after (.ask 0 2 1 7) (on (holding (knows [] base)))).station.blocks.link.queue
          = [.answer { topic := 1, argument := 7, busy := false, data := .asset (some 8) (some 8) 1 0 0 0 0 }]
      ∧ (after (.ask 0 2 3 5) (on (showing base))).station.blocks.link.queue
          = [.answer { topic := 3, argument := 5, busy := false
                       data := .page (some 2) true false false 2 0 [0, 1] [] }] := by decide

/-- A segment of asset 7, 8 by 8 pixels, strip 0, of one byte, its check word good or spoiled. -/
def segment (good : Bool) : List Byte :=
  let body := put16 7 ++ put16 8 ++ put16 8 ++ put16 0 ++ put16 1 ++ [0x55]
  body ++ put16 (if good then (checkWordOf body).toNat else (checkWordOf body).toNat + 1)

set_option maxRecDepth 50000 in
theorem test_hyp_SegmentsAreClassedAndFailuresCounted :
    (knows [] base).Runs ∧ readSegment [] = none
      ∧ ((readSegment (segment true)).map base.blocks.store.headerPasses) = some true ∧ base.blocks.store.asset 7 = none ∧ ((readSegment (segment true)).map Segment.passes) = some true
      ∧ ((readSegment (segment false)).map Segment.passes) = some false
      ∧ ((readSegment (segment true)).map (knows [] base).blocks.store.headerPasses) = some true
      ∧ (knows [] base).blocks.store.asset 7 = some record7
      ∧ (holding (knows [] base)).blocks.store.isHeld strip7 = true
      ∧ (knows [] base).blocks.store.findPacked strip7 = none
      ∧ (knows [placed7 240] base).blocks.store.placed strip7 = true
      ∧ (knows [placed7 240] base).blocks.store.needed base.geometry strip7 = false
      ∧ (knows [placed7 232] base).blocks.store.needed base.geometry strip7 = true
      ∧ (1 + 4095) / 4096 ≤ (knows [placed7 232] base).blocks.store.freeUnits
      ∧ (knows [] base).blocks.store.placed strip7 = false
      ∧ 4096 + (1 + 4095) / 4096 ≤ (knows [] base).blocks.store.freeUnits
      ∧ (knows [placed7 232] base).blocks.store.isHeld strip7 = false
      ∧ (knows [placed7 232] base).blocks.store.isBroken strip7 = false
      ∧ ((knows [placed7 232] base).blocks.store.packedOrNew strip7).failures = 0
      ∧ ((withStore (Store.setBad strip7) (knows [placed7 232] base)).blocks.store.packedOrNew strip7).failures = 1 := by
  decide

/-- A store with this many units free, the rest held by two unpinned strips of asset 9. -/
def crowded (free : Nat) (st : Station) : Station :=
  withStore (fun s => { s with
    packed := [{ id := { asset := 9, index := 0 }, state := .held, units := 3, pins := 0, failures := 0, arrival := 5
                 data := [], checkWord := 0 }]
    opened := [{ id := { asset := 9, index := 1 }, ready := true, units := 16384 - 3 - free, pins := 0, lastShown := 0, rows := [] }]
    freeUnits := free }) st

/-- The same with the strips pinned. -/
def full (free : Nat) (st : Station) : Station :=
  withStore (fun s => { s with
    packed := s.packed.map (fun e => { e with pins := 1 }), opened := s.opened.map (fun e => { e with pins := 1 }) })
    (crowded free st)

set_option maxRecDepth 50000 in
theorem test_hyp_SegmentsAreClassed_room :
    (crowded 0 (knows [placed7 232] base)).blocks.store.unitsWf = true
      ∧ (crowded 0 (knows [placed7 232] base)).blocks.store.freeUnits < (1 + 4095) / 4096
      ∧ (1 + 4095) / 4096 ≤ (crowded 0 (knows [placed7 232] base)).blocks.store.candidateUnits none
      ∧ (full 0 (knows [placed7 232] base)).blocks.store.candidateUnits none = 0
      ∧ (crowded 4096 (knows [] base)).blocks.store.freeUnits < 4096 + (1 + 4095) / 4096
      ∧ (after (.segmentArrival (segment true)) (on (crowded 0 (knows [placed7 232] base)))).station.blocks.store.isHeld strip7 = true
      ∧ (after (.segmentArrival (segment true)) (on (full 0 (knows [placed7 232] base)))).station.blocks.store.roomWait
          = [{ id := strip7, inOpen := false }]
      ∧ (after (.segmentArrival (segment true)) (on (full 0 (knows [placed7 232] base)))).station.blocks.link.queue
          = [.fault (exhaustedFault strip7 false 1 0)]
      ∧ (after (.segmentArrival (segment true)) (on (crowded 4096 (knows [] base)))).station.blocks.store.isSpoiled strip7 = true
      ∧ (quiet (knows [placed7 232] base)).Quiet ∧ (quiet (knows [placed7 232] base)).blocks.store.pinsWf = true := by decide

/-- The first segment of an asset that the pending page set names as unresolved. -/
def unresolved7 : Station :=
  withStore (fun s => { s with
    wants := [{ asset := 7, span := none }]
    roles := { s.roles with pending := { strips := [], unresolved := [placed7 0] } } }) base

set_option maxRecDepth 50000 in
theorem test_hyp_SegmentsAreClassed_first :
    unresolved7.blocks.store.asset 7 = none ∧ unresolved7.blocks.store.roles.pending.unresolved = [placed7 0]
      ∧ (placed7 0).strips base.geometry 8 = [0]
      ∧ (after (.segmentArrival (segment true)) (on unresolved7)).station.blocks.store.roles.pending = named7
      ∧ (after (.segmentArrival (segment true)) (on unresolved7)).station.blocks.store.asset 7 = some record7 := by decide

def pageJob : PageJob := { id := strip7, tag := 1 }

def preparing : Station :=
  withDecode (fun d => { d with running := some (.page pageJob) }) (withStore (fun s => s.setOpened
    { id := strip7, ready := false, units := 1, pins := 0, lastShown := 0, rows := [] }) (holding (knows [] base)))

theorem test_hyp_PagePrepareEnds :
    preparing.Runs ∧ preparing.blocks.decode.running = some (.page pageJob)
      ∧ (preparing.blocks.store.findOpened pageJob.id).map (fun e => (e.id, e.ready)) = some (strip7, false)
      ∧ (preparing.blocks.store.findPacked pageJob.id).isSome = true := by decide

def held9 (st : Station) : Station := withStore (fun s => ({ s with assets := [record7, { record7 with id := 9 }] } : Store).setPacked
  { id := { asset := 9, index := 0 }, state := .held, units := 1, pins := 0, failures := 0, arrival := 1, data := [], checkWord := 0 }) st

def job9 : PageJob := { id := { asset := 9, index := 0 }, tag := 1 }

/-- A change to page 5 whose need set is strip 0 of asset 7. -/
def needing (st : Station) : Station :=
  withStore (fun s => s.setRoles (fun r => { r with pending := named7 })) (pendingPage [] st)

def preparing7 (st : Station) : Station :=
  withDecode (fun d => { d with running := some (.page pageJob) }) (withStore (fun s => s.setOpened
    { id := strip7, ready := false, units := 1, pins := 0, lastShown := 0, rows := [] }) (holding (knows [] st)))

theorem test_hyp_PagePrepareEnds_next :
    (withDecode (fun d => { d with pageJobs := [job9] }) (held9 preparing)).blocks.decode.pageJobs = [job9]
      ∧ (held9 preparing).blocks.store.isHeld job9.id = true ∧ (held9 preparing).blocks.store.findOpened job9.id = none
      ∧ (held9 preparing).blocks.store.asset 9 = some { record7 with id := 9 }
      ∧ (8 * 32 + 4095) / 4096 ≤ (held9 preparing).blocks.store.freeUnits
      ∧ (held9 preparing).blocks.store.pinsWf = true ∧ (held9 preparing).blocks.decode.deferred = false
      ∧ (after (.pagePrepareComplete (some [])) (on (withDecode (fun d => { d with pageJobs := [job9] })
          (held9 preparing)))).station.blocks.decode.running = some (.page job9) := by decide

theorem test_hyp_PagePrepareEnds_ready :
    (preparing7 (needing base)).Runs ∧ (preparing7 (needing base)).blocks.decode.pageJobs = []
      ∧ (preparing7 (needing base)).blocks.decode.suspended = none ∧ (preparing7 (needing base)).blocks.decode.batch = none
      ∧ (preparing7 (needing base)).blocks.decode.check = none ∧ (preparing7 (needing base)).scene.pendingPage = some 5
      ∧ (preparing7 (needing base)).blocks.decode.pageReadySent = false
      ∧ (preparing7 (needing base)).blocks.store.roles.pending = named7
      ∧ (preparing7 (needing base)).blocks.store.isBad strip7 = false
      ∧ (preparing7 (needing base)).blocks.store.isReady { asset := 9, index := 0 } = false
      ∧ (after (.pagePrepareComplete (some [])) (on (preparing7 (needing base)))).station.blocks.link.queue
          = [.ready { stream := 0, index := 5, change := 1 }]
      ∧ (after (.pagePrepareComplete (some [])) (on (preparing7 (withStore (fun s => { s with
          roles := { s.roles with pending := { strips := [strip7, { asset := 9, index := 0 }], unresolved := [] } } })
          (pendingPage [] base))))).station.blocks.link.queue = [] := by decide

/-- A strip on the room-wait list is short, though it is Open and Ready (R117). -/
def waitingRoom : Station := withStore (fun s => { s with roomWait := [{ id := strip7, inOpen := false }] }) (preparing7 (needing base))

theorem test_hyp_PagePrepareEnds_roomWait :
    waitingRoom.blocks.store.pinsWf = true ∧ (preparing7 (needing base)).blocks.store.pinsWf = true
      ∧ (after (.pagePrepareComplete (some [])) (on waitingRoom)).station.blocks.store.isReady strip7 = true
      ∧ (after (.pagePrepareComplete (some [])) (on waitingRoom)).station.blocks.link.queue = [] := by decide

/-- For the clauses on the choice of a job, its start, the refill and room. -/
theorem test_hyp_PagePrepareEnds_choice :
    base.blocks.decode.running = none ∧ base.blocks.decode.pageJobs = [] ∧ base.blocks.decode.suspended = none
      ∧ base.blocks.decode.batch = none ∧ checking.blocks.decode.check.isSome = true
      ∧ (withDecode (fun d => { d with batch := some batch7 }) (holding (knows [] base))).blocks.eligible batch7 = true
      ∧ (withDecode (fun d => { d with batch := some batch7 }) base).blocks.eligible batch7 = false
      ∧ base.blocks.store.isHeld strip7 = false ∧ (holding base).blocks.store.isHeld strip7 = true
      ∧ (holding base).blocks.store.findOpened strip7 = none
      ∧ ((withStore (fun s => { s with freeUnits := 0 }) (knows [] base)).blocks.findRoom (some strip7) 1) = none
      ∧ (withDecode (fun d => { d with deferred := true }) base).blocks.decode.deferred = true
      ∧ base.blocks.decode.pageJobs.length < 30 ∧ base.blocks.decode.deferred = false
      ∧ (crowded 0 base).blocks.store.unitsWf = true ∧ ((crowded 0 base).blocks.store.openCandidates none).length = 1
      ∧ ((crowded 0 base).blocks.store.packedCandidates none).length = 1
      ∧ ((full 0 base).blocks.store.openCandidates none) = [] ∧ ((full 0 base).blocks.store.packedCandidates none) = []
      ∧ ((withStore (fun s => { s with opened := [] }) (crowded 0 base)).blocks.store.openCandidates none) = [] := by decide

def batching (stopping : Bool) : Station :=
  withDecode (fun d => { d with running := some (.batch batch7 0 stopping) }) (holding (knows [] base))

def checkJob : CheckJob := { first := 0, stop := 1024, position := none, checked := 0, bad := 0, firstBad := none }

def testing (st : Station) : Station := withDecode (fun d => { d with running := some (.check checkJob strip7) }) st

def strip9 : Strip := { asset := 9, index := 0 }

theorem test_hyp_BatchAndCheckStripsEnd :
    (batching true).Runs ∧ (batching true).blocks.decode.running = some (.batch batch7 0 true)
      ∧ (batching false).blocks.decode.running = some (.batch batch7 0 false) ∧ batch7.begun = true
      ∧ batch7.change = some 1 ∧ (∀ e ∈ batch7.strips.getD [], e.1 ≠ 0 → e.2 ≠ .pending)
      ∧ (batching false).blocks.store.asset batch7.content.asset = some record7
      ∧ (testing (holding (knows [] base))).Runs
      ∧ (testing (holding (knows [] base))).blocks.store.unchecked { checkJob with position := some strip7, checked := 1 } = []
      ∧ ((withStore (fun s => s.setPacked { id := strip9, state := .held, units := 1, pins := 0, failures := 0, arrival := 1
                                            data := [], checkWord := 0 }) (testing (holding (knows [] base)))).blocks.store.unchecked
          { checkJob with position := some strip7, checked := 1 }).length = 1
      ∧ (testing base).blocks.decode.pageJobs = [] ∧ (testing base).blocks.decode.batch = none
      ∧ (testing base).blocks.decode.suspended = none := by decide

/-- A batch of asset 7 whose strip 0 is in progress, and strip 1 pending. -/
def batch8 : Batch := { batch7 with strips := some [(0, .pending), (1, .pending)] }

def strip71 : Strip := { asset := 7, index := 1 }

/-- Strip 1 held or not, Page Prepare jobs in the queue. -/
def batching8 (both : Bool) (jobs : List PageJob) (decode : Decode → Decode) : Station :=
  withDecode (fun d => decode { d with running := some (.batch batch8 0 false), pageJobs := jobs })
    (withStore (fun s => if both then s.setPacked
      { id := strip71, state := .held, units := 1, pins := 0, failures := 0, arrival := 0, data := [], checkWord := 0 } else s)
      (held9 (holding (knows [] base))))

theorem test_hyp_BatchStrips :
    (batching8 true [] id).Runs ∧ (batching8 true [] id).blocks.decode.running = some (.batch batch8 0 false)
      ∧ batch8.begun = true ∧ batch8.strips = some [(0, .pending), (1, .pending)]
      ∧ (batching8 true [] id).blocks.decode.deferred = false ∧ (batching8 true [] id).blocks.store.roomWait = []
      ∧ (batching8 true [] id).blocks.store.isHeld strip71 = true ∧ (batching8 false [] id).blocks.store.isHeld strip71 = false
      ∧ (batching8 false [] id).blocks.store.isBroken strip71 = false
      ∧ (batching8 true [] id).blocks.store.asset 7 = some record7
      ∧ ((batching8 true [] id).blocks.store.findPacked strip7).isSome = true
      ∧ (after (.batchStripComplete none) (on (batching8 true [] id))).station.blocks.decode.running
          = some (.batch { batch8 with strips := some [(0, .filled), (1, .pending)], firstFailing := some 0 } 1 false)
      ∧ (after (.batchStripComplete (some [])) (on (batching8 false [] id))).station.blocks.decode.batch
          = some { batch8 with strips := some [(0, .done), (1, .pending)] }
      ∧ (batching8 true [job9] id).blocks.store.isHeld job9.id = true
      ∧ (batching8 true [job9] id).blocks.store.findOpened job9.id = none ∧ 3 ≤ batch8.progress
      ∧ (batching8 true [job9] id).scene.pendingIndex = none ∧ job9.id ≠ strip7
      ∧ (batching8 true [job9] id).blocks.store.openUnitsOf job9.id ≤ (batching8 true [job9] id).blocks.store.freeUnits
      ∧ (after (.batchStripComplete (some [])) (on (batching8 true [job9] id))).station.blocks.decode.suspended
          = some { batch8 with strips := some [(0, .done), (1, .pending)] } := by decide

/-- The last strip of the batch of a pending slide change, a removed batch with a new one behind it, and a failing Check. -/
theorem test_hyp_BatchEnds :
    ((pendingSlide [] .playing (batching false)).withScene (fun sc => { sc with slideChange := 1 })).Runs
      ∧ (after (.batchStripComplete (some [])) (on ((pendingSlide [] .playing (batching false)).withScene (fun sc => { sc with
          slideChange := 1 })))).station.blocks.link.queue = [.ready { stream := 1, index := 0, change := 1 }]
      ∧ (after (.batchStripComplete (some [])) (on (withBc (fun c => { c with
          transition := some { wipe := true, length := 4, step := 1 } }) ((pendingSlide [] .playing (batching false)).withScene
            (fun sc => { sc with slideChange := 1 }))))).station.blocks.link.queue = []
      ∧ (withDecode (fun d => { d with batch := some { batch7 with begun := false } }) (batching true)).blocks.decode.batch
          = some { batch7 with begun := false }
      ∧ (after (.batchStripComplete (some [])) (on (withDecode (fun d => { d with
          batch := some { batch7 with begun := false } }) (batching true)))).station.blocks.decode.running
          = some (.batch batch7 0 false)
      ∧ (after (.batchStripComplete (some [])) (on (withDecode (fun d => { d with
          batch := some { batch7 with begun := false, strips := some [] } }) ((pendingSlide [] .playing
            (batching true)))))).station.blocks.decode.reported = some 1
      ∧ (after (.checkStripComplete false) (on (testing (holding (knows [] base))))).station.blocks.link.queue
          = [.checkDone { checked := 1, bad := 1, firstBad := some (7, 0), remaining := 0 }]
      ∧ (after (.checkStripComplete true) (on (withDecode (fun d => { d with pageJobs := [job9] })
          (testing (held9 (holding (knows [] base))))))).station.blocks.decode.check
          = some { checkJob with position := some strip7, checked := 1 } := by decide

/-! ### What the end of an event leaves -/

/-- A slide switch and a job in progress at the same pulse. -/
theorem test_hyp_SlideSwitchBecomesVisible_back :
    (quiet aboutToShow).Runs ∧ (quiet aboutToShow).blocks.decode.running.isSome = true
      ∧ (after .frameStrobe (on (quiet aboutToShow))).station.blocks.bc.back.content = none
      ∧ (after .frameStrobe (on (withBc (fun c => { c with layerOn := true }) (quiet aboutToShow)))).station.blocks.bc.back.content
          = some content := by decide

/-- The 16th objection ends the outstanding Wants. -/
theorem test_hyp_VoidedMessages_wants :
    (withStore (fun s => { s with outstanding := [7] }) (sent 15)).blocks.store.outstanding = [7]
      ∧ (after (.messageVoided 4096) (on (withStore (fun s => { s with outstanding := [7] }) (sent 15)))).station.blocks.store.outstanding
          = []
      ∧ (after (.messageVoided 4096) (on (sent 15))).station.blocks.link.silent = true := by decide

/-- A batch in progress, one suspended and one queued, in a show that is not Playing. -/
def batchedShow : Station :=
  withDecode (fun d => { d with
    running := some (.batch batch7 0 false), suspended := some batch7, batch := some { batch7 with begun := false } })
    (base.withScene (fun sc => { sc with slides := [slide none] }))

theorem test_hyp_SlideRemoveAndClear_batches :
    batchedShow.Listens ∧ batchedShow.scene.show_ ≠ .playing
      ∧ (after (.slideClear 0) (on batchedShow)).station.blocks.decode
          = { Decode.reset with running := some (.batch batch7 0 true) }
      ∧ (after (.slideRemove 0 0) (on batchedShow)).station.blocks.decode
          = { Decode.reset with running := some (.batch batch7 0 true) } := by decide

theorem test_hyp_WantTrimsTheList_trimmed :
    (wanting 5).Listens ∧ (wanting 5).Quiet ∧ (3 : Nat) ≠ (wanting 5).number
      ∧ (after (.want 3 { asset := 9, first := 8, count := 4 }) (on (wanting 5))).station.blocks.store.wants
          = [{ asset := 7, span := none }, { asset := 9, span := some (4, 7) }, { asset := 9, span := some (12, 20) }] := by decide

theorem test_hyp_CheckIsQueuedOnce_taken :
    (quiet base).Listens ∧ (quiet base).blocks.decode.running.isSome = true ∧ (quiet base).blocks.decode.check = none
      ∧ (after (.check 0 2 0 4) (on (quiet base))).station.blocks.decode.check.isSome = true
      ∧ (holding (knows [] base)).Listens ∧ (holding (knows [] base)).blocks.decode = Decode.reset
      ∧ (holding (knows [] base)).blocks.store.roomWait = []
      ∧ (after (.check 0 2 0 0) (on (holding (knows [] base)))).station.blocks.decode.running = some (.check checkJob strip7)
      ∧ (after (.check 0 2 8 4) (on (holding (knows [] base)))).station.blocks.link.queue
          = [.checkDone { checked := 0, bad := 0, firstBad := none, remaining := 0 }] := by decide

/-- For the Station Status clauses: Joining, Spare, and a Running station with a job in progress; room in the queue, and none. -/
theorem test_hyp_AskQueuesAnAnswer_overflow :
    (framingIn .joining).framing = true ∧ (framingIn .spare).framing = true ∧ (wanting 3).framing = true
      ∧ (wanting 3).mode = .running ∧ (wanting 3).scene.pendingPage = none ∧ (wanting 3).scene.pendingIndex = none
      ∧ 3 ≤ ((wanting 3).closed 0 none).link.queue.length ∧ ((wanting 3).closed 0 none).link.queue.length < 8
      ∧ (after (.ask 0 2 0 0) (on (withLink (fun l => { l with overflow := true }) (wanting 3)))).station.blocks.link.overflow = false
      ∧ (after (.ask 0 2 0 0) (on (wanting 8))).station.blocks.link.overflow = true := by decide

/-- A finished strip that the pending page pins, one that nothing pins while no job asks for room, and one that fails. -/
theorem test_hyp_PagePrepareEnds_kept :
    (preparing7 (needing base)).blocks.store.unitsWf = true ∧ 0 < (preparing7 (needing base)).blocks.store.roles.pins strip7
      ∧ preparing.blocks.store.unitsWf = true ∧ preparing.blocks.decode.pageJobs = []
      ∧ preparing.blocks.decode.deferred = false ∧ preparing.blocks.store.roomWait = []
      ∧ (after (.pagePrepareComplete none) (on preparing)).station.blocks.store.isBad strip7 = true := by decide

/-- The end of a batch and of a Check with no other at hand. -/
theorem test_hyp_BatchAndCheckStripsEnd_kept :
    (batching true).blocks.decode.batch = none ∧ (batching true).blocks.decode.suspended = none
      ∧ (batching true).scene.show_ = .stopped ∧ (pendingSlide [] .playing (batching false)).scene.pendingIndex.isSome = true
      ∧ (batching true).blocks.store.unitsWf = true ∧ ((batching true).blocks.store.findPacked strip7).isSome = true
      ∧ (after (.batchStripComplete none) (on (batching true))).station.blocks.store.isBad strip7 = true
      ∧ (after (.batchStripComplete (some [])) (on (batching false))).station.blocks.bc.back.whole = true
      ∧ (testing (holding (knows [] base))).blocks.decode.check = none
      ∧ (testing (holding (knows [] base))).blocks.store.unitsWf = true
      ∧ (after (.checkStripComplete true) (on (testing (held9 (holding (knows [] base)))))).station.blocks.decode.running
          = some (.check { checkJob with position := some strip7, checked := 1 } strip9) := by decide

/-- A duration timer that an old run left running. -/
def timersAt9 : Timers := { Timers.reset with slideDuration := some (timer 9) }

/-- A duration timer that still runs at the Switch to an entry of duration 0 is idle after it (log 54). -/
theorem test_stale_duration_timer :
    ((timersAt9.slideSwitched true { base.scene with show_ := .playing } { slide none with duration := 0 }).slideDuration) = none
      ∧ ((timersAt9.slideSwitched true { base.scene with show_ := .playing } (slide none)).slideDuration)
          = some { tag := 0, remaining := 9 } := by decide

/-- For the six statements StepsKeep…, with test_hyp_StepsKeep_next. -/
theorem test_hyp_StepsKeep :
    base.blocks.link.wf = true ∧ base.scene.guard.wf = true ∧ base.scene.shapeWf = true ∧ base.scene.slidesWf = true
      ∧ (showing base).scene.pagesWf = true ∧ (showing base).scene.selectionWf = true
      ∧ (holding base).blocks.store.unitsWf = true ∧ (holding base).blocks.store.pinsWf = true
      ∧ base.blocks.decode.wf = true ∧ base.timersWf = true ∧ base.numberWf = true := by decide

theorem test_hyp_StepsKeep_next : ∃ t, step { on base with pending := [.frameStrobe] } = .next t := ⟨_, rfl⟩

end Sys2Proof.Tests
end

/-! The scene words: what the decision of the enabled states and the reselect rule make of the buttons, and what a Word Set does
to the machine. -/

namespace Sys2Proof.Machine

/-! ### The states of the buttons -/

theorem markOnly_enabled (target : Option Nat) (state : ButtonState) (i : Nat) (live : List Live) :
    (markOnly target state i live).map Live.enabled = live.map Live.enabled := by
  induction live generalizing i with
  | nil => rfl
  | cons l ls ih => simp [markOnly, ih]

theorem markOnly_markOnly (target : Option Nat) (state : ButtonState) (i : Nat) (live : List Live) :
    markOnly target state i (markOnly target state i live) = markOnly target state i live := by
  induction live generalizing i with
  | nil => rfl
  | cons l ls ih => simp [markOnly, ih]

/-- Whether a button is enabled depends on the enabled states alone. -/
theorem enabledAt_eq (live : List Live) (i : Nat) : enabledAt live i = ((live.map Live.enabled)[i]?).getD false := by
  unfold enabledAt
  rw [List.getElem?_map]
  cases live[i]? <;> rfl

/-- The first button found depends on what the test says of each button alone. -/
theorem firstIndex_congr {f : Live → Bool} {l m : List Live} (h : l.map f = m.map f) (i : Nat) :
    firstIndex f i l = firstIndex f i m := by
  induction l generalizing m i with
  | nil =>
    rw [List.map_nil, eq_comm, List.map_eq_nil_iff] at h
    rw [h]
  | cons a l ih =>
    cases m with
    | nil => exact absurd h (by simp)
    | cons b m =>
      obtain ⟨hab, hlm⟩ := List.cons_eq_cons.mp h
      unfold firstIndex
      rw [hab, ih hlm]

/-- The default choice depends on the shown page and the enabled states alone (R19). -/
theorem Scene.defaultChoice_congr {sc : Scene} {live : List Live} (h : live.map Live.enabled = sc.live.map Live.enabled) :
    ({ sc with live := live } : Scene).defaultChoice = sc.defaultChoice := by
  have hfirst : firstIndex Live.enabled 0 live = firstIndex Live.enabled 0 sc.live := firstIndex_congr h 0
  have hat : ∀ d, enabledAt live d = enabledAt sc.live d := fun d => by rw [enabledAt_eq, h, ← enabledAt_eq]
  have hshown : ({ sc with live := live } : Scene).shownBody = sc.shownBody := rfl
  unfold Scene.defaultChoice
  simp only [hshown, hat, hfirst]

/-- The Selected button depends on the buttons' states alone. -/
theorem Scene.selectedButton_congr {sc d : Scene} (h : d.live.map Live.state = sc.live.map Live.state) :
    d.selectedButton = sc.selectedButton := by
  have hsel := congrArg (List.map (fun s => s == ButtonState.selected)) h
  rw [List.map_map, List.map_map] at hsel
  exact firstIndex_congr hsel 0

/-! ### The decision and the reselect rule -/

theorem Scene.selectDefault_enabled (sc : Scene) : sc.selectDefault.live.map Live.enabled = sc.live.map Live.enabled :=
  markOnly_enabled _ _ _ _

/-- Selecting the default choice a second time changes nothing (R19, R20). -/
theorem Scene.selectDefault_live (sc : Scene) :
    sc.selectDefault.live = markOnly sc.selectDefault.defaultChoice .selected 0 sc.selectDefault.live := by
  have hd : sc.selectDefault.defaultChoice = sc.defaultChoice := Scene.defaultChoice_congr sc.selectDefault_enabled
  rw [hd]
  exact (markOnly_markOnly _ _ _ _).symm

theorem Scene.decideEnabled_frame (sc : Scene) : sc.decideEnabled = { sc with live := sc.decideEnabled.live } := by
  unfold Scene.decideEnabled
  split <;> rfl

/-- The reselect rule leaves the replica as it is or selects the default choice (R20). -/
theorem Scene.reselect_cases (sc : Scene) : sc.reselect = sc ∨ sc.reselect = sc.selectDefault := by
  unfold Scene.reselect
  split
  · exact .inl rfl
  · split
    · exact .inl rfl
    · exact .inr rfl

theorem Scene.reselect_frame (sc : Scene) : sc.reselect = { sc with live := sc.reselect.live } := by
  rcases sc.reselect_cases with h | h
  · rw [h]
  · rw [h]
    rfl

theorem Scene.reselect_enabled (sc : Scene) : sc.reselect.live.map Live.enabled = sc.live.map Live.enabled := by
  rcases sc.reselect_cases with h | h
  · rw [h]
  · rw [h]
    exact sc.selectDefault_enabled

/-- A Selected button that is enabled stays Selected (R20). -/
theorem Scene.reselect_of_enabled {sc : Scene} {i : Nat} (hs : sc.selectedButton = some i)
    (he : enabledAt sc.live i = true) : sc.reselect = sc := by
  unfold Scene.reselect
  rw [hs]
  exact if_pos he

/-- A Selected button that is disabled gives way to the default choice (R20). -/
theorem Scene.reselect_of_disabled {sc : Scene} {i : Nat} (hs : sc.selectedButton = some i)
    (he : enabledAt sc.live i = false) : sc.reselect = sc.selectDefault := by
  unfold Scene.reselect
  rw [hs]
  exact if_neg (by simp [he])

/-! ### The recomputation -/

/-- The recomputation touches the buttons' records alone (R18, R20). -/
theorem Scene.recompute_frame (sc : Scene) : sc.recompute = { sc with live := sc.recompute.live } := by
  have hr : sc.recompute = { sc.decideEnabled with live := sc.recompute.live } := sc.decideEnabled.reselect_frame
  rw [sc.decideEnabled_frame] at hr
  exact hr

section Shown

variable {sc : Scene} {pg : PageBody} (hp : sc.shownBody = some pg) (hl : sc.live.length = pg.buttons.length)
include hp

theorem Scene.decideEnabled_live :
    sc.decideEnabled.live
      = List.zipWith (fun b l => { l with enabled := enabledBy sc.words b }) pg.buttons sc.live := by
  unfold Scene.decideEnabled
  rw [hp]

include hl

/-- Each button is enabled as its condition says of the words (R17, R18). -/
theorem Scene.decideEnabled_enabled : sc.decideEnabled.live.map Live.enabled = pg.buttons.map (enabledBy sc.words) := by
  rw [Scene.decideEnabled_live hp, List.map_zipWith]
  calc List.zipWith (fun b _ => enabledBy sc.words b) pg.buttons sc.live
      = (List.zip pg.buttons sc.live).map (enabledBy sc.words ∘ Prod.fst) :=
        (List.map_zip_eq_zipWith (f := enabledBy sc.words ∘ Prod.fst)).symm
    _ = ((List.zip pg.buttons sc.live).map Prod.fst).map (enabledBy sc.words) := List.map_map.symm
    _ = pg.buttons.map (enabledBy sc.words) := by rw [List.map_fst_zip hl.ge]

/-- The decision leaves each button Normal, Selected or Activated as it was (R18). -/
theorem Scene.decideEnabled_state : sc.decideEnabled.live.map Live.state = sc.live.map Live.state := by
  rw [Scene.decideEnabled_live hp, List.map_zipWith]
  calc List.zipWith (fun _ l => l.state) pg.buttons sc.live
      = (List.zip pg.buttons sc.live).map (Live.state ∘ Prod.snd) :=
        (List.map_zip_eq_zipWith (f := Live.state ∘ Prod.snd)).symm
    _ = ((List.zip pg.buttons sc.live).map Prod.snd).map Live.state := List.map_map.symm
    _ = sc.live.map Live.state := by rw [List.map_snd_zip hl.le]

theorem Scene.decideEnabled_enabledAt {i : Nat} {b : Button} (hb : pg.buttons[i]? = some b) :
    enabledAt sc.decideEnabled.live i = enabledBy sc.words b := by
  rw [enabledAt_eq, Scene.decideEnabled_enabled hp hl, List.getElem?_map, hb]
  rfl

theorem Scene.recompute_enabled : sc.recompute.live.map Live.enabled = pg.buttons.map (enabledBy sc.words) :=
  (sc.decideEnabled.reselect_enabled).trans (Scene.decideEnabled_enabled hp hl)

section Selected

variable {i : Nat} {b : Button} (hs : sc.selectedButton = some i) (hb : pg.buttons[i]? = some b)
include hs hb

theorem Scene.recompute_of_enabled (he : enabledBy sc.words b = true) :
    sc.recompute.live.map Live.state = sc.live.map Live.state := by
  have hstate := Scene.decideEnabled_state hp hl
  have hkeep : sc.recompute = sc.decideEnabled := Scene.reselect_of_enabled
    ((Scene.selectedButton_congr hstate).trans hs) ((Scene.decideEnabled_enabledAt hp hl hb).trans he)
  rw [hkeep]
  exact hstate

theorem Scene.recompute_of_disabled (he : enabledBy sc.words b = false) :
    sc.recompute.live = markOnly sc.recompute.defaultChoice .selected 0 sc.recompute.live := by
  have hgive : sc.recompute = sc.decideEnabled.selectDefault := Scene.reselect_of_disabled
    ((Scene.selectedButton_congr (Scene.decideEnabled_state hp hl)).trans hs)
    ((Scene.decideEnabled_enabledAt hp hl hb).trans he)
  rw [hgive]
  exact sc.decideEnabled.selectDefault_live

end Selected
end Shown

/-! ### The rule of a message and its refusal -/

theorem State.Becomes.scene_eq {s t : State} {sc : Scene} {ti : Timers} {b : Blocks} (h : s.Becomes sc ti b t) :
    t.station.scene = sc := by
  rw [h.1]

/-- What the rule of a message makes of a station that has heard it, the command makes of the machine, but for the end of the
event. -/
theorem State.close_whenRunning_becomes {s : State} {src : Nat} {own : Option Message} {rule : Station → Station}
    (h : s.station.Listens) (hs : src < 6) {sc : Scene} {ti : Timers} {b : Blocks}
    (hr : rule (s.station.heard src own) = { s.station with scene := sc, timers := ti, blocks := b }) :
    ∃ t, s.event (Station.close src own (Station.whenRunning rule)) = .next t ∧ s.Becomes sc ti b t := by
  have hmode : (s.station.heard src own).mode = .running := h.1
  exact State.close_becomes h hs ((Station.whenRunning_of hmode).trans hr)

/-- A refusal at the close of a message leaves the blocks that `Station.refusal` names (R62). -/
theorem Station.refuse_heard (k : FaultKind) (kind src : Nat) (p q : Option Nat) (st : Station) :
    (st.heard src none).refuse k { kind := kind, src := src } p q
      = { st with blocks := st.refusal k kind p q src } := by
  have hsp : (st.heard src none).isSpeaker = st.isSpeaker := rfl
  unfold Station.refuse Station.refusal
  rw [hsp]
  cases st.isSpeaker <;> rfl

/-! ### Word Set -/

theorem exec_wordSet (src w : Nat) (v : Half) (s : State) :
    exec (.wordSet src w v) s = s.event (Station.close src none (Station.whenRunning (Station.applyWordSet src w v))) := rfl

theorem Station.applyWordSet_of_le {w : Nat} (v : Half) (h : w ≤ 7) (st : Station) :
    st.applyWordSet 0 w v = st.withScene (fun sc => sc.setWord w v) := by
  unfold Station.applyWordSet
  rw [if_neg (by simp), if_neg (by omega)]

theorem Station.applyWordSet_of_gt {w : Nat} (v : Half) (h : 7 < w) (st : Station) :
    st.applyWordSet 0 w v = st.refuse .badDefinition { kind := 0x1C, src := 0 } (some w) none := by
  unfold Station.applyWordSet
  rw [if_neg (by simp), if_pos h]
  rfl

theorem Station.applyWordSet_of_ne {src : Nat} (w : Nat) (v : Half) (h : src ≠ 0) (st : Station) :
    st.applyWordSet src w v = st := if_pos h

theorem wordSet_taken {s : State} {w : Nat} (v : Half) (hs : s.station.Listens) (hw : w ≤ 7) :
    ∃ t, exec (.wordSet 0 w v) s = .next t
      ∧ s.Becomes (s.station.scene.setWord w v) s.station.timers (s.station.closed 0 none) t := by
  rw [exec_wordSet]
  refine State.close_whenRunning_becomes hs (by decide) ?_
  rw [Station.applyWordSet_of_le v hw]
  rfl

theorem wordSet_refused {s : State} {w : Nat} (v : Half) (hs : s.station.Listens) (hw : 7 < w) :
    ∃ t, exec (.wordSet 0 w v) s = .next t
      ∧ s.Becomes s.station.scene s.station.timers (s.station.refusal .badDefinition 0x1C (some w) none 0) t := by
  rw [exec_wordSet]
  refine State.close_whenRunning_becomes hs (by decide) ?_
  rw [Station.applyWordSet_of_gt v hw]
  exact Station.refuse_heard _ _ _ _ _ _

theorem wordSet_ignored {s : State} {src : Nat} (w : Nat) (v : Half) (hs : s.station.Listens) (h : src ≠ 0) :
    ∃ t, exec (.wordSet src w v) s = .next t
      ∧ s.Becomes s.station.scene s.station.timers (s.station.closed src none) t := by
  rw [exec_wordSet]
  refine State.close_passes (Station.framing_of_listens hs) fun _ st => ?_
  unfold Station.whenRunning
  rw [Station.applyWordSet_of_ne w v h, ite_self]

/-- Settles O27: the command by the three branches of its rule, the recomputation by the two outcomes of the reselect rule. -/
theorem wordSetTakesTheWordWhole : Obligations.WordSetTakesTheWordWhole := by
  refine ⟨fun s w v hs => ⟨fun hw => ?_, wordSet_refused v hs, fun _ => wordSet_ignored w v hs⟩, fun sc pg hp hl =>
    ⟨sc.recompute_frame, Scene.recompute_enabled hp hl, fun _ _ => Scene.recompute_of_enabled hp hl,
      fun _ _ => Scene.recompute_of_disabled hp hl⟩⟩
  obtain ⟨t, ht, hb⟩ := wordSet_taken v hs hw
  refine ⟨t, ht, hb, ?_⟩
  rw [hb.scene_eq]
  exact Scene.recompute_frame _

end Sys2Proof.Machine

/-! Keys that edit the replica alone: what every Key brings to a shown page, and what the digit keys, Clear and the codes
without an action add to it. -/

namespace Sys2Proof.Machine

/-! ### The closing of an activation -/

theorem Scene.closeActivation_of_none {sc : Scene} (h : sc.activatedButton = none) : sc.closeActivation = sc := by
  unfold Scene.closeActivation
  rw [h]

/-- An Activated button that is enabled is Selected again (R26). -/
theorem Scene.closeActivation_of_enabled {sc : Scene} {i : Nat} (ha : sc.activatedButton = some i)
    (he : enabledAt sc.live i = true) : sc.closeActivation = { sc with live := markOnly (some i) .selected 0 sc.live } := by
  unfold Scene.closeActivation
  rw [ha]
  exact if_pos he

/-- An Activated button that is disabled gives way to the default choice (R26). -/
theorem Scene.closeActivation_of_disabled {sc : Scene} {i : Nat} (ha : sc.activatedButton = some i)
    (he : enabledAt sc.live i = false) : sc.closeActivation = sc.selectDefault := by
  unfold Scene.closeActivation
  rw [ha]
  exact if_neg (by simp [he])

theorem enabledAt_of_getElem? {live : List Live} {i : Nat} {l : Live} (h : live[i]? = some l) :
    enabledAt live i = l.enabled := by
  unfold enabledAt
  rw [h]

/-! ### What every Key brings -/

/-- Steps 1 and 2 of a Key, in the order in which the model takes them (R25). -/
theorem Scene.raiseActivity_closeActivation (sc : Scene) : sc.raiseActivity.closeActivation = sc.keyed := by
  have hsame : sc.raiseActivity.activatedButton = sc.activatedButton := rfl
  unfold Scene.keyed
  cases ha : sc.activatedButton with
  | none => rw [Scene.closeActivation_of_none ha, Scene.closeActivation_of_none (hsame.trans ha)]; rfl
  | some i =>
    cases he : enabledAt sc.live i with
    | true => rw [Scene.closeActivation_of_enabled ha he, Scene.closeActivation_of_enabled (hsame.trans ha) he]; rfl
    | false => rw [Scene.closeActivation_of_disabled ha he, Scene.closeActivation_of_disabled (hsame.trans ha) he]; rfl

theorem Scene.keyed_live (sc : Scene) : sc.keyed.live = sc.closeActivation.live := rfl

theorem Scene.keyed_live_of_none {sc : Scene} (h : sc.activatedButton = none) : sc.keyed.live = sc.live :=
  sc.keyed_live.trans (congrArg Scene.live (Scene.closeActivation_of_none h))

theorem Scene.keyed_live_of_enabled {sc : Scene} {i : Nat} (ha : sc.activatedButton = some i)
    (he : enabledAt sc.live i = true) : sc.keyed.live = markOnly (some i) .selected 0 sc.live :=
  sc.keyed_live.trans (congrArg Scene.live (Scene.closeActivation_of_enabled ha he))

theorem Scene.keyed_live_of_disabled {sc : Scene} {i : Nat} (ha : sc.activatedButton = some i)
    (he : enabledAt sc.live i = false) : sc.keyed.live = markOnly sc.defaultChoice .selected 0 sc.live :=
  sc.keyed_live.trans (congrArg Scene.live (Scene.closeActivation_of_disabled ha he))

theorem Scene.keyed_shownBody (sc : Scene) : sc.keyed.shownBody = sc.shownBody := rfl

/-- A page with a timeout has its full timeout, tagged with the replica's activity number (R40). -/
theorem Scene.pageTimer_eq_some {sc : Scene} {b : PageBody} (hb : sc.shownBody = some b) (ht : b.header.timeout ≠ 0) :
    sc.pageTimer = some { tag := sc.activity, remaining := 8 * b.header.timeout } := by
  unfold Scene.pageTimer
  rw [hb]
  exact if_neg ht

theorem Timers.keyed_pageTimeout {sc : Scene} {p : Timer} (t : Timers) (h : sc.pageTimer = some p) :
    (t.keyed true sc).pageTimeout = some p := by
  unfold Timers.keyed
  rw [h]
  rfl

/-- A Key whose event began no page change restarts the speaker's page timeout (R25, R40). -/
theorem Station.restartTimeout_false (st : Station) :
    st.restartTimeout false = { st with timers := st.timers.keyed st.isSpeaker st.scene } := by
  unfold Station.restartTimeout Timers.keyed
  cases st.isSpeaker with
  | false => rfl
  | true => cases st.scene.pageTimer <;> rfl

/-- A Key whose action is the edit `f` of what steps 1 and 2 left of the replica: no page change begins, so the page timeout is
restarted (R25). -/
theorem Station.pressKey_of_edit {c : Cause} {a : KeyAction} {f : Scene → Scene} {st : Station}
    (ha : ∀ st' : Station, st'.keyAction c st.scene.chosenButton a = (false, st'.withScene f))
    (hsp : (f st.scene.keyed).speaker = st.scene.speaker) :
    st.pressKey c a
      = { st with scene := f st.scene.keyed, timers := st.timers.keyed st.isSpeaker (f st.scene.keyed) } := by
  have hscene : f st.scene.raiseActivity.closeActivation = f st.scene.keyed :=
    congrArg f st.scene.raiseActivity_closeActivation
  have hspeaks : ({ st with scene := f st.scene.keyed } : Station).isSpeaker = st.isSpeaker := by
    unfold Station.isSpeaker
    rw [hsp]
  calc st.pressKey c a
      = ({ st with scene := f st.scene.raiseActivity.closeActivation } : Station).restartTimeout false := by
        unfold Station.pressKey
        dsimp only
        rw [ha]
        rfl
    _ = { st with scene := f st.scene.keyed, timers := st.timers.keyed st.isSpeaker (f st.scene.keyed) } := by
        rw [hscene, Station.restartTimeout_false, hspeaks]

/-! ### The command -/

theorem exec_key (src code : Nat) (s : State) :
    exec (.key src code) s = s.event (Station.close src none (Station.whenRunning (Station.applyKey src code))) := rfl

theorem Station.applyKey_of_shown (code : Nat) {st : Station} (h : st.scene.shown.isSome = true) :
    st.applyKey 0 code = st.pressKey { kind := kindKey, src := 0 } (readKey code) := if_pos ⟨rfl, h⟩

/-- With no page shown a Key is ignored (R24). -/
theorem Station.applyKey_of_none (src code : Nat) {st : Station} (h : st.scene.shown = none) :
    st.applyKey src code = st := if_neg (by simp [h])

/-- A Key that edits the replica by `f` leaves the edited replica and the restarted page timeout. -/
theorem key_becomes {s : State} {code : Nat} {f : Scene → Scene} (hs : s.station.Listens)
    (hshown : s.station.scene.shown.isSome = true) (hsp : (f s.station.scene.keyed).speaker = s.station.scene.speaker)
    (ha : ∀ (c : Cause) (st : Station),
      st.keyAction c s.station.scene.chosenButton (readKey code) = (false, st.withScene f)) :
    ∃ t, exec (.key 0 code) s = .next t
      ∧ s.Becomes (f s.station.scene.keyed) (s.station.timers.keyed s.station.isSpeaker (f s.station.scene.keyed))
          (s.station.closed 0 none) t := by
  rw [exec_key]
  refine State.close_whenRunning_becomes hs (by decide) ?_
  rw [Station.applyKey_of_shown code (st := s.station.heard 0 none) hshown,
    Station.pressKey_of_edit (st := s.station.heard 0 none) (ha _) hsp]
  rfl

theorem key_ignored {s : State} (code : Nat) (hs : s.station.Listens) (hshown : s.station.scene.shown = none) :
    ∃ t, exec (.key 0 code) s = .next t
      ∧ s.Becomes s.station.scene s.station.timers (s.station.closed 0 none) t := by
  rw [exec_key]
  refine State.close_whenRunning_becomes hs (by decide) ?_
  rw [Station.applyKey_of_none 0 code (st := s.station.heard 0 none) hshown]
  rfl

/-! ### Digit keys -/

theorem readKey_of_le {d : Nat} (h : d ≤ 9) : readKey d = .digit d := if_pos h

/-- The numeric entry after a digit, read from the side of the room left (R28). -/
theorem appendDigit_eq (entry : List Nat) (d : Nat) :
    appendDigit entry d = if entry.length < 4 then entry ++ [d] else entry.tail ++ [d] := by
  unfold appendDigit
  split
  · next h => rw [if_neg (by omega)]
  · next h => rw [if_pos (by omega)]

/-- A digit never makes an entry of at most four digits longer than four (R27, R28). -/
theorem appendDigit_length_le {entry : List Nat} (d : Nat) (h : entry.length ≤ 4) : (appendDigit entry d).length ≤ 4 := by
  unfold appendDigit
  split
  · next hfull => rw [List.length_append, List.length_tail, List.length_singleton]; omega
  · next hroom => rw [List.length_append, List.length_singleton]; omega

theorem digitKey_becomes {s : State} {d : Nat} (hs : s.station.Listens) (hd : d ≤ 9)
    (hshown : s.station.scene.shown.isSome = true) {sc : Scene}
    (hsc : sc = { s.station.scene.keyed with entry := appendDigit s.station.scene.entry d }) :
    ∃ t, exec (.key 0 d) s = .next t
      ∧ s.Becomes sc (s.station.timers.keyed s.station.isSpeaker sc) (s.station.closed 0 none) t := by
  subst hsc
  refine key_becomes (f := fun sc => { sc with entry := appendDigit sc.entry d }) hs hshown rfl fun c st => ?_
  rw [readKey_of_le hd]
  rfl

/-- Settles O23: with a page shown the digit is the Key's whole action, with none the Key is ignored. -/
theorem digitKeyAppendsItsDigit : Obligations.DigitKeyAppendsItsDigit := by
  intro s d sc hs hd hsc
  rw [← appendDigit_eq] at hsc
  refine ⟨fun hshown => ?_, key_ignored d hs⟩
  obtain ⟨t, ht, hb⟩ := digitKey_becomes hs hd hshown hsc
  refine ⟨t, ht, hb, fun hnone => ?_, fun hlen => ?_⟩
  · rw [hb.scene_eq, hsc]
    exact Scene.keyed_live_of_none hnone
  · rw [hb.scene_eq, hsc]
    exact appendDigit_length_le d hlen

/-! ### Clear and the codes without an action -/

theorem readKey_clear : readKey 0x15 = .clear := rfl

theorem clearKey_becomes {s : State} (hs : s.station.Listens) (hshown : s.station.scene.shown.isSome = true) {sc : Scene}
    (hsc : sc = { s.station.scene.keyed with entry := [] }) :
    ∃ t, exec (.key 0 0x15) s = .next t
      ∧ s.Becomes sc (s.station.timers.keyed s.station.isSpeaker sc) (s.station.closed 0 none) t := by
  subst hsc
  refine key_becomes (f := fun sc => { sc with entry := [] }) hs hshown rfl fun c st => ?_
  rw [readKey_clear]
  rfl

theorem idleKey_becomes {s : State} {code : Nat} (hs : s.station.Listens)
    (hshown : s.station.scene.shown.isSome = true) (hcode : readKey code = .nothing) :
    ∃ t, exec (.key 0 code) s = .next t
      ∧ s.Becomes s.station.scene.keyed (s.station.timers.keyed s.station.isSpeaker s.station.scene.keyed)
          (s.station.closed 0 none) t := by
  refine key_becomes (f := id) hs hshown rfl fun c st => ?_
  rw [hcode]
  rfl

/-- The page timeout that a Key restarts is tagged with the activity number that the Key has raised (R25, R40). -/
theorem Timers.keyed_pageTimeout_of_shown {sc : Scene} {b : PageBody} (t : Timers) (hb : sc.shownBody = some b)
    (ht : b.header.timeout ≠ 0) :
    (t.keyed true sc.keyed).pageTimeout = some { tag := sc.activity + 1, remaining := 8 * b.header.timeout } :=
  Timers.keyed_pageTimeout t (Scene.pageTimer_eq_some (sc.keyed_shownBody.trans hb) ht)

/-- Settles O24: the two kinds of Key by what their action edits, the closing by whether the Activated button is enabled. -/
theorem clearKeyEmptiesTheEntry : Obligations.ClearKeyEmptiesTheEntry := by
  refine ⟨fun s hs hshown => ⟨?_, fun code => idleKey_becomes hs hshown⟩, fun s i l ha hl =>
    ⟨fun he => ?_, fun he => ?_, fun b => Timers.keyed_pageTimeout_of_shown s.station.timers⟩⟩
  · obtain ⟨t, ht, hb⟩ := clearKey_becomes hs hshown rfl
    exact ⟨t, _, ht, rfl, hb⟩
  · exact Scene.keyed_live_of_enabled ha ((enabledAt_of_getElem? hl).trans he)
  · exact Scene.keyed_live_of_disabled ha ((enabledAt_of_getElem? hl).trans he)

end Sys2Proof.Machine

/-! Slide Append: what its body stands for, the order of its checks, and what a taken entry leaves in the list and in the
store. -/

namespace Sys2Proof.Machine

/-! ### The entry that a body stands for -/

/-- The ranges of a slide entry (R79). -/
abbrev appendInRange (b : AppendBody) : Prop :=
  b.asset ≤ 1023 ∧ b.x ≤ 3839 ∧ b.y ≤ 2159 ∧ b.kind ≤ 2 ∧ b.length ≤ 60

/-- The transition kind that a code in range stands for (12.1). -/
def transitionMeant (code : Nat) : TransitionKind := if code = 0 then .cut else if code = 1 then .fade else .wipeDown

/-- The entry that a body in range stands for (R79). -/
def slideMeant (b : AppendBody) : Slide :=
  { content := { asset := b.asset, x := b.x, y := b.y, fill := b.fill }, duration := b.duration
    kind := transitionMeant b.kind, length := b.length, tag := if b.tag = 255 then none else some b.tag }

theorem readTransition_of_le {code : Nat} (h : code ≤ 2) : readTransition code = some (transitionMeant code) := by
  match code, h with
  | 0, _ | 1, _ | 2, _ => rfl

theorem readTransition_of_gt {code : Nat} (h : 2 < code) : readTransition code = none := by
  match code, h with
  | n + 3, _ => rfl

/-- The fields besides the transition kind are in range as the model tests them (R79). -/
theorem appendFields_iff (b : AppendBody) :
    (isAsset b.asset && inScreen b.x b.y && decide (b.length ≤ 60)) = true
      ↔ b.asset ≤ 1023 ∧ b.x ≤ 3839 ∧ b.y ≤ 2159 ∧ b.length ≤ 60 := by
  simp [isAsset, inScreen, and_assoc]

theorem readSlide_of_inRange {b : AppendBody} (h : appendInRange b) : readSlide b = some (slideMeant b) := by
  obtain ⟨hasset, hx, hy, hkind, hlength⟩ := h
  unfold readSlide
  rw [readTransition_of_le hkind, (appendFields_iff b).mpr ⟨hasset, hx, hy, hlength⟩]
  rfl

theorem readSlide_of_not_inRange {b : AppendBody} (h : ¬ appendInRange b) : readSlide b = none := by
  unfold readSlide
  by_cases hkind : b.kind ≤ 2
  · have hfields : (isAsset b.asset && inScreen b.x b.y && decide (b.length ≤ 60)) = false := by
      refine Bool.eq_false_iff.mpr fun hf => h ?_
      obtain ⟨hasset, hx, hy, hlength⟩ := (appendFields_iff b).mp hf
      exact ⟨hasset, hx, hy, hkind, hlength⟩
    rw [readTransition_of_le hkind, hfields]
    rfl
  · rw [readTransition_of_gt (by omega)]
    rfl

/-! ### The rule in the order of its checks -/

theorem Station.applySlideAppend_of_full (b : AppendBody) {st : Station} (h : 128 ≤ st.scene.slides.length) :
    st.applySlideAppend 0 b = st.refuse .listFull { kind := 0x28, src := 0 } none none := by
  unfold Station.applySlideAppend
  rw [if_neg (by simp)]
  exact if_pos h

section Room

variable {st : Station} (hroom : st.scene.slides.length < 128)
include hroom

theorem Station.applySlideAppend_of_unread {b : AppendBody} (hb : readSlide b = none) :
    st.applySlideAppend 0 b = st.refuse .badDefinition { kind := 0x28, src := 0 } none none := by
  have hlimit : ¬ Config.slideLimit ≤ st.scene.slides.length := Nat.not_le.mpr hroom
  unfold Station.applySlideAppend
  rw [if_neg (by simp), if_neg hlimit, hb]
  rfl

theorem Station.applySlideAppend_of_read {b : AppendBody} {e : Slide} (hb : readSlide b = some e) :
    st.applySlideAppend 0 b
      = (st.withScene (fun sc => { sc with slides := sc.slides ++ [e] })).withBlocks
          (fun c => c.withStore (Store.addSlide e.content)) := by
  have hlimit : ¬ Config.slideLimit ≤ st.scene.slides.length := Nat.not_le.mpr hroom
  unfold Station.applySlideAppend
  rw [if_neg (by simp), if_neg hlimit, hb]

end Room

/-! ### The command -/

theorem exec_slideAppend (src : Nat) (b : AppendBody) (s : State) :
    exec (.slideAppend src b) s
      = s.event (Station.close src none (Station.whenRunning (Station.applySlideAppend src b))) := rfl

/-- An Append whose rule refuses it leaves the refusal's blocks, the list and the store as they were (R62, R80). -/
theorem slideAppend_refused {s : State} {b : AppendBody} {k : FaultKind} (hs : s.station.Listens)
    (hr : (s.station.heard 0 none).applySlideAppend 0 b
      = (s.station.heard 0 none).refuse k { kind := 0x28, src := 0 } none none) :
    ∃ t, exec (.slideAppend 0 b) s = .next t
      ∧ s.Becomes s.station.scene s.station.timers (s.station.refusal k 0x28 none none 0) t := by
  rw [exec_slideAppend]
  exact State.close_whenRunning_becomes hs (by decide) (hr.trans (Station.refuse_heard _ _ _ _ _ _))

theorem slideAppend_taken {s : State} {b : AppendBody} (hs : s.station.Listens)
    (hroom : s.station.scene.slides.length < 128) (hb : appendInRange b) :
    ∃ t, exec (.slideAppend 0 b) s = .next t
      ∧ s.Becomes { s.station.scene with slides := s.station.scene.slides ++ [slideMeant b] } s.station.timers
          { s.station.closed 0 none with store := Store.addSlide (slideMeant b).content s.station.blocks.store } t := by
  rw [exec_slideAppend]
  refine State.close_whenRunning_becomes hs (by decide) ?_
  rw [Station.applySlideAppend_of_read (st := s.station.heard 0 none) hroom (readSlide_of_inRange hb)]
  rfl

/-- Settles O38, by the three outcomes of the checks: a full list, a body that does not read, and an entry taken. -/
theorem slideAppendJoinsTheList : Obligations.SlideAppendJoinsTheList := by
  intro s b inRange kind hs hrange hkind
  subst hkind
  refine ⟨fun hfull => ?_, fun hroom hbad => ?_, fun hroom hgood => ?_⟩
  · exact slideAppend_refused hs (Station.applySlideAppend_of_full b (st := s.station.heard 0 none) hfull)
  · have hb : readSlide b = none := readSlide_of_not_inRange (hbad ∘ hrange.mpr)
    exact slideAppend_refused hs (Station.applySlideAppend_of_unread (st := s.station.heard 0 none) hroom hb)
  · exact slideAppend_taken hs hroom (hrange.mp hgood)

end Sys2Proof.Machine

/-! The directory under the store's operations: what putting and erasing an entry makes of the canonical form and of the sums over
a table, and from that the units and the pin counts (R106, R107, R114) and the room that evictions give (R116). -/

namespace Sys2Proof.Machine

/-! ### The order of the directory -/

theorem Strip.before_iff (a b : Strip) :
    a.before b = true ↔ a.asset < b.asset ∨ (a.asset = b.asset ∧ a.index < b.index) := by
  simp [Strip.before]

theorem Strip.before_trans {a b c : Strip} (h : a.before b = true) (k : b.before c = true) : a.before c = true := by
  rw [Strip.before_iff] at *
  omega

theorem Strip.ne_of_before {a b : Strip} (h : a.before b = true) : a ≠ b := by
  rintro rfl
  rw [Strip.before_iff] at h
  omega

theorem Strip.before_of_not {a b : Strip} (hne : a ≠ b) (h : a.before b = false) : b.before a = true := by
  have hn : ¬ (a.asset < b.asset ∨ (a.asset = b.asset ∧ a.index < b.index)) := by
    rw [← Strip.before_iff, h]
    exact Bool.false_ne_true
  rw [Strip.before_iff]
  have hdiff : ¬ (a.asset = b.asset ∧ a.index = b.index) := fun ⟨ha, hi⟩ => hne (by cases a; cases b; simp_all)
  omega

section Tables

variable {α : Type} {key : α → Strip}

/-- Canonical form: every entry lies before every later one. -/
theorem Table.sorted_iff (l : List α) :
    Table.sorted key l = true ↔ l.Pairwise (fun a b => (key a).before (key b) = true) := by
  induction l with
  | nil => simp [Table.sorted]
  | cons e l ih =>
    unfold Table.sorted
    rw [Bool.and_eq_true, ih, List.pairwise_cons]
    refine and_congr_left fun hl => ?_
    cases l with
    | nil => simp
    | cons f l =>
      refine ⟨fun h x hx => ?_, fun h => h f List.mem_cons_self⟩
      rcases List.mem_cons.mp hx with rfl | hx
      · exact h
      · exact Strip.before_trans h ((List.pairwise_cons.mp hl).1 x hx)

theorem Table.sorted_cons {e : α} {l : List α} :
    Table.sorted key (e :: l) = true ↔ (∀ x ∈ l, (key e).before (key x) = true) ∧ Table.sorted key l = true := by
  rw [Table.sorted_iff, Table.sorted_iff, List.pairwise_cons]

theorem Table.sorted_filter {l : List α} (p : α → Bool) (h : Table.sorted key l = true) :
    Table.sorted key (l.filter p) = true := by
  rw [Table.sorted_iff] at *
  exact h.filter p

theorem Table.sorted_map {l : List α} {f : α → α} (hf : ∀ e, key (f e) = key e) (h : Table.sorted key l = true) :
    Table.sorted key (l.map f) = true := by
  rw [Table.sorted_iff] at *
  refine List.pairwise_map.mpr (h.imp ?_)
  intro a b hab
  rwa [hf, hf]

theorem Table.mem_of_find {k : Strip} {e : α} {l : List α} (h : Table.find key k l = some e) : e ∈ l ∧ key e = k := by
  induction l with
  | nil => simp [Table.find] at h
  | cons f l ih =>
    unfold Table.find at h
    split at h
    · next hf =>
      rw [← Option.some.inj h]
      exact ⟨List.mem_cons_self, hf⟩
    · exact ⟨List.mem_cons_of_mem _ (ih h).1, (ih h).2⟩

theorem Table.find_none {k : Strip} {l : List α} (h : ∀ x ∈ l, key x ≠ k) : Table.find key k l = none := by
  cases hf : Table.find key k l with
  | none => rfl
  | some e => exact absurd (Table.mem_of_find hf).2 (h e (Table.mem_of_find hf).1)

/-- In canonical form a member is the entry at its key. -/
theorem Table.find_eq_of_mem {e : α} {l : List α} (hs : Table.sorted key l = true) (h : e ∈ l) :
    Table.find key (key e) l = some e := by
  induction l with
  | nil => exact absurd h (by simp)
  | cons f l ih =>
    rw [Table.sorted_cons] at hs
    unfold Table.find
    rcases List.mem_cons.mp h with rfl | hm
    · exact if_pos rfl
    · rw [if_neg (Strip.ne_of_before (hs.1 e hm)), ih hs.2 hm]

theorem Table.mem_put {e x : α} {l : List α} (h : x ∈ Table.put key e l) : x = e ∨ x ∈ l := by
  induction l with
  | nil => simpa [Table.put] using h
  | cons f l ih =>
    unfold Table.put at h
    split at h
    · rcases List.mem_cons.mp h with h | h
      · exact .inl h
      · exact .inr (List.mem_cons_of_mem _ h)
    · split at h
      · rcases List.mem_cons.mp h with h | h
        · exact .inl h
        · exact .inr h
      · rcases List.mem_cons.mp h with rfl | h
        · exact .inr List.mem_cons_self
        · exact (ih h).imp id (List.mem_cons_of_mem _)

theorem Table.sorted_put (e : α) {l : List α} (h : Table.sorted key l = true) :
    Table.sorted key (Table.put key e l) = true := by
  induction l with
  | nil => rfl
  | cons f l ih =>
    obtain ⟨hf, hl⟩ := Table.sorted_cons.mp h
    unfold Table.put
    split
    · next hk => exact Table.sorted_cons.mpr ⟨fun x hx => hk ▸ hf x hx, hl⟩
    · next hk =>
      split
      · next hb =>
        refine Table.sorted_cons.mpr ⟨fun x hx => ?_, h⟩
        rcases List.mem_cons.mp hx with rfl | hx
        · exact hb
        · exact Strip.before_trans hb (hf x hx)
      · next hb =>
        refine Table.sorted_cons.mpr ⟨fun x hx => ?_, ih hl⟩
        rcases Table.mem_put hx with rfl | hx
        · exact Strip.before_of_not (Ne.symm hk) (by simpa using hb)
        · exact hf x hx

/-- The weight of an entry put at its key takes the place of the weight of the entry it replaces. -/
theorem Table.sum_put (w : α → Nat) (e : α) {l : List α} (h : Table.sorted key l = true) :
    ((Table.put key e l).map w).sum + ((Table.find key (key e) l).map w).getD 0 = (l.map w).sum + w e := by
  induction l with
  | nil => simp [Table.put, Table.find]
  | cons f l ih =>
    obtain ⟨hf, hl⟩ := Table.sorted_cons.mp h
    unfold Table.put Table.find
    split
    · simp
      omega
    · next hk =>
      split
      · next hb =>
        rw [Table.find_none fun x hx => (Strip.ne_of_before (Strip.before_trans hb (hf x hx))).symm]
        simp
        omega
      · have := ih hl
        simp only [List.map_cons, List.sum_cons]
        omega

theorem Table.sum_erase (w : α → Nat) (k : Strip) {l : List α} (h : Table.sorted key l = true) :
    ((Table.erase key k l).map w).sum + ((Table.find key k l).map w).getD 0 = (l.map w).sum := by
  unfold Table.erase
  induction l with
  | nil => simp [Table.find]
  | cons f l ih =>
    obtain ⟨hf, hl⟩ := Table.sorted_cons.mp h
    unfold Table.find
    by_cases hk : key f = k
    · have hall : l.filter (fun e => key e != k) = l := by
        refine List.filter_eq_self.mpr fun x hx => ?_
        rw [← hk]
        simpa using (Strip.ne_of_before (hf x hx)).symm
      simp [hk, hall]
      omega
    · have := ih hl
      simp only [List.filter_cons, bne_iff_ne, ne_eq, hk, not_false_eq_true, if_true, if_false, List.map_cons,
        List.sum_cons]
      omega

/-- The sum over the entries that a test picks, as a sum over all of them. -/
theorem sum_filter (p : α → Bool) (w : α → Nat) (l : List α) :
    ((l.filter p).map w).sum = (l.map (fun e => if p e then w e else 0)).sum := by
  induction l with
  | nil => rfl
  | cons e l ih => cases h : p e <;> simp [h, ih]

theorem length_filter (p : α → Bool) (l : List α) : (l.filter p).length = (l.map (fun e => if p e then 1 else 0)).sum := by
  rw [← sum_filter p (fun _ => 1)]
  simp

end Tables

/-! ### The units and the pin counts -/

/-- The directory and the asset table in canonical form, with the units accounted for, as propositions. -/
theorem Store.unitsWf_iff (s : Store) :
    s.unitsWf = true ↔ Table.sorted Asset.key s.assets = true ∧ Table.sorted Packed.id s.packed = true
      ∧ Table.sorted Opened.id s.opened = true ∧ s.freeUnits + s.heldUnits = 16384 := by
  simp [Store.unitsWf, and_assoc]

theorem Store.pinsWf_iff (s : Store) :
    s.pinsWf = true ↔ (∀ e ∈ s.packed, e.pins = s.roles.pins e.id) ∧ ∀ e ∈ s.opened, e.pins = s.roles.pins e.id := by
  simp [Store.pinsWf]

/-- The store's two invariants pass from `s` to `t`. -/
structure Store.Preserves (s t : Store) : Prop where
  units : s.unitsWf = true → t.unitsWf = true
  pins : s.pinsWf = true → t.pinsWf = true

theorem Store.preserves_refl (s : Store) : s.Preserves s := ⟨id, id⟩

theorem Store.Preserves.trans {s t u : Store} (h : s.Preserves t) (k : t.Preserves u) : s.Preserves u :=
  ⟨k.units ∘ h.units, k.pins ∘ h.pins⟩

/-- A Packed entry for which there is room keeps the units (R107); its pin count is always the right one. -/
theorem Store.preserves_setPacked {e : Packed} {s : Store}
    (h : s.unitsWf = true → e.units ≤ s.freeUnits + ((s.findPacked e.id).map Packed.units).getD 0) :
    s.Preserves (s.setPacked e) := by
  refine ⟨fun hu => ?_, fun hp => ?_⟩
  · have hroom := h hu
    obtain ⟨ha, hpk, ho, hsum⟩ := s.unitsWf_iff.mp hu
    have hput := Table.sum_put Packed.units { e with pins := s.roles.pins e.id } hpk
    refine (Store.unitsWf_iff _).mpr ⟨ha, Table.sorted_put _ hpk, ho, ?_⟩
    unfold Store.heldUnits at *
    unfold Store.findPacked at hroom
    simp only [Store.setPacked, Store.findPacked] at *
    omega
  · obtain ⟨hpk, ho⟩ := s.pinsWf_iff.mp hp
    refine (Store.pinsWf_iff _).mpr ⟨fun x hx => ?_, ho⟩
    rcases Table.mem_put hx with rfl | hx
    · rfl
    · exact hpk x hx

theorem Store.preserves_setOpened {e : Opened} {s : Store}
    (h : s.unitsWf = true → e.units ≤ s.freeUnits + ((s.findOpened e.id).map Opened.units).getD 0) :
    s.Preserves (s.setOpened e) := by
  refine ⟨fun hu => ?_, fun hp => ?_⟩
  · have hroom := h hu
    obtain ⟨ha, hpk, ho, hsum⟩ := s.unitsWf_iff.mp hu
    have hput := Table.sum_put Opened.units { e with pins := s.roles.pins e.id } ho
    refine (Store.unitsWf_iff _).mpr ⟨ha, hpk, Table.sorted_put _ ho, ?_⟩
    unfold Store.heldUnits at *
    simp only [Store.setOpened, Store.findOpened] at *
    omega
  · obtain ⟨hpk, ho⟩ := s.pinsWf_iff.mp hp
    refine (Store.pinsWf_iff _).mpr ⟨hpk, fun x hx => ?_⟩
    rcases Table.mem_put hx with rfl | hx
    · rfl
    · exact ho x hx

theorem Store.preserves_dropOpened (k : Strip) (s : Store) : s.Preserves (s.dropOpened k) := by
  refine ⟨fun hu => ?_, fun hp => ?_⟩
  · obtain ⟨ha, hpk, ho, hsum⟩ := s.unitsWf_iff.mp hu
    have hdrop := Table.sum_erase Opened.units k ho
    refine (Store.unitsWf_iff _).mpr ⟨ha, hpk, Table.sorted_filter _ ho, ?_⟩
    unfold Store.heldUnits at *
    simp only [Store.dropOpened, Store.findOpened] at *
    omega
  · obtain ⟨hpk, ho⟩ := s.pinsWf_iff.mp hp
    exact (Store.pinsWf_iff _).mpr ⟨hpk, fun x hx => ho x (List.mem_of_mem_filter hx)⟩

theorem Store.preserves_setRoles (f : Roles → Roles) (s : Store) : s.Preserves (s.setRoles f) := by
  refine ⟨fun hu => ?_, fun _ => ?_⟩
  · obtain ⟨ha, hpk, ho, hsum⟩ := s.unitsWf_iff.mp hu
    refine (Store.unitsWf_iff _).mpr ⟨ha, Table.sorted_map (fun _ => rfl) hpk, Table.sorted_map (fun _ => rfl) ho, ?_⟩
    unfold Store.heldUnits at *
    simpa [Store.setRoles, Function.comp_def] using hsum
  · refine (Store.pinsWf_iff _).mpr ⟨fun x hx => ?_, fun x hx => ?_⟩ <;>
    · obtain ⟨e, -, rfl⟩ := List.mem_map.mp hx
      rfl

/-- A change of the store's lists that leaves the directory, the roles and the free units as they are. -/
theorem Store.preserves_of_same {s t : Store} (ha : Table.sorted Asset.key s.assets = true → Table.sorted Asset.key t.assets = true)
    (hp : t.packed = s.packed) (ho : t.opened = s.opened) (hf : t.freeUnits = s.freeUnits) (hr : t.roles = s.roles) :
    s.Preserves t := by
  refine ⟨fun hu => ?_, fun h => ?_⟩
  · obtain ⟨hsa, hpk, hop, hsum⟩ := s.unitsWf_iff.mp hu
    refine t.unitsWf_iff.mpr ⟨ha hsa, hp ▸ hpk, ho ▸ hop, ?_⟩
    unfold Store.heldUnits at *
    rw [hp, ho, hf, hsum]
  · rw [Store.pinsWf_iff] at *
    rw [hp, ho, hr]
    exact h

theorem Store.preserves_showStrips (snap : Snapshot) (s : Store) : s.Preserves (s.showStrips snap) := by
  have hid : ∀ e : Opened, (if (snap.strip e.id).isSome && snap.draws e.id then { e with lastShown := snap.frame } else e).id = e.id :=
    fun e => by split <;> rfl
  refine ⟨fun hu => ?_, fun hp => ?_⟩
  · obtain ⟨ha, hpk, ho, hsum⟩ := s.unitsWf_iff.mp hu
    refine (Store.unitsWf_iff _).mpr ⟨ha, hpk, Table.sorted_map hid ho, ?_⟩
    unfold Store.heldUnits at *
    rw [← hsum]
    unfold Store.showStrips
    congr 2
    rw [List.map_map]
    refine congrArg List.sum (List.map_congr_left fun e _ => ?_)
    simp only [Function.comp_apply]
    split <;> rfl
  · obtain ⟨hpk, ho⟩ := s.pinsWf_iff.mp hp
    refine (Store.pinsWf_iff _).mpr ⟨hpk, fun x hx => ?_⟩
    obtain ⟨e, he, rfl⟩ := List.mem_map.mp hx
    split <;> exact ho e he

theorem Store.preserves_skip (k : Strip) (s : Store) : s.Preserves (s.skip k) :=
  Store.preserves_setPacked fun _ => Nat.zero_le _

theorem Store.preserves_setBad (k : Strip) (s : Store) : s.Preserves (s.setBad k) :=
  Store.preserves_setPacked fun _ => Nat.zero_le _

theorem Store.preserves_hold {k : Strip} {data : List Byte} {c : Half} {s : Store}
    (h : s.unitsWf = true → packedUnits data.length ≤ s.freeUnits) : s.Preserves (s.hold k data c) :=
  (Store.preserves_setPacked fun hu => Nat.le_add_right_of_le (h hu)).trans
    (Store.preserves_of_same id rfl rfl rfl rfl)

theorem Store.preserves_withWants (f : List WantRange → List WantRange) (s : Store) : s.Preserves (s.withWants f) :=
  Store.preserves_of_same id rfl rfl rfl rfl

theorem Store.preserves_dropDecoding (k : Strip) (s : Store) : s.Preserves (s.dropDecoding k) := by
  unfold Store.dropDecoding
  split
  · exact s.preserves_refl
  · split
    · exact s.preserves_refl
    · exact s.preserves_dropOpened k

theorem Store.preserves_waitForRoom (k : Strip) (inOpen : Bool) (s : Store) : s.Preserves (s.waitForRoom k inOpen) := by
  unfold Store.waitForRoom
  split
  · exact s.preserves_refl
  · exact Store.preserves_of_same id rfl rfl rfl rfl

theorem Store.preserves_wantBatch (q : Batch) (s : Store) : s.Preserves (s.wantBatch q) := by
  unfold Store.wantBatch
  split <;> exact s.preserves_withWants _

/-! ### Room (R116) -/

/-- The entries that may be evicted. -/
def Store.candidates (working : Option Strip) (s : Store) : Nat :=
  (s.openCandidates working).length + (s.packedCandidates working).length

/-- The directory in canonical form. -/
def Store.Sorted (s : Store) : Prop := Table.sorted Packed.id s.packed = true ∧ Table.sorted Opened.id s.opened = true

theorem Store.sorted_of_unitsWf {s : Store} (h : s.unitsWf = true) : s.Sorted :=
  ⟨(s.unitsWf_iff.mp h).2.1, (s.unitsWf_iff.mp h).2.2.1⟩

/-- What one eviction does to the account of the room: the units of one candidate become free. -/
structure Store.Evicts (working : Option Strip) (s t : Store) : Prop where
  sorted : t.Sorted
  room : t.freeUnits + t.candidateUnits working = s.freeUnits + s.candidateUnits working
  count : t.candidates working + 1 = s.candidates working

theorem Store.evicts_dropOpened {working : Option Strip} {s : Store} {e : Opened} (hs : s.Sorted)
    (he : e ∈ s.openCandidates working) : s.Evicts working (s.dropOpened e.id) := by
  obtain ⟨hmem, hcand⟩ := List.mem_filter.mp he
  have hfind : s.findOpened e.id = some e := Table.find_eq_of_mem hs.2 hmem
  have hunits := Table.sum_erase
    (fun e : Opened => if (e.ready && e.pins == 0 && decide (working ≠ some e.id)) then e.units else 0) e.id hs.2
  have hcount := Table.sum_erase
    (fun e : Opened => if (e.ready && e.pins == 0 && decide (working ≠ some e.id)) then 1 else 0) e.id hs.2
  refine ⟨⟨hs.1, Table.sorted_filter _ hs.2⟩, ?_, ?_⟩
  · unfold Store.candidateUnits Store.openCandidates Store.packedCandidates
    simp only [sum_filter, Store.dropOpened, Store.findOpened] at *
    simp only [hfind, hcand, Option.map_some, Option.getD_some, if_true] at *
    omega
  · unfold Store.candidates Store.openCandidates Store.packedCandidates
    simp only [length_filter, Store.dropOpened, Store.findOpened] at *
    simp only [hfind, hcand, Option.map_some, Option.getD_some, if_true] at *
    omega

theorem Store.packedOrNew_of_find {k : Strip} {e : Packed} {s : Store} (h : s.findPacked k = some e) :
    s.packedOrNew k = e := by
  unfold Store.packedOrNew
  rw [h]
  rfl

theorem Store.evicts_skip {working : Option Strip} {s : Store} {e : Packed} (hs : s.Sorted)
    (he : e ∈ s.packedCandidates working) : s.Evicts working (s.skip e.id) := by
  obtain ⟨hmem, hcand⟩ := List.mem_filter.mp he
  have hfind : s.findPacked e.id = some e := Table.find_eq_of_mem hs.1 hmem
  have hunits := Table.sum_put
    (fun e : Packed => if (e.state == .held && e.pins == 0 && decide (working ≠ some e.id)) then e.units else 0)
    { e with state := .skipped, units := 0, data := [], checkWord := 0, pins := s.roles.pins e.id } hs.1
  have hcount := Table.sum_put
    (fun e : Packed => if (e.state == .held && e.pins == 0 && decide (working ≠ some e.id)) then 1 else 0)
    { e with state := .skipped, units := 0, data := [], checkWord := 0, pins := s.roles.pins e.id } hs.1
  have hoff : (PackedState.skipped == PackedState.held) = false := rfl
  unfold Store.findPacked at hfind
  unfold Store.skip
  rw [Store.packedOrNew_of_find hfind]
  refine ⟨⟨Table.sorted_put _ hs.1, hs.2⟩, ?_, ?_⟩
  · unfold Store.candidateUnits Store.openCandidates Store.packedCandidates
    simp only [sum_filter, Store.setPacked, Store.findPacked] at *
    simp only [hfind, hcand, hoff, Bool.false_and, Bool.false_eq_true, if_false, Option.map_some, Option.getD_some,
      if_true] at *
    omega
  · unfold Store.candidates Store.openCandidates Store.packedCandidates
    simp only [length_filter, Store.setPacked] at *
    simp only [hfind, hcand, hoff, Bool.false_and, Bool.false_eq_true, if_false, Option.map_some, Option.getD_some,
      if_true] at *
    omega

theorem earliestShown_mem {frame : Long} {l : List Opened} {e : Opened} (h : earliestShown frame l = some e) : e ∈ l := by
  induction l generalizing e with
  | nil => exact absurd h (by simp [earliestShown])
  | cons f l ih =>
    unfold earliestShown at h
    split at h
    · rw [← Option.some.inj h]; exact List.mem_cons_self
    · next g hg =>
      split at h
      · rw [← Option.some.inj h]; exact List.mem_cons_of_mem _ (ih hg)
      · rw [← Option.some.inj h]; exact List.mem_cons_self

theorem earliestShown_eq_none {frame : Long} {l : List Opened} (h : earliestShown frame l = none) : l = [] := by
  cases l with
  | nil => rfl
  | cons f l =>
    unfold earliestShown at h
    split at h
    · exact absurd h (by simp)
    · split at h <;> exact absurd h (by simp)

theorem earliestArrived_eq_none {l : List Packed} (h : earliestArrived l = none) : l = [] := by
  cases l with
  | nil => rfl
  | cons f l =>
    unfold earliestArrived at h
    split at h
    · exact absurd h (by simp)
    · split at h <;> exact absurd h (by simp)

/-- An evicted Packed entry is Skipped, whatever else the eviction brings to the Want list and the jobs. -/
theorem Blocks.evictPacked_store (k : Strip) (b : Blocks) :
    ∃ wants, (b.evictPacked k).store = { b.store.skip k with wants := wants } := by
  unfold Blocks.evictPacked
  dsimp only
  split
  · exact ⟨_, rfl⟩
  · exact ⟨(b.store.skip k).wants, rfl⟩

theorem Store.Evicts.withWants {working : Option Strip} {s t : Store} (h : s.Evicts working t) (w : List WantRange) :
    s.Evicts working { t with wants := w } := ⟨h.sorted, h.room, h.count⟩

theorem Blocks.evicts_evictNext {working : Option Strip} {b c : Blocks} (hs : b.store.Sorted)
    (h : b.evictNext working = some c) : b.store.Evicts working c.store := by
  unfold Blocks.evictNext at h
  split at h
  · next he =>
    obtain rfl := Option.some.inj h
    exact Store.evicts_dropOpened hs (earliestShown_mem he)
  · split at h
    · next e he =>
      obtain rfl := Option.some.inj h
      obtain ⟨w, hw⟩ := b.evictPacked_store e.id
      rw [hw]
      exact (Store.evicts_skip hs (earliestArrived_mem he)).withWants w
    · exact absurd h (by simp)

theorem Blocks.candidates_of_evictNext_none {working : Option Strip} {b : Blocks} (h : b.evictNext working = none) :
    b.store.openCandidates working = [] ∧ b.store.packedCandidates working = [] := by
  unfold Blocks.evictNext at h
  split at h
  · exact absurd h (by simp)
  · next ho =>
    split at h
    · exact absurd h (by simp)
    · next hp => exact ⟨earliestShown_eq_none ho, earliestArrived_eq_none hp⟩

/-- Evictions go on until the units suffice, when all candidates together would suffice (R116). -/
theorem Blocks.evictUntil_room {working : Option Strip} {u n : Nat} {b : Blocks} (hs : b.store.Sorted)
    (hu : u ≤ b.store.freeUnits + b.store.candidateUnits working) (hn : b.store.candidates working ≤ n) :
    u ≤ (b.evictUntil working u n).store.freeUnits := by
  induction n generalizing b with
  | zero =>
    have hz : b.store.candidates working = 0 := Nat.le_zero.mp hn
    unfold Store.candidates at hz
    have ho : b.store.openCandidates working = [] := List.eq_nil_of_length_eq_zero (by omega)
    have hp : b.store.packedCandidates working = [] := List.eq_nil_of_length_eq_zero (by omega)
    unfold Store.candidateUnits at hu
    rw [ho, hp] at hu
    simpa [Blocks.evictUntil] using hu
  | succ n ih =>
    unfold Blocks.evictUntil
    split
    · next hfree => exact hfree
    · split
      · next hnone =>
        obtain ⟨ho, hp⟩ := Blocks.candidates_of_evictNext_none hnone
        unfold Store.candidateUnits at hu
        rw [ho, hp] at hu
        simpa using hu
      · next c hc =>
        have hev := Blocks.evicts_evictNext hs hc
        have hroom := hev.room
        have hcount := hev.count
        exact ih hev.sorted (by omega) (by omega)

/-- Room that is granted is there (R116). -/
theorem Blocks.findRoom_room {working : Option Strip} {u : Nat} {b c : Blocks} (hs : b.store.Sorted)
    (h : b.findRoom working u = some c) : u ≤ c.store.freeUnits := by
  unfold Blocks.findRoom at h
  split at h
  · next hfree =>
    obtain rfl := Option.some.inj h
    exact hfree
  · split at h
    · exact absurd h (by simp)
    · next hsum =>
      obtain rfl := Option.some.inj h
      exact Blocks.evictUntil_room hs (Nat.not_lt.mp hsum) (Nat.le_refl _)

end Sys2Proof.Machine

/-! The blocks under their operations: the outgoing queue's bounds, the units, the pin counts and the number of Page Prepare jobs
pass through each of them (R106, R107, R114, R123, R169, R171). -/

namespace Sys2Proof.Machine

/-! ### The outgoing queue -/

theorem Link.wf_iff (l : Link) :
    l.wf = true ↔ l.queue.length ≤ 8 ∧ (l.silent = true → l.queue = []) ∧ l.objections < 16 := by
  unfold Link.wf
  cases l.silent <;> simp [List.isEmpty_iff, and_assoc]

theorem Link.wf_enqueue (m : Message) {l : Link} (h : l.wf = true) : (l.enqueue m).wf = true := by
  rw [Link.wf_iff] at *
  unfold Link.enqueue
  split
  · exact h
  · split
    · exact h
    · next hs hq =>
      have hlt : l.queue.length < 8 := Nat.not_le.mp hq
      exact ⟨by simp; omega, fun hsil => absurd hsil hs, h.2.2⟩

theorem Link.wf_closeMessage (mine : Bool) (m : Option Message) {l : Link} (h : l.wf = true) :
    (l.closeMessage mine m).wf = true := by
  rw [Link.wf_iff] at *
  unfold Link.closeMessage
  dsimp only
  split
  · refine ⟨?_, fun hs => ?_, Nat.zero_lt_succ 15⟩
    · simp
      omega
    · simp [h.2.1 hs]
  · exact h

theorem Link.wf_dropClaims {l : Link} (h : l.wf = true) : l.dropClaims.wf = true := by
  rw [Link.wf_iff] at *
  refine ⟨?_, fun hs => ?_, h.2.2⟩
  · have hf := List.length_filter_le (fun m => decide (m ≠ Message.claim)) l.queue.tail
    simp only [Link.dropClaims, List.length_append, List.length_take, List.length_tail] at *
    omega
  · simp [Link.dropClaims, h.2.1 hs]

theorem Link.wf_takeOverflow {l : Link} (h : l.wf = true) : l.takeOverflow.wf = true := by
  unfold Link.takeOverflow
  split <;> exact h

theorem Link.wf_emptied (l : Link) : l.emptied.wf = true := rfl

/-! ### The relation -/

/-- The blocks' invariants pass from `b` to `c`. -/
structure Blocks.Preserves (b c : Blocks) : Prop where
  link : b.link.wf = true → c.link.wf = true
  store : b.store.Preserves c.store
  jobs : b.decode.wf = true → c.decode.wf = true

theorem Blocks.preserves_refl (b : Blocks) : b.Preserves b := ⟨id, b.store.preserves_refl, id⟩

theorem Blocks.Preserves.trans {b c d : Blocks} (h : b.Preserves c) (k : c.Preserves d) : b.Preserves d :=
  ⟨k.link ∘ h.link, h.store.trans k.store, k.jobs ∘ h.jobs⟩

theorem Blocks.preserves_withLink {f : Link → Link} {b : Blocks} (h : b.link.wf = true → (f b.link).wf = true) :
    b.Preserves (b.withLink f) := ⟨h, b.store.preserves_refl, id⟩

theorem Blocks.preserves_withStore {f : Store → Store} {b : Blocks} (h : b.store.Preserves (f b.store)) :
    b.Preserves (b.withStore f) := ⟨id, h, id⟩

theorem Blocks.preserves_withDecode {f : Decode → Decode} {b : Blocks}
    (h : b.decode.wf = true → (f b.decode).wf = true) : b.Preserves (b.withDecode f) := ⟨id, b.store.preserves_refl, h⟩

theorem Blocks.preserves_withBc (f : Compositor → Compositor) (b : Blocks) : b.Preserves (b.withBc f) :=
  ⟨id, b.store.preserves_refl, id⟩

theorem Blocks.preserves_enqueue (m : Message) (b : Blocks) : b.Preserves (b.enqueue m) :=
  Blocks.preserves_withLink (Link.wf_enqueue m)

/-- A change of the Want list, of the records of Wants, or of the marks. -/
theorem Blocks.preserves_withWants (f : List WantRange → List WantRange) (b : Blocks) :
    b.Preserves (b.withStore (Store.withWants f)) := Blocks.preserves_withStore (Store.preserves_withWants f _)

/-- A change of the Decode Unit that makes no Page Prepare job. -/
theorem Blocks.preserves_fewer {f : Decode → Decode} {b : Blocks}
    (h : (f b.decode).pageJobs.length ≤ b.decode.pageJobs.length) : b.Preserves (b.withDecode f) :=
  Blocks.preserves_withDecode fun hw => decide_eq_true (h.trans (of_decide_eq_true hw))

/-- A change of the Decode Unit that leaves the Page Prepare jobs. -/
theorem Blocks.preserves_sameJobs {f : Decode → Decode} {b : Blocks} (h : (f b.decode).pageJobs = b.decode.pageJobs) :
    b.Preserves (b.withDecode f) := Blocks.preserves_fewer (Nat.le_of_eq (congrArg List.length h))

theorem Blocks.preserves_setRoles (f : Roles → Roles) (b : Blocks) : b.Preserves (b.withStore (Store.setRoles f)) :=
  Blocks.preserves_withStore (Store.preserves_setRoles f _)

/-! ### Failures and room -/

theorem Blocks.preserves_afterFailure (g : Geometry) (k : Strip) (n : Nat) (b : Blocks) :
    b.Preserves (b.afterFailure g k n) := by
  unfold Blocks.afterFailure
  split
  · split
    · exact b.preserves_withWants _
    · exact b.preserves_refl
  · exact (b.preserves_enqueue _).trans (Blocks.preserves_withWants _ _)

theorem Blocks.preserves_failArrival (g : Geometry) (k : Strip) (b : Blocks) : b.Preserves (b.failArrival g k) :=
  (Blocks.preserves_withStore (Store.preserves_setBad k _)).trans (Blocks.preserves_afterFailure _ _ _ _)

theorem Blocks.preserves_failStored (g : Geometry) (k : Strip) (b : Blocks) : b.Preserves (b.failStored g k) :=
  (Blocks.preserves_withStore ((Store.preserves_setBad k _).trans (Store.preserves_dropDecoding k _))).trans
    (Blocks.preserves_afterFailure _ _ _ _)

theorem Blocks.preserves_evictPacked (k : Strip) (b : Blocks) : b.Preserves (b.evictPacked k) := by
  have hskip : b.Preserves ((b.withStore (Store.skip k)).withDecode
      (fun d => { d with pageJobs := d.pageJobs.filter (fun j => j.id != k) })) :=
    (Blocks.preserves_withStore (Store.preserves_skip k _)).trans (Blocks.preserves_fewer (List.length_filter_le _ _))
  unfold Blocks.evictPacked
  dsimp only
  split
  · exact hskip.trans (Blocks.preserves_withWants _ _)
  · exact hskip

theorem Blocks.preserves_evictNext {working : Option Strip} {b c : Blocks} (h : b.evictNext working = some c) :
    b.Preserves c := by
  unfold Blocks.evictNext at h
  split at h
  · obtain rfl := Option.some.inj h
    exact Blocks.preserves_withStore (Store.preserves_dropOpened _ _)
  · split at h
    · obtain rfl := Option.some.inj h
      exact b.preserves_evictPacked _
    · exact absurd h (by simp)

theorem Blocks.preserves_evictUntil (working : Option Strip) (u n : Nat) (b : Blocks) :
    b.Preserves (b.evictUntil working u n) := by
  induction n generalizing b with
  | zero => exact b.preserves_refl
  | succ n ih =>
    unfold Blocks.evictUntil
    split
    · exact b.preserves_refl
    · split
      · exact b.preserves_refl
      · next c h => exact (Blocks.preserves_evictNext h).trans (ih c)

theorem Blocks.preserves_findRoom {working : Option Strip} {u : Nat} {b c : Blocks} (h : b.findRoom working u = some c) :
    b.Preserves c := by
  unfold Blocks.findRoom at h
  split at h
  · obtain rfl := Option.some.inj h
    exact b.preserves_refl
  · split at h
    · exact absurd h (by simp)
    · obtain rfl := Option.some.inj h
      exact Blocks.preserves_evictUntil _ _ _ _

theorem Blocks.preserves_refuseRoom (k : Strip) (inOpen : Bool) (u : Nat) (b : Blocks) :
    b.Preserves (b.refuseRoom k inOpen u) := by
  have hwait : b.Preserves (b.withStore (Store.waitForRoom k inOpen)) :=
    Blocks.preserves_withStore (Store.preserves_waitForRoom k inOpen _)
  unfold Blocks.refuseRoom
  dsimp only
  split
  · exact hwait
  · exact hwait.trans ((Blocks.preserves_enqueue _ _).trans
      (Blocks.preserves_withStore (Store.preserves_of_same id rfl rfl rfl rfl)))

/-- Room that is granted is taken by an entry: the change `f` of the store keeps the units where the room is there. -/
theorem Blocks.preserves_fill {working : Option Strip} {u : Nat} {b c : Blocks} {f : Store → Store}
    (h : b.findRoom working u = some c) (hf : u ≤ c.store.freeUnits → c.store.Preserves (f c.store))
    (hp : c.store.pinsWf = true → (f c.store).pinsWf = true) : b.Preserves (c.withStore f) := by
  have hc := Blocks.preserves_findRoom h
  refine ⟨hc.link, ⟨fun hu => ?_, hp ∘ hc.store.pins⟩, hc.jobs⟩
  exact (hf (Blocks.findRoom_room (Store.sorted_of_unitsWf hu) h)).units (hc.store.units hu)

/-! ### Jobs -/

theorem Decode.wf_offer (change : Half) (k : Strip) {d : Decode} (h : d.wf = true) : (d.offer change k).wf = true := by
  unfold Decode.offer
  split
  · exact h
  · split
    · next hroom =>
      have hlt : d.pageJobs.length < 30 := hroom
      refine decide_eq_true ?_
      rw [List.length_append, List.length_singleton]
      exact hlt
    · exact h

theorem Decode.wf_offerAll (change : Half) (l : List Strip) {d : Decode} (h : d.wf = true) :
    (d.offerAll change l).wf = true := by
  unfold Decode.offerAll
  induction l generalizing d with
  | nil => exact h
  | cons k l ih => exact ih (Decode.wf_offer change k h)

/-- A strip that has no Open entry yet takes the units that were granted for it. -/
theorem Store.preserves_setOpened_free {e : Opened} {s : Store} (h : e.units ≤ s.freeUnits) : s.Preserves (s.setOpened e) :=
  Store.preserves_setOpened fun _ => Nat.le_add_right_of_le h

theorem Store.pinsWf_setOpened (e : Opened) {s : Store} (h : s.pinsWf = true) : (s.setOpened e).pinsWf = true := by
  obtain ⟨hpk, ho⟩ := s.pinsWf_iff.mp h
  refine (Store.pinsWf_iff _).mpr ⟨hpk, fun x hx => ?_⟩
  rcases Table.mem_put hx with rfl | hx
  · rfl
  · exact ho x hx

theorem Store.pinsWf_setPacked (e : Packed) {s : Store} (h : s.pinsWf = true) : (s.setPacked e).pinsWf = true := by
  obtain ⟨hpk, ho⟩ := s.pinsWf_iff.mp h
  refine (Store.pinsWf_iff _).mpr ⟨fun x hx => ?_, ho⟩
  rcases Table.mem_put hx with rfl | hx
  · rfl
  · exact hpk x hx

theorem Blocks.preserves_startPage (j : PageJob) (b : Blocks) : b.Preserves (b.startPage j) := by
  unfold Blocks.startPage
  split
  · exact b.preserves_refl
  · split
    · exact Blocks.preserves_refuseRoom _ _ _ _
    · next c h =>
      exact (Blocks.preserves_fill h (fun hu => Store.preserves_setOpened_free hu) (Store.pinsWf_setOpened _)).trans
        (Blocks.preserves_sameJobs rfl)

theorem Blocks.preserves_beginBatch (q : Batch) (b : Blocks) : b.Preserves (b.beginBatch q) := by
  unfold Blocks.beginBatch
  split
  · exact b.preserves_refl
  · exact b.preserves_withBc _

theorem Blocks.preserves_writeBack (q : Batch) (i : Nat) (rows : SurfaceRows) (b : Blocks) :
    b.Preserves (b.writeBack q i rows) := by
  unfold Blocks.writeBack
  split
  · exact b.preserves_refl
  · exact b.preserves_withBc _

theorem Blocks.preserves_completeBatch (q : Batch) (b : Blocks) : b.Preserves (b.completeBatch q) := by
  unfold Blocks.completeBatch
  dsimp only
  split
  · exact b.preserves_withBc _
  · exact (b.preserves_withBc _).trans (Blocks.preserves_sameJobs rfl)

theorem Blocks.preserves_advanceBatch (sc : Scene) (n : Nat) (q : Batch) (b : Blocks) :
    b.Preserves (b.advanceBatch sc n q) := by
  induction n generalizing q b with
  | zero => exact Blocks.preserves_sameJobs rfl
  | succ n ih =>
    unfold Blocks.advanceBatch
    split
    · split
      · exact (b.preserves_beginBatch q).trans (Blocks.preserves_completeBatch q _)
      · exact Blocks.preserves_sameJobs rfl
    · dsimp only
      split
      · exact (b.preserves_beginBatch q).trans (Blocks.preserves_sameJobs rfl)
      · have h := (b.preserves_beginBatch q).trans
          (Blocks.preserves_writeBack q (‹Strip›).index .filled (b.beginBatch q))
        split
        · exact h.trans (Blocks.preserves_sameJobs rfl)
        · exact h.trans (ih _ _)

theorem Blocks.preserves_takeBatch (sc : Scene) (q : Batch) (b : Blocks) : b.Preserves (b.takeBatch sc q) :=
  Blocks.preserves_advanceBatch sc _ q b

theorem Blocks.preserves_takeCheck (c : CheckJob) (b : Blocks) : b.Preserves (b.takeCheck c) := by
  unfold Blocks.takeCheck
  split
  · exact b.preserves_enqueue _
  · exact Blocks.preserves_sameJobs rfl

/-- What a choice does: the oldest Page Prepare job is taken, or the suspended batch, or the queued batch, or the Check (R124). -/
theorem Blocks.chooseOne_cases {sc : Scene} {b c : Blocks} (h : b.chooseOne sc = some c) :
    b.decode.running = none ∧
    ((∃ j rest, b.decode.pageJobs = j :: rest ∧ c = (b.withDecode (fun d => { d with pageJobs := rest })).startPage j)
      ∨ (b.decode.pageJobs = [] ∧ ∃ q, b.decode.suspended = some q
          ∧ c = (b.withDecode (fun d => { d with suspended := none })).takeBatch sc { q with progress := 0 })
      ∨ (b.decode.pageJobs = [] ∧ b.decode.suspended = none ∧ ∃ q, b.decode.batch = some q ∧ b.eligible q = true
          ∧ c = (b.withDecode (fun d => { d with batch := none })).takeBatch sc q)
      ∨ (b.decode.pageJobs = [] ∧ b.decode.suspended = none ∧ (∀ q, b.decode.batch = some q → b.eligible q = false)
          ∧ ∃ k, b.decode.check = some k ∧ c = (b.withDecode (fun d => { d with check := none })).takeCheck k)) := by
  unfold Blocks.chooseOne at h
  split at h
  · exact absurd h (by simp)
  · next hr =>
    refine ⟨hr, ?_⟩
    split at h
    · next j rest hj => exact .inl ⟨j, rest, hj, (Option.some.inj h).symm⟩
    · next hj =>
      split at h
      · next q hq => exact .inr (.inl ⟨hj, q, hq, (Option.some.inj h).symm⟩)
      · next hs =>
        split at h
        · next q hq =>
          split at h
          · next he => exact .inr (.inr (.inl ⟨hj, hs, q, hq, he, (Option.some.inj h).symm⟩))
          · next he =>
            split at h
            · next k hk =>
              refine .inr (.inr (.inr ⟨hj, hs, fun q' hq' => ?_, k, hk, (Option.some.inj h).symm⟩))
              rw [hq] at hq'
              obtain rfl := Option.some.inj hq'
              simpa using he
            · exact absurd h (by simp)
        · next hq =>
          split at h
          · next k hk =>
            refine .inr (.inr (.inr ⟨hj, hs, fun q' hq' => ?_, k, hk, (Option.some.inj h).symm⟩))
            rw [hq] at hq'
            exact absurd hq' (by simp)
          · exact absurd h (by simp)

theorem Blocks.preserves_chooseOne {sc : Scene} {b c : Blocks} (h : b.chooseOne sc = some c) : b.Preserves c := by
  obtain ⟨-, ⟨j, rest, hj, rfl⟩ | ⟨-, q, -, rfl⟩ | ⟨-, -, q, -, -, rfl⟩ | ⟨-, -, -, k, -, rfl⟩⟩ := Blocks.chooseOne_cases h
  · refine (Blocks.preserves_fewer ?_).trans (Blocks.preserves_startPage j _)
    rw [hj]
    exact Nat.le_succ _
  · exact (Blocks.preserves_sameJobs rfl).trans (Blocks.preserves_takeBatch _ _ _)
  · exact (Blocks.preserves_sameJobs rfl).trans (Blocks.preserves_takeBatch _ _ _)
  · exact (Blocks.preserves_sameJobs rfl).trans (Blocks.preserves_takeCheck _ _)

theorem Blocks.preserves_chooseJobs (sc : Scene) (n : Nat) (b : Blocks) : b.Preserves (b.chooseJobs sc n) := by
  induction n generalizing b with
  | zero => exact b.preserves_refl
  | succ n ih =>
    unfold Blocks.chooseJobs
    split
    · exact b.preserves_refl
    · next c h => exact (Blocks.preserves_chooseOne h).trans (ih c)

theorem Blocks.preserves_offerAll (change : Half) (l : List Strip) (b : Blocks) :
    b.Preserves (b.withDecode (Decode.offerAll change l)) := Blocks.preserves_withDecode (Decode.wf_offerAll change l)

theorem Blocks.preserves_refill (change : Half) (b : Blocks) : b.Preserves (b.refill change) := by
  have hoff : b.Preserves (b.withDecode (fun d => { d.offerAll change b.refillable with deferred := true })) :=
    Blocks.preserves_withDecode (f := fun d => { d.offerAll change b.refillable with deferred := true })
      (Decode.wf_offerAll change b.refillable)
  unfold Blocks.refill
  split
  · dsimp only
    split
    · exact hoff.trans (Blocks.preserves_sameJobs rfl)
    · exact hoff
  · exact b.preserves_refl

theorem Blocks.preserves_retryWait (g : Geometry) (change : Half) (b : Blocks) (w : RoomWait) :
    b.Preserves (b.retryWait g change w) := by
  unfold Blocks.retryWait
  split
  · exact b.preserves_refl
  · split
    · split
      · exact b.preserves_withWants _
      · split
        · exact Blocks.preserves_withDecode (Decode.wf_offer change w.id)
        · exact b.preserves_refl
    · split
      · exact b.preserves_withWants _
      · exact b.preserves_refl

theorem Blocks.preserves_retryAll (g : Geometry) (change : Half) (l : List RoomWait) (b : Blocks) :
    b.Preserves (l.foldl (Blocks.retryWait g change) b) := by
  induction l generalizing b with
  | nil => exact b.preserves_refl
  | cons w l ih => exact (Blocks.preserves_retryWait g change b w).trans (ih _)

theorem Blocks.preserves_retryRoom (g : Geometry) (change : Half) (b before : Blocks) :
    b.Preserves (b.retryRoom g change before) := by
  unfold Blocks.retryRoom
  split
  · exact (Blocks.preserves_withStore (Store.preserves_of_same id rfl rfl rfl rfl)).trans
      (Blocks.preserves_retryAll g change _ _)
  · exact b.preserves_refl

theorem Blocks.preserves_wantBatch (q : Batch) (b : Blocks) : b.Preserves (b.withStore (Store.wantBatch q)) :=
  Blocks.preserves_withStore (Store.preserves_wantBatch q _)

theorem Blocks.preserves_prefetch (g : Geometry) (sc : Scene) (b : Blocks) : b.Preserves (b.prefetch g sc) := by
  unfold Blocks.prefetch
  split
  · exact b.preserves_refl
  · split
    · exact b.preserves_refl
    · exact (Blocks.preserves_sameJobs rfl).trans (Blocks.preserves_wantBatch _ _)

/-! ### The end of an event -/

theorem Blocks.preserves_pageReadiness (sc : Scene) (b : Blocks) : b.Preserves (b.pageReadiness sc) := by
  unfold Blocks.pageReadiness
  split
  · exact b.preserves_refl
  · split
    · exact (b.preserves_enqueue _).trans (Blocks.preserves_sameJobs rfl)
    · exact b.preserves_refl

theorem Blocks.preserves_slideReadiness (sc : Scene) (b : Blocks) : b.Preserves (b.slideReadiness sc) := by
  unfold Blocks.slideReadiness
  split
  · exact b.preserves_refl
  · split
    · exact (b.preserves_enqueue _).trans (Blocks.preserves_sameJobs rfl)
    · exact b.preserves_refl

theorem Blocks.preserves_queueWant (b : Blocks) : b.Preserves b.queueWant := by
  unfold Blocks.queueWant
  split
  · exact b.preserves_refl
  · split
    · exact b.preserves_refl
    · exact (b.preserves_enqueue _).trans (Blocks.preserves_withStore (Store.preserves_of_same id rfl rfl rfl rfl))

theorem Blocks.preserves_queueWants (b : Blocks) : b.Preserves b.queueWants :=
  b.preserves_queueWant.trans ((Blocks.preserves_queueWant _).trans
    ((Blocks.preserves_queueWant _).trans (Blocks.preserves_queueWant _)))

theorem Blocks.preserves_settle (g : Geometry) (scBefore sc : Scene) (before b : Blocks) :
    b.Preserves (Blocks.settle g scBefore sc before b) := by
  have hchosen := (b.preserves_retryRoom g sc.pageChange before).trans
    ((Blocks.preserves_chooseJobs sc chooseBound _).trans
      ((Blocks.preserves_refill sc.pageChange _).trans (Blocks.preserves_chooseJobs sc chooseBound _)))
  unfold Blocks.settle
  dsimp only
  refine hchosen.trans (Blocks.Preserves.trans ?_ ((Blocks.preserves_pageReadiness sc _).trans
    ((Blocks.preserves_slideReadiness sc _).trans (Blocks.preserves_queueWants _))))
  split
  · exact (Blocks.preserves_prefetch g sc _).trans (Blocks.preserves_chooseJobs sc chooseBound _)
  · exact Blocks.preserves_refl _

/-! ### The completions -/

theorem Blocks.preserves_idle (b : Blocks) : b.Preserves (b.withDecode (fun d => { d with running := none })) :=
  Blocks.preserves_sameJobs rfl

theorem Blocks.preserves_finishPage (g : Geometry) (j : PageJob) (decoded : Option Rows) (b : Blocks) :
    b.Preserves (b.finishPage g j decoded) := by
  unfold Blocks.finishPage
  dsimp only
  split
  · exact b.preserves_idle.trans (Blocks.preserves_failStored g j.id _)
  · split
    · exact b.preserves_idle
    · next e he =>
      refine b.preserves_idle.trans (Blocks.preserves_withStore (Store.preserves_setOpened fun _ => ?_))
      have hid : e.id = j.id := (Table.mem_of_find he).2
      have hfind : b.store.findOpened e.id = some e := hid ▸ he
      simp [hfind]

theorem Blocks.preserves_finishBatchStrip (g : Geometry) (sc : Scene) (q : Batch) (i : Nat) (stopping : Bool)
    (decoded : Option Rows) (b : Blocks) : b.Preserves (b.finishBatchStrip g sc q i stopping decoded) := by
  have hfailed : b.Preserves (match decoded with
      | none => (b.withDecode (fun d => { d with running := none })).failStored g (q.strip i)
      | some _ => b.withDecode (fun d => { d with running := none })) := by
    cases decoded with
    | none => exact b.preserves_idle.trans (Blocks.preserves_failStored g _ _)
    | some _ => exact b.preserves_idle
  unfold Blocks.finishBatchStrip
  dsimp only
  split
  · exact hfailed
  · refine hfailed.trans ?_
    cases decoded <;> dsimp only <;> split
    · exact (Blocks.preserves_writeBack _ _ _ _).trans (Blocks.preserves_sameJobs rfl)
    · exact (Blocks.preserves_writeBack _ _ _ _).trans (Blocks.preserves_takeBatch _ _ _)
    · exact (Blocks.preserves_writeBack _ _ _ _).trans (Blocks.preserves_sameJobs rfl)
    · exact (Blocks.preserves_writeBack _ _ _ _).trans (Blocks.preserves_takeBatch _ _ _)

/-- The Check's counts after a strip: it is counted, and a failing one is counted as Bad (R137). -/
def CheckJob.tested (k : Strip) (intact : Bool) (c : CheckJob) : CheckJob :=
  if intact then { c with position := some k, checked := c.checked + 1 }
  else { c with
    position := some k, checked := c.checked + 1, bad := c.bad + 1
    firstBad := match c.firstBad with
      | none => some k
      | some f => some f }

/-- The queued batch is eligible (R124). -/
def Blocks.batchReady (e : Blocks) : Bool :=
  match e.decode.batch with
  | none => false
  | some q => e.eligible q

/-- A Check after one of its strips: done, giving way to work of another class, or at its next strip (R137). -/
def Blocks.resumeCheck (n : CheckJob) (e : Blocks) : Blocks :=
  if (e.store.unchecked n).isEmpty then e.takeCheck n
  else if !e.decode.pageJobs.isEmpty || e.batchReady || e.decode.suspended.isSome then
    e.withDecode (fun d => { d with check := some n })
  else e.takeCheck n

/-- No job is in progress. -/
def Blocks.idled (b : Blocks) : Blocks := b.withDecode (fun d => { d with running := none })

theorem Blocks.finishCheckStrip_eq (g : Geometry) (c : CheckJob) (k : Strip) (intact : Bool) (b : Blocks) :
    b.finishCheckStrip g c k intact
      = (if intact then b.idled else b.idled.failStored g k).resumeCheck (c.tested k intact) := rfl

theorem Blocks.preserves_resumeCheck (n : CheckJob) (e : Blocks) : e.Preserves (e.resumeCheck n) := by
  unfold Blocks.resumeCheck
  split
  · exact Blocks.preserves_takeCheck _ _
  · split
    · exact Blocks.preserves_sameJobs rfl
    · exact Blocks.preserves_takeCheck _ _

theorem Blocks.preserves_finishCheckStrip (g : Geometry) (c : CheckJob) (k : Strip) (intact : Bool) (b : Blocks) :
    b.Preserves (b.finishCheckStrip g c k intact) := by
  rw [Blocks.finishCheckStrip_eq]
  refine Blocks.Preserves.trans ?_ (Blocks.preserves_resumeCheck _ _)
  cases intact with
  | true => exact b.preserves_idle
  | false => exact b.preserves_idle.trans (Blocks.preserves_failStored g _ _)

theorem Blocks.preserves_pageComplete (g : Geometry) (decoded : Option Rows) (b : Blocks) :
    b.Preserves (b.pageComplete g decoded) := by
  unfold Blocks.pageComplete
  split
  · exact b.preserves_finishPage g _ decoded
  · exact b.preserves_refl

theorem Blocks.preserves_batchComplete (g : Geometry) (sc : Scene) (decoded : Option Rows) (b : Blocks) :
    b.Preserves (b.batchComplete g sc decoded) := by
  unfold Blocks.batchComplete
  split
  · exact b.preserves_finishBatchStrip g sc _ _ _ decoded
  · exact b.preserves_refl

theorem Blocks.preserves_checkComplete (g : Geometry) (intact : Bool) (b : Blocks) :
    b.Preserves (b.checkComplete g intact) := by
  unfold Blocks.checkComplete
  split
  · exact b.preserves_finishCheckStrip g _ _ intact
  · exact b.preserves_refl

/-! ### Stream Intake -/

theorem Blocks.preserves_meetAsset (g : Geometry) (q : Segment) (b : Blocks) : b.Preserves (b.meetAsset g q) := by
  unfold Blocks.meetAsset
  split
  · exact b.preserves_refl
  · exact (Blocks.preserves_withStore (Store.preserves_of_same (Table.sorted_put _) rfl rfl rfl rfl)).trans
      ((Blocks.preserves_setRoles _ _).trans ((Blocks.preserves_sameJobs rfl).trans (Blocks.preserves_withWants _ _)))

theorem Blocks.preserves_handHeld (change : Half) (k : Strip) (b : Blocks) : b.Preserves (b.handHeld change k) := by
  unfold Blocks.handHeld
  dsimp only
  split
  · exact (b.preserves_withWants _).trans (Blocks.preserves_withDecode (Decode.wf_offer change k))
  · exact b.preserves_withWants _

theorem Store.pinsWf_hold (k : Strip) (data : List Byte) (c : Half) {s : Store} (h : s.pinsWf = true) :
    (s.hold k data c).pinsWf = true := Store.pinsWf_setPacked _ h

theorem readSegment_length {bytes : List Byte} {q : Segment} (h : readSegment bytes = some q) :
    q.data.length = q.length := by
  unfold readSegment at h
  split at h
  · exact absurd h (by simp)
  · split at h
    · exact absurd h (by simp)
    · next hlen =>
      obtain rfl := Option.some.inj h
      simp only [List.length_take, List.length_drop]
      omega

/-- A needed strip is stored in the units its segment's length asks for (R107, R112). -/
theorem Blocks.preserves_storeNeeded (change : Half) (k : Strip) {q : Segment} (hq : q.data.length = q.length)
    (b : Blocks) : b.Preserves (b.storeNeeded change k q) := by
  unfold Blocks.storeNeeded
  split
  · next c h =>
    refine (Blocks.preserves_fill h (fun hu => Store.preserves_hold fun _ => ?_) (Store.pinsWf_hold _ _ _)).trans
      (Blocks.preserves_handHeld _ _ _)
    rw [hq]
    exact hu
  · exact (Blocks.preserves_withStore (Store.preserves_skip _ _)).trans (Blocks.preserves_refuseRoom _ _ _ _)

theorem Blocks.preserves_storeReserve (change : Half) (k : Strip) {q : Segment} (hq : q.data.length = q.length)
    (b : Blocks) : b.Preserves (b.storeReserve change k q) := by
  unfold Blocks.storeReserve
  split
  · next hroom =>
    refine (Blocks.preserves_withStore (Store.preserves_hold fun _ => ?_)).trans (Blocks.preserves_handHeld _ _ _)
    rw [hq]
    exact (Nat.le_add_left _ _).trans hroom
  · exact Blocks.preserves_withStore (Store.preserves_skip _ _)

theorem Blocks.preserves_classify (g : Geometry) (change : Half) {q : Segment} (hq : q.data.length = q.length)
    (b : Blocks) : b.Preserves (b.classify g change q) := by
  unfold Blocks.classify
  dsimp only
  split
  · exact b.preserves_refl
  · split
    · split
      · exact b.preserves_failArrival g _
      · exact b.preserves_refl
    · split
      · exact b.preserves_storeNeeded change _ hq
      · split
        · exact Blocks.preserves_withStore (Store.preserves_skip _ _)
        · exact b.preserves_storeReserve change _ hq

theorem Blocks.preserves_arrive (g : Geometry) (change : Half) (bytes : List Byte) (b : Blocks) :
    b.Preserves (b.arrive g change bytes) := by
  unfold Blocks.arrive
  split
  · exact b.preserves_refl
  · next q hq =>
    split
    · exact (b.preserves_meetAsset g q).trans (Blocks.preserves_classify g change (readSegment_length hq) _)
    · exact b.preserves_refl

/-! ### The Band Compositor -/

theorem Blocks.preserves_noteLate (stream : Stream) (change : Half) (target : Long) (b : Blocks) :
    b.Preserves (b.noteLate stream change target) := by
  unfold Blocks.noteLate
  split
  · exact (b.preserves_withBc _).trans (Blocks.preserves_enqueue _ _)
  · exact b.preserves_refl

theorem Blocks.preserves_catchUp (b : Blocks) : b.Preserves b.catchUp := by
  unfold Blocks.catchUp
  split
  · exact b.preserves_refl
  · exact (b.preserves_withBc _).trans (Blocks.preserves_setRoles _ _)

theorem Blocks.preserves_handPage (page : Nat) (change : Half) (target : Long) (live : List Live) (b : Blocks) :
    b.Preserves (b.handPage page change target live) :=
  b.preserves_catchUp.trans ((Blocks.preserves_withBc _ _).trans (Blocks.preserves_noteLate _ _ _ _))

theorem Blocks.preserves_handSlide (e : Slide) (change : Half) (target : Long) (b : Blocks) :
    b.Preserves (b.handSlide e change target) := (b.preserves_withBc _).trans (Blocks.preserves_noteLate _ _ _ _)

theorem Blocks.preserves_noteOverrun (b : Blocks) : b.Preserves b.noteOverrun := by
  unfold Blocks.noteOverrun
  split
  · exact b.preserves_refl
  · dsimp only
    split
    · exact b.preserves_withBc _
    · exact (b.preserves_withBc _).trans (Blocks.preserves_enqueue _ _)

theorem Blocks.preserves_pageStep (b : Blocks) : b.Preserves b.pageStep := by
  unfold Blocks.pageStep
  split
  · exact b.preserves_catchUp
  · exact b.preserves_refl

theorem Blocks.preserves_emptyFading (b : Blocks) : b.Preserves (b.withStore Store.emptyFading) :=
  Blocks.preserves_setRoles _ _

theorem Blocks.preserves_transitionStep (b : Blocks) : b.Preserves b.transitionStep := by
  unfold Blocks.transitionStep
  split
  · exact b.preserves_refl
  · split
    · exact (b.preserves_withBc _).trans (Blocks.preserves_emptyFading _)
    · exact b.preserves_withBc _

theorem Blocks.preserves_makeVisible (w : SlideSwitch) (b : Blocks) : b.Preserves (b.makeVisible w) := by
  unfold Blocks.makeVisible
  split
  · exact (b.preserves_withBc _).trans (Blocks.preserves_emptyFading _)
  · exact b.preserves_withBc _

theorem Blocks.preserves_switchStep (b : Blocks) : b.Preserves b.switchStep := by
  unfold Blocks.switchStep
  split
  · exact b.preserves_refl
  · split
    · exact b.preserves_makeVisible _
    · exact b.preserves_withBc _

theorem Blocks.preserves_beginFrame (g : Geometry) (placeholder : Colour) (sc : Scene) (b : Blocks) :
    b.Preserves (b.beginFrame g placeholder sc) :=
  (b.preserves_withBc _).trans (Blocks.preserves_withStore (Store.preserves_showStrips _ _))

theorem Blocks.preserves_strobe (g : Geometry) (placeholder : Colour) (sc : Scene) (b : Blocks) :
    b.Preserves (b.strobe g placeholder sc) :=
  b.preserves_noteOverrun.trans ((Blocks.preserves_withBc _ _).trans ((Blocks.preserves_pageStep _).trans
    ((Blocks.preserves_transitionStep _).trans ((Blocks.preserves_switchStep _).trans
      (Blocks.preserves_beginFrame _ _ _ _)))))

/-! ### Page and slide changes -/

theorem Blocks.preserves_pinned (f : Roles → Roles) (b : Blocks) :
    b.Preserves (b.withStore (fun s => { s.setRoles f with exhausted := false })) :=
  Blocks.preserves_withStore ((Store.preserves_setRoles f _).trans (Store.preserves_of_same id rfl rfl rfl rfl))

/-- Step 6 of R50 begins with the removal of the superseded change's jobs (R51). -/
def Blocks.dropSuperseded (superseded : Option Half) (b : Blocks) : Blocks :=
  match superseded with
  | none => b
  | some old => b.withDecode (Decode.dropTagged old)

/-- The need set pinned for the pending role, and the exhaustion mark cleared (R52, R117). -/
def Store.pinPending (need : RoleSet) (s : Store) : Store :=
  { s.setRoles (fun r => { r with pending := need }) with exhausted := false }

/-- The jobs of a need set offered, its Ready not yet sent (R53, R54). -/
def Decode.prepare (change : Half) (strips : List Strip) (d : Decode) : Decode :=
  { d.offerAll change strips with pageReadySent := false }

theorem Blocks.dropSuperseded_store (superseded : Option Half) (b : Blocks) :
    (b.dropSuperseded superseded).store = b.store := by
  cases superseded <;> rfl

/-- Step 6 of R50, its need set and offers read from the store as the event found it. -/
theorem Blocks.beginPage_eq (g : Geometry) (superseded : Option Half) (change : Half) (pls : List Placement) (b : Blocks) :
    b.beginPage g superseded change pls
      = (((b.dropSuperseded superseded).withStore (Store.pinPending (b.store.roleSet g pls))).withDecode
          (Decode.prepare change ((b.store.pinPending (b.store.roleSet g pls)).offerable (b.store.roleSet g pls)))).withStore
          (Store.wantSet (b.store.roleSet g pls)) := by
  cases superseded <;> rfl

theorem Blocks.preserves_dropSuperseded (superseded : Option Half) (b : Blocks) :
    b.Preserves (b.dropSuperseded superseded) := by
  cases superseded with
  | none => exact b.preserves_refl
  | some old => exact Blocks.preserves_fewer (List.length_filter_le _ _)

theorem Store.preserves_pinPending (need : RoleSet) (s : Store) : s.Preserves (s.pinPending need) :=
  (Store.preserves_setRoles (fun r => { r with pending := need }) s).trans
    (Store.preserves_of_same id rfl rfl rfl rfl)

theorem Store.preserves_wantSet (need : RoleSet) (s : Store) : s.Preserves (s.wantSet need) :=
  (s.preserves_withWants _).trans (Store.preserves_withWants _ _)

theorem Decode.wf_prepare (change : Half) (l : List Strip) {d : Decode} (h : d.wf = true) :
    (d.prepare change l).wf = true := Decode.wf_offerAll change l h

theorem Blocks.preserves_beginPage (g : Geometry) (superseded : Option Half) (change : Half) (pls : List Placement)
    (b : Blocks) : b.Preserves (b.beginPage g superseded change pls) := by
  rw [Blocks.beginPage_eq]
  exact (b.preserves_dropSuperseded superseded).trans
    ((Blocks.preserves_withStore (Store.preserves_pinPending _ _)).trans
      ((Blocks.preserves_withDecode (Decode.wf_prepare _ _)).trans
        (Blocks.preserves_withStore (Store.preserves_wantSet _ _))))

theorem Blocks.preserves_shiftPageRoles (b : Blocks) : b.Preserves b.shiftPageRoles :=
  (b.preserves_setRoles _).trans (Blocks.preserves_fewer (List.length_filter_le _ _))

theorem Blocks.preserves_replaceBatch (g : Geometry) (k : Content) (change : Half) (b : Blocks) :
    b.Preserves (b.replaceBatch g k change) := (Blocks.preserves_sameJobs rfl).trans (Blocks.preserves_wantBatch _ _)

theorem Blocks.preserves_meetSlide (g : Geometry) (k : Content) (change : Half) (b : Blocks) :
    b.Preserves (b.meetSlide g k change) := by
  have htaken : ∀ (f : Decode → Decode) (q : Batch), (f b.decode).pageJobs = b.decode.pageJobs →
      b.Preserves ((b.withDecode f).withStore (Store.wantBatch q)) := fun f q h =>
    (Blocks.preserves_sameJobs h).trans (Blocks.preserves_wantBatch q _)
  unfold Blocks.meetSlide
  split
  · exact Blocks.preserves_sameJobs rfl
  · split
    · split
      · exact htaken _ _ rfl
      · exact b.preserves_replaceBatch g k change
    · split
      · split
        · exact htaken _ _ rfl
        · exact b.preserves_replaceBatch g k change
      · split
        · split
          · exact htaken _ _ rfl
          · exact b.preserves_replaceBatch g k change
        · exact b.preserves_replaceBatch g k change

theorem Decode.dropQueuedAdvance_pageJobs (d : Decode) : d.dropQueuedAdvance.pageJobs = d.pageJobs := by
  unfold Decode.dropQueuedAdvance
  split
  · split <;> rfl
  · rfl

theorem Blocks.preserves_beginSlide (g : Geometry) (superseded : Bool) (k : Content) (change : Half) (b : Blocks) :
    b.Preserves (b.beginSlide g superseded k change) := by
  have hdropped : b.Preserves (if superseded then b.withDecode Decode.dropQueuedAdvance else b) := by
    cases superseded with
    | true => exact Blocks.preserves_sameJobs b.decode.dropQueuedAdvance_pageJobs
    | false => exact b.preserves_refl
  unfold Blocks.beginSlide
  exact hdropped.trans ((Blocks.preserves_pinned _ _).trans ((Blocks.preserves_sameJobs rfl).trans
    (Blocks.preserves_meetSlide g k change _)))

theorem Blocks.preserves_cancelSlide (b : Blocks) : b.Preserves b.cancelSlide :=
  (b.preserves_setRoles _).trans ((Blocks.preserves_sameJobs rfl).trans (Blocks.preserves_withBc _ _))

/-! ### The wire and the reset of the scene -/

theorem Blocks.preserves_objected (b : Blocks) : b.Preserves b.objected := by
  unfold Blocks.objected
  split
  · exact (Blocks.preserves_withLink fun _ => rfl).trans
      (Blocks.preserves_withStore (Store.preserves_of_same id rfl rfl rfl rfl))
  · next hcount =>
    refine Blocks.preserves_withLink fun h => ?_
    rw [Link.wf_iff] at *
    exact ⟨h.1, h.2.1, Nat.not_le.mp hcount⟩

theorem Blocks.preserves_void (b : Blocks) : b.Preserves b.void := by
  unfold Blocks.void
  dsimp only
  split
  · exact (Blocks.preserves_withLink id).trans (Blocks.preserves_objected _)
  · exact Blocks.preserves_withLink id

theorem Blocks.preserves_receive (k : LowClass) (b : Blocks) : b.Preserves (b.receive k) := by
  unfold Blocks.receive
  split
  · exact b.preserves_refl
  · split <;> exact Blocks.preserves_withLink id
  · split <;> exact Blocks.preserves_withLink id
  · exact b.preserves_void
  · exact b.preserves_void

/-- Blocks whose store and Decode Unit are at their reset values, with a well-formed link. -/
theorem Blocks.preserves_of_reset {b c : Blocks} (hl : b.link.wf = true → c.link.wf = true) (hs : c.store = Store.reset)
    (hd : c.decode = Decode.reset) : b.Preserves c :=
  ⟨hl, ⟨fun _ => by rw [hs]; rfl, fun _ => by rw [hs]; rfl⟩, fun _ => by rw [hd]; rfl⟩

theorem Blocks.preserves_emptied (b : Blocks) : b.Preserves b.emptied := by
  unfold Blocks.emptied
  dsimp only
  split
  · exact Blocks.preserves_of_reset (fun _ => b.link.wf_emptied) rfl rfl
  · exact Blocks.preserves_of_reset (fun _ => Link.wf_enqueue _ b.link.wf_emptied) rfl rfl

end Sys2Proof.Machine

/-! The edits of the replica: each change that a command makes to the scene is one of them, and each of them keeps the guard
record, the tables, the slide list and the shown page (R3, R10, R14, R18, R19, R27, R68, R79, R83, R97). -/

namespace Sys2Proof.Machine

/-! ### The edits -/

/-- One edit of the replica, with what its rule has tested of the replica before it. -/
inductive Scene.Edit (sc : Scene) : Scene → Prop where
  /-- the replica emptied or at its reset values (R23, R173, R177) -/
  | restart (owners : List Nat) (speaker : Option Nat) :
      Edit sc { Scene.reset with owners := owners, speaker := speaker }
  | speaker (p : Option Nat) : Edit sc { sc with speaker := p }
  | pageReady (l : List Nat) : Edit sc { sc with pageReady := l }
  | slideReady (l : List Nat) : Edit sc { sc with slideReady := l }
  /-- a page change begins (R50) -/
  | beginPage (p : Nat) (body : PageBody) (hp : sc.completeBody p = some body) : Edit sc (sc.beginPage p)
  /-- an applied page Switch (R58) -/
  | showPage (p : Nat) (hp : sc.pendingPage = some p) : Edit sc (sc.switchPage p)
  /-- a page that is not in use defined or dropped (R6, R11) -/
  | setPage (p : Nat) (pg : Page) (hp : sc.inUse p = false) : Edit sc (sc.setPage p pg)
  | wait (w : Option Wait) : Edit sc (sc.setWait w)
  | guardSuccess : Edit sc sc.guardSuccess
  | wrongCode (ha : sc.spendAttempt.guard.attempts ≠ 0) : Edit sc sc.spendAttempt
  | lastAttempt (ha : sc.spendAttempt.guard.attempts = 0) : Edit sc sc.spendAttempt.closeGuard
  | guardSet (code : Half) (digits : Option (List Nat)) (allowance prompt : Nat) (hc : readCode code = some digits)
      (ha : allowance ≤ 7) (hp : prompt ≤ 63) :
      Edit sc { sc with guard := { sc.guard with code := digits, allowance := allowance, prompt := prompt } }
  | freeze : Edit sc { sc with guard := { sc.guard with frozen := true } }
  | digit (d : Nat) (hd : d ≤ 9) : Edit sc { sc with entry := appendDigit sc.entry d }
  | clearEntry : Edit sc { sc with entry := [] }
  | raiseActivity : Edit sc sc.raiseActivity
  | closeActivation : Edit sc sc.closeActivation
  | move (origin : Option Nat) (d : Direction) : Edit sc (sc.move origin d)
  | setWord (w : Nat) (v : Half) : Edit sc (sc.setWord w v)
  | runEffects (l : List WordEffect) : Edit sc (sc.runEffects l)
  | activate (i : Nat) (l : List WordEffect) : Edit sc (sc.activate i l)
  | cues (l : List Cue) (hl : l.length = sc.cues.length) : Edit sc { sc with cues := l }
  | append (e : Slide) (hl : sc.slides.length < 128) : Edit sc { sc with slides := sc.slides ++ [e] }
  /-- the show Playing or Paused (R85, R86, R90) -/
  | playShow (v : Show) (loop : Bool) (hv : v ≠ .stopped) : Edit sc { sc with loop := loop, show_ := v }
  | release : Edit sc { sc with held := false }
  | seek (i : Nat) (hi : i < sc.slides.length) : Edit sc { sc with current := i }
  /-- a slide change begins (R92) -/
  | beginSlide (i : Nat) (e : Slide) (he : sc.slides[i]? = some e) (hv : sc.show_ ≠ .stopped) : Edit sc (sc.beginSlide i e)
  /-- an applied slide Switch (R95) -/
  | showSlide (i : Nat) (hi : sc.pendingIndex = some i) :
      Edit sc { sc with current := i, pendingIndex := none, slideReady := [], held := false }
  /-- a Remove of another entry than the pending one, with entries left (R81) -/
  | remove (i : Nat) (hi : i < sc.slides.length) (hne : (sc.removeSlide i).slides ≠ []) (hp : sc.pendingIndex ≠ some i) :
      Edit sc (sc.removeSlide i)
  /-- a Remove that raises a request (R81) -/
  | removeBegin (i j : Nat) (e : Slide) (hi : i < sc.slides.length)
      (hr : (sc.removeSlide i).removeRequest i sc.pendingIndex sc.current = some j)
      (he : (sc.removeSlide i).slides[j]? = some e) : Edit sc ((sc.removeSlide i).beginSlide j e)
  /-- the list empty and the show Stopped (R81, R82, R96) -/
  | clear : Edit sc ({ sc with slides := [], current := 0 } : Scene).cancelSlide

/-- A predicate of the replica that every edit keeps. -/
def Scene.Kept (P : Scene → Prop) : Prop := ∀ sc d : Scene, sc.Edit d → P sc → P d

/-- Edits one after another. -/
abbrev Scene.Edits : Scene → Scene → Prop := Relation.ReflTransGen Scene.Edit

theorem Scene.Edits.keep {P : Scene → Prop} {sc d : Scene} (h : sc.Edits d) (hk : Scene.Kept P) (hp : P sc) : P d := by
  induction h with
  | refl => exact hp
  | tail _ hedit ih => exact hk _ _ hedit ih

theorem Scene.Edit.edits {sc d : Scene} (h : sc.Edit d) : sc.Edits d := .single h

/-! ### What an edit of the states leaves -/

theorem Scene.selectDefault_frame (sc : Scene) : sc.selectDefault = { sc with live := sc.selectDefault.live } := rfl

theorem Scene.closeActivation_frame (sc : Scene) : sc.closeActivation = { sc with live := sc.closeActivation.live } := by
  unfold Scene.closeActivation
  split
  · rfl
  · split <;> rfl

theorem Scene.move_frame (sc : Scene) (o : Option Nat) (d : Direction) : sc.move o d = { sc with live := (sc.move o d).live } := by
  unfold Scene.move
  split
  · rfl
  · split <;> rfl

theorem Scene.setWord_frame (sc : Scene) (w : Nat) (v : Half) :
    sc.setWord w v = { sc with words := sc.words.set w v, live := (sc.setWord w v).live } := Scene.recompute_frame _

theorem Scene.runEffects_frame (sc : Scene) (l : List WordEffect) :
    sc.runEffects l = { sc with words := applyEffects sc.entry sc.words l, live := (sc.runEffects l).live } :=
  Scene.recompute_frame _

theorem Scene.activate_frame (sc : Scene) (i : Nat) (l : List WordEffect) :
    sc.activate i l
      = { sc with words := applyEffects sc.entry sc.words l, live := (sc.activate i l).live, entry := [] } := by
  unfold Scene.activate
  rw [Scene.runEffects_frame]

theorem Scene.entryEffect_frame (sc : Scene) :
    ∃ words live, sc.entryEffect = { sc with words := words, live := live } ∧ words.length = sc.words.length := by
  unfold Scene.entryEffect
  split
  · exact ⟨sc.words, sc.live, rfl, rfl⟩
  · next e _ =>
    refine ⟨_, _, Scene.runEffects_frame _ _, ?_⟩
    cases e <;> simp [applyEffects, applyEffect]

theorem applyEffect_length (entry : List Nat) (words : List Half) (e : WordEffect) :
    (applyEffect entry words e).length = words.length := by
  cases e <;> simp [applyEffect]

theorem applyEffects_length (entry : List Nat) (words : List Half) (l : List WordEffect) :
    (applyEffects entry words l).length = words.length := by
  unfold applyEffects
  induction l generalizing words with
  | nil => rfl
  | cons e l ih => exact (ih _).trans (applyEffect_length entry words e)

/-- An applied page Switch: the page shown and none pending, the entry empty, A raised; the words and the states follow (R58). -/
theorem Scene.switchPage_frame (sc : Scene) (p : Nat) :
    ∃ words live, words.length = sc.words.length ∧
      sc.switchPage p = { sc with
        leaving := if sc.shown = some p then none else sc.shown
        shown := some p
        pendingPage := none
        pageReady := []
        words := words
        live := live
        entry := []
        guard := if p = sc.guard.prompt then sc.guard else { sc.guard with wait := none }
        activity := sc.activity + 1 } := by
  obtain ⟨words, live, heq, hlen⟩ := (sc.showPage p).enterPage.entryEffect_frame
  refine ⟨words, live, hlen, ?_⟩
  unfold Scene.switchPage
  rw [heq]
  rfl

theorem Scene.tagEffect_frame (e : CueEffect) (sc : Scene) :
    ∃ words v held, sc.tagEffect e = { sc with words := words, show_ := v, held := held }
      ∧ words.length = sc.words.length ∧ (v = sc.show_ ∨ v = .paused) := by
  cases e with
  | pause => exact ⟨sc.words, .paused, true, rfl, rfl, .inr rfl⟩
  | reportOnly => exact ⟨sc.words, sc.show_, sc.held, rfl, rfl, .inl rfl⟩
  | setBit w b => exact ⟨_, sc.show_, sc.held, rfl, applyEffect_length _ _ _, .inl rfl⟩

/-- The effects one after another, before the states follow the words (R98). -/
theorem Scene.foldl_tagEffect_frame (l : List Cue) (sc : Scene) :
    ∃ words v held, l.foldl (fun s c => s.tagEffect c.effect) sc = { sc with words := words, show_ := v, held := held }
      ∧ words.length = sc.words.length ∧ (v = sc.show_ ∨ v = .paused) := by
  induction l generalizing sc with
  | nil => exact ⟨sc.words, sc.show_, sc.held, rfl, rfl, .inl rfl⟩
  | cons c l ih =>
    obtain ⟨words, v, held, heq, hlen, hv⟩ := ih (sc.tagEffect c.effect)
    obtain ⟨words', v', held', heq', hlen', hv'⟩ := sc.tagEffect_frame c.effect
    rw [List.foldl_cons, heq]
    rw [heq'] at hlen hv ⊢
    refine ⟨words, v, held, rfl, hlen.trans hlen', ?_⟩
    rcases hv with rfl | rfl
    · exact hv'
    · exact .inr rfl

/-- The effects of Tagged cues: a Pause pauses and holds, a Set Bit sets a word, and the states follow the words (R98). -/
theorem Scene.tagEffects_frame (l : List Cue) (sc : Scene) :
    ∃ words live v held, sc.tagEffects l = { sc with words := words, live := live, show_ := v, held := held }
      ∧ words.length = sc.words.length ∧ (v = sc.show_ ∨ v = .paused) := by
  obtain ⟨words, v, held, heq, hlen, hv⟩ := sc.foldl_tagEffect_frame l
  unfold Scene.tagEffects
  dsimp only
  rw [heq]
  split
  · exact ⟨words, _, v, held, Scene.recompute_frame _, hlen, hv⟩
  · exact ⟨words, sc.live, v, held, rfl, hlen, hv⟩

/-- A slide change to entry `i` in the replica: S raised, the index pending, the ready set empty, and what its Tagged cues bring
(R92, R98). -/
theorem Scene.beginSlide_frame (i : Nat) (e : Slide) (sc : Scene) :
    ∃ words live v held cues, sc.beginSlide i e = { sc with
        slideChange := sc.slideChange + 1, pendingIndex := some i, slideReady := []
        words := words, live := live, show_ := v, held := held, cues := cues }
      ∧ words.length = sc.words.length ∧ cues.length = sc.cues.length ∧ (v = sc.show_ ∨ v = .paused) := by
  unfold Scene.beginSlide Scene.testTag
  split
  · exact ⟨sc.words, sc.live, sc.show_, false, sc.cues, rfl, rfl, rfl, .inl rfl⟩
  · next t _ =>
    obtain ⟨words, live, v, held, heq, hlen, hv⟩ :=
      Scene.tagEffects_frame ((sc.raiseSlide i).cues.filter (Cue.firesOn t)) (sc.raiseSlide i)
    refine ⟨words, live, v, held, sc.cues.map (fun c => if c.firesOn t then c.disarm else c), ?_, hlen,
      List.length_map _, hv⟩
    unfold Scene.fireTagged
    dsimp only
    rw [heq]
    rfl

/-! ### The guard and the tables -/

theorem Guard.wf_iff (g : Guard) :
    g.wf = true ↔ g.allowance ≤ 7 ∧ g.prompt ≤ 63 ∧ g.attempts ≤ 4 ∧ (g.closed = true ↔ g.attempts = 0)
      ∧ ∀ d, g.code = some d → d.length = 4 ∧ ∀ n ∈ d, n ≤ 9 := by
  have hclosed : (g.closed == decide (g.attempts = 0)) = true ↔ (g.closed = true ↔ g.attempts = 0) := by
    cases g.closed <;> simp
  unfold Guard.wf
  simp only [Bool.and_eq_true, decide_eq_true_eq, hclosed, and_assoc]
  cases g.code <;> simp

theorem readCode_digits {code : Half} {d : List Nat} (h : readCode code = some (some d)) :
    d.length = 4 ∧ ∀ n ∈ d, n ≤ 9 := by
  unfold readCode at h
  split at h
  · exact absurd h (by simp)
  · split at h
    · next hall =>
      obtain rfl := Option.some.inj (Option.some.inj h)
      exact ⟨rfl, fun n hn => by simpa using List.all_eq_true.mp hall n hn⟩
    · exact absurd h (by simp)

/-- The edits that touch the guard record keep its ranges; every other one leaves the record, but for its wait. -/
theorem Scene.kept_guard : Scene.Kept (fun sc => sc.guard.wf = true) := by
  intro sc d hedit h
  cases hedit with
  | restart owners speaker => rfl
  | guardSuccess =>
    obtain ⟨ha, hp, -, -, hc⟩ := (Guard.wf_iff _).mp h
    exact (Guard.wf_iff _).mpr ⟨ha, hp, Nat.le_refl 4, by simp [Scene.guardSuccess], hc⟩
  | wrongCode ha' =>
    obtain ⟨ha, hp, hn, hcl, hc⟩ := (Guard.wf_iff _).mp h
    have hleft : sc.guard.attempts - 1 ≠ 0 := ha'
    refine (Guard.wf_iff _).mpr ⟨ha, hp, (Nat.sub_le _ _).trans hn, ?_, hc⟩
    simp only [Scene.spendAttempt]
    rw [hcl]
    omega
  | lastAttempt ha' =>
    obtain ⟨ha, hp, hn, -, hc⟩ := (Guard.wf_iff _).mp h
    have hnone : sc.guard.attempts - 1 = 0 := ha'
    refine (Guard.wf_iff _).mpr ⟨ha, hp, (Nat.sub_le _ _).trans hn, ?_, hc⟩
    simp [Scene.spendAttempt, Scene.closeGuard, hnone]
  | guardSet code digits allowance prompt hc ha hp =>
    obtain ⟨-, -, hn, hcl, -⟩ := (Guard.wf_iff _).mp h
    exact (Guard.wf_iff _).mpr ⟨ha, hp, hn, hcl, fun d hd => readCode_digits (hc.trans (congrArg some hd))⟩
  | showPage p hp =>
    obtain ⟨words, live, -, heq⟩ := sc.switchPage_frame p
    rw [heq]
    dsimp only
    split <;> exact h
  | closeActivation => rw [sc.closeActivation_frame]; exact h
  | move o d => rw [sc.move_frame]; exact h
  | setWord w v => rw [sc.setWord_frame]; exact h
  | runEffects l => rw [sc.runEffects_frame]; exact h
  | activate i l => rw [sc.activate_frame]; exact h
  | beginSlide i e he hv =>
    obtain ⟨words, live, v, held, cues, heq, -⟩ := sc.beginSlide_frame i e
    rw [heq]; exact h
  | removeBegin i j e hi hr he =>
    obtain ⟨words, live, v, held, cues, heq, -⟩ := (sc.removeSlide i).beginSlide_frame j e
    rw [heq]; exact h
  | _ => exact h

theorem Scene.shapeWf_iff (sc : Scene) :
    sc.shapeWf = true ↔ sc.pages.length = 64 ∧ sc.words.length = 8 ∧ sc.cues.length = 8 ∧ sc.entry.length ≤ 4
      ∧ ∀ d ∈ sc.entry, d ≤ 9 := by
  simp [Scene.shapeWf, and_assoc]

theorem mem_appendDigit {entry : List Nat} {d n : Nat} (h : n ∈ appendDigit entry d) : n ∈ entry ∨ n = d := by
  unfold appendDigit at h
  split at h
  · exact (List.mem_append.mp h).imp List.mem_of_mem_tail List.mem_singleton.mp
  · exact (List.mem_append.mp h).imp id List.mem_singleton.mp

theorem Scene.kept_shape : Scene.Kept (fun sc => sc.shapeWf = true) := by
  intro sc d hedit h
  obtain ⟨hpg, hw, hc, hlen, hdig⟩ := sc.shapeWf_iff.mp h
  have hempty : ([] : List Nat).length ≤ 4 ∧ ∀ d ∈ ([] : List Nat), d ≤ 9 := by simp
  cases hedit with
  | restart owners speaker => rfl
  | showPage p hp =>
    obtain ⟨words, live, hwl, heq⟩ := sc.switchPage_frame p
    rw [heq, Scene.shapeWf_iff]
    exact ⟨hpg, hwl.trans hw, hc, hempty⟩
  | setPage p pg hp => exact (Scene.shapeWf_iff _).mpr ⟨(List.length_set ..).trans hpg, hw, hc, hlen, hdig⟩
  | guardSuccess => exact (Scene.shapeWf_iff _).mpr ⟨hpg, hw, hc, hempty⟩
  | wrongCode ha => exact (Scene.shapeWf_iff _).mpr ⟨hpg, hw, hc, hempty⟩
  | lastAttempt ha => exact (Scene.shapeWf_iff _).mpr ⟨hpg, hw, hc, hempty⟩
  | digit d hd =>
    refine (Scene.shapeWf_iff _).mpr ⟨hpg, hw, hc, appendDigit_length_le d hlen, fun n hn => ?_⟩
    rcases mem_appendDigit hn with hn | rfl
    · exact hdig n hn
    · exact hd
  | clearEntry => exact (Scene.shapeWf_iff _).mpr ⟨hpg, hw, hc, hempty⟩
  | closeActivation => rw [sc.closeActivation_frame]; exact h
  | move o d => rw [sc.move_frame]; exact h
  | setWord w v =>
    rw [sc.setWord_frame, Scene.shapeWf_iff]
    exact ⟨hpg, (List.length_set ..).trans hw, hc, hlen, hdig⟩
  | runEffects l =>
    rw [sc.runEffects_frame, Scene.shapeWf_iff]
    exact ⟨hpg, (applyEffects_length _ _ _).trans hw, hc, hlen, hdig⟩
  | activate i l =>
    rw [sc.activate_frame, Scene.shapeWf_iff]
    exact ⟨hpg, (applyEffects_length _ _ _).trans hw, hc, hempty⟩
  | cues l hl => exact (Scene.shapeWf_iff _).mpr ⟨hpg, hw, hl.trans hc, hlen, hdig⟩
  | beginSlide i e he hv =>
    obtain ⟨words, live, v, held, cues, heq, hwl, hcl, -⟩ := sc.beginSlide_frame i e
    rw [heq, Scene.shapeWf_iff]
    exact ⟨hpg, hwl.trans hw, hcl.trans hc, hlen, hdig⟩
  | removeBegin i j e hi hr he =>
    obtain ⟨words, live, v, held, cues, heq, hwl, hcl, -⟩ := (sc.removeSlide i).beginSlide_frame j e
    rw [heq, Scene.shapeWf_iff]
    exact ⟨hpg, hwl.trans hw, hcl.trans hc, hlen, hdig⟩
  | _ => exact h

/-! ### The slide list -/

theorem Scene.slidesWf_iff (sc : Scene) :
    sc.slidesWf = true ↔ sc.slides.length ≤ 128 ∧ (sc.slides = [] → sc.current = 0)
      ∧ (sc.slides ≠ [] → sc.current < sc.slides.length)
      ∧ (sc.pendingIndex = none → sc.held = false)
      ∧ ∀ p, sc.pendingIndex = some p → p < sc.slides.length ∧ sc.show_ ≠ .stopped := by
  unfold Scene.slidesWf
  cases sc.pendingIndex <;> by_cases hs : sc.slides = [] <;> simp [hs, and_assoc]

/-- A slide change to an entry of the list, in a show that is not Stopped, keeps the list and its indices in agreement. -/
theorem Scene.slidesWf_beginSlide {sc : Scene} {i : Nat} {e : Slide} (hlen : sc.slides.length ≤ 128)
    (hcur : sc.current < sc.slides.length) (hi : sc.slides[i]? = some e) (hv : sc.show_ ≠ .stopped) :
    (sc.beginSlide i e).slidesWf = true := by
  obtain ⟨words, live, v, held, cues, heq, -, -, hshow⟩ := sc.beginSlide_frame i e
  have hne : sc.slides ≠ [] := fun h => by rw [h] at hcur; exact absurd hcur (by simp)
  rw [heq, Scene.slidesWf_iff]
  refine ⟨hlen, fun h => absurd h hne, fun _ => hcur, fun h => absurd h (by simp), fun p hp => ?_⟩
  obtain rfl := Option.some.inj hp
  refine ⟨(List.getElem?_eq_some_iff.mp hi).1, ?_⟩
  rcases hshow with hshow | hshow
  · exact hshow ▸ hv
  · rw [hshow]
    exact Show.noConfusion

theorem currentAfter_lt {i c n : Nat} (hi : i < n) (hc : c < n) (hn : 1 < n) : currentAfter i c n < n - 1 := by
  unfold currentAfter
  split
  · omega
  · split <;> omega

theorem Scene.removeSlide_length (sc : Scene) {i : Nat} (hi : i < sc.slides.length) :
    (sc.removeSlide i).slides.length = sc.slides.length - 1 := List.length_eraseIdx_of_lt hi

theorem Scene.kept_slides : Scene.Kept (fun sc => sc.slidesWf = true) := by
  intro sc d hedit h
  obtain ⟨hlen, hnil, hcur, hheld, hpend⟩ := sc.slidesWf_iff.mp h
  have hremove : ∀ i, i < sc.slides.length → (sc.removeSlide i).slides ≠ [] →
      (sc.removeSlide i).slides.length ≤ 128 ∧ (sc.removeSlide i).current < (sc.removeSlide i).slides.length := by
    intro i hi hne
    have hpos := List.length_pos_of_ne_nil hne
    have hne' : sc.slides ≠ [] := fun h => by rw [h] at hi; exact absurd hi (by simp)
    rw [sc.removeSlide_length hi] at *
    exact ⟨by omega, currentAfter_lt hi (hcur hne') (by omega)⟩
  cases hedit with
  | restart owners speaker => rfl
  | showPage p hp =>
    obtain ⟨words, live, -, heq⟩ := sc.switchPage_frame p
    rw [heq]; exact h
  | closeActivation => rw [sc.closeActivation_frame]; exact h
  | move o d => rw [sc.move_frame]; exact h
  | setWord w v => rw [sc.setWord_frame]; exact h
  | runEffects l => rw [sc.runEffects_frame]; exact h
  | activate i l => rw [sc.activate_frame]; exact h
  | append e hl =>
    refine (Scene.slidesWf_iff _).mpr ⟨by simp; omega, by simp, fun _ => ?_, hheld, fun p hp => ?_⟩
    · rw [List.length_append, List.length_singleton]
      by_cases hs : sc.slides = []
      · rw [hnil hs]
        exact Nat.succ_pos _
      · exact Nat.lt_succ_of_lt (hcur hs)
    · rw [List.length_append]
      exact ⟨Nat.lt_add_right _ (hpend p hp).1, (hpend p hp).2⟩
  | playShow v loop hv =>
    exact (Scene.slidesWf_iff _).mpr ⟨hlen, hnil, hcur, hheld, fun p hp => ⟨(hpend p hp).1, hv⟩⟩
  | release => exact (Scene.slidesWf_iff _).mpr ⟨hlen, hnil, hcur, fun _ => rfl, hpend⟩
  | seek i hi =>
    refine (Scene.slidesWf_iff _).mpr ⟨hlen, fun hs => ?_, fun _ => hi, hheld, hpend⟩
    have hs' : sc.slides = [] := hs
    rw [hs'] at hi
    exact absurd hi (by simp)
  | beginSlide i e he hv =>
    have hi := (List.getElem?_eq_some_iff.mp he).1
    refine Scene.slidesWf_beginSlide hlen (hcur fun hs => ?_) he hv
    rw [hs] at hi
    exact absurd hi (by simp)
  | showSlide i hi =>
    have hlt := (hpend i hi).1
    refine (Scene.slidesWf_iff _).mpr ⟨hlen, fun hs => ?_, fun _ => hlt, fun _ => rfl, fun p hp => absurd hp (by simp)⟩
    have hs' : sc.slides = [] := hs
    rw [hs'] at hlt
    exact absurd hlt (by simp)
  | remove i hi hne hp =>
    obtain ⟨hl, hc⟩ := hremove i hi hne
    refine (Scene.slidesWf_iff _).mpr ⟨hl, fun hs => absurd hs hne, fun _ => hc, fun hn => hheld ?_, fun q hq => ?_⟩
    · exact Option.map_eq_none_iff.mp hn
    · obtain ⟨p, hpp, rfl⟩ := Option.map_eq_some_iff.mp hq
      obtain ⟨hlt, hv⟩ := hpend p hpp
      have hpi : p ≠ i := fun hpi => hp (hpi ▸ hpp)
      rw [sc.removeSlide_length hi]
      refine ⟨?_, hv⟩
      split <;> omega
  | removeBegin i j e hi hr he =>
    have hne : (sc.removeSlide i).slides ≠ [] := fun hs => by rw [hs] at he; exact absurd he (by simp)
    obtain ⟨hl, hc⟩ := hremove i hi hne
    refine Scene.slidesWf_beginSlide hl hc he ?_
    have hshow : (sc.removeSlide i).show_ = sc.show_ := rfl
    rw [hshow]
    unfold Scene.removeRequest at hr
    split at hr
    · next hp => exact (hpend i hp).2
    · split at hr
      · next hp =>
        rw [← hshow, hp.1]
        exact Show.noConfusion
      · exact absurd hr (by simp)
  | clear => exact (Scene.slidesWf_iff _).mpr ⟨Nat.zero_le _, fun _ => rfl, fun hne => absurd rfl hne, fun _ => rfl,
      fun p hp => absurd hp (by simp [Scene.cancelSlide])⟩
  | _ => exact h

end Sys2Proof.Machine

/-! The shown page under the edits of the replica: the shown and the pending page stay Complete, with a state for each button of the
shown page, at most one button chosen and a Selected one enabled (R10, R18, R19). -/

namespace Sys2Proof.Machine

/-! ### The buttons' states -/

/-- At most one button is Selected or Activated. -/
def OneChosen (live : List Live) : Prop := (live.map Live.state).countP (fun s => decide (s ≠ .normal)) ≤ 1

/-- At most one button is Selected or Activated, and a Selected one is enabled (R19). -/
def ChosenWf (live : List Live) : Prop := OneChosen live ∧ ∀ l ∈ live, l.state = .selected → l.enabled = true

theorem Scene.selectionWf_iff (sc : Scene) : sc.selectionWf = true ↔ ChosenWf sc.live := by
  have hcount : (sc.live.map Live.state).countP (fun s => decide (s ≠ .normal))
      = (sc.live.filter (fun l => decide (l.state ≠ .normal))).length :=
    List.countP_map.trans List.countP_eq_length_filter
  simp only [Scene.selectionWf, ChosenWf, OneChosen, hcount, Bool.and_eq_true, decide_eq_true_eq, List.all_eq_true,
    Bool.or_eq_true]
  refine and_congr Iff.rfl (forall₂_congr fun l _ => ?_)
  by_cases h : l.state = .selected <;> simp [h]

theorem OneChosen.congr {l m : List Live} (h : l.map Live.state = m.map Live.state) (hm : OneChosen m) : OneChosen l := by
  unfold OneChosen
  rw [h]
  exact hm

theorem markOnly_length (target : Option Nat) (state : ButtonState) (i : Nat) (live : List Live) :
    (markOnly target state i live).length = live.length := by
  induction live generalizing i with
  | nil => rfl
  | cons l ls ih => simp [markOnly, ih]

theorem markOnly_getElem? (target : Option Nat) (state : ButtonState) (i k : Nat) (live : List Live) :
    (markOnly target state i live)[k]?
      = live[k]?.map (fun l => { l with state := if target = some (i + k) then state else .normal }) := by
  induction live generalizing i k with
  | nil => rfl
  | cons l ls ih =>
    cases k with
    | zero => rfl
    | succ k =>
      have hi : i + 1 + k = i + (k + 1) := by omega
      simp only [markOnly, List.getElem?_cons_succ, ih, hi]

/-- Behind the target every button is Normal. -/
theorem markOnly_countP_behind {target : Option Nat} (state : ButtonState) {i : Nat} (live : List Live)
    (h : ∀ t, target = some t → t < i) :
    ((markOnly target state i live).map Live.state).countP (fun s => decide (s ≠ .normal)) = 0 := by
  induction live generalizing i with
  | nil => rfl
  | cons l ls ih =>
    have hne : target ≠ some i := fun ht => absurd (h i ht) (Nat.lt_irrefl i)
    rw [markOnly, List.map_cons, List.countP_cons, ih fun t ht => Nat.lt_succ_of_lt (h t ht), if_neg hne]
    rfl

theorem oneChosen_markOnly (target : Option Nat) (state : ButtonState) (i : Nat) (live : List Live) :
    OneChosen (markOnly target state i live) := by
  unfold OneChosen
  induction live generalizing i with
  | nil => exact Nat.zero_le _
  | cons l ls ih =>
    by_cases ht : target = some i
    · have hbehind := markOnly_countP_behind (target := target) state (i := i + 1) ls fun t h => by
        rw [ht] at h
        exact Option.some.inj h ▸ Nat.lt_succ_self _
      rw [markOnly, List.map_cons, List.countP_cons, hbehind, Nat.zero_add, if_pos ht]
      cases state <;> simp
    · simpa [markOnly, ht] using ih (i + 1)

theorem chosenWf_markSelected {target : Option Nat} {live : List Live} (h : ∀ t, target = some t → enabledAt live t = true) :
    ChosenWf (markOnly target .selected 0 live) := by
  refine ⟨oneChosen_markOnly _ _ _ _, fun l hl hs => ?_⟩
  obtain ⟨k, hk⟩ := List.mem_iff_getElem?.mp hl
  rw [markOnly_getElem?, Nat.zero_add] at hk
  obtain ⟨l', hl', rfl⟩ := Option.map_eq_some_iff.mp hk
  dsimp only at hs ⊢
  split at hs
  · next ht => rw [← enabledAt_of_getElem? hl']; exact h k ht
  · exact absurd hs (by simp)

theorem firstIndex_some {f : Live → Bool} {i j : Nat} {live : List Live} (h : firstIndex f i live = some j) :
    ∃ k l, j = i + k ∧ live[k]? = some l ∧ f l = true := by
  induction live generalizing i with
  | nil => exact absurd h (by simp [firstIndex])
  | cons a live ih =>
    unfold firstIndex at h
    split at h
    · next ha => exact ⟨0, a, by simpa using (Option.some.inj h).symm, rfl, ha⟩
    · obtain ⟨k, l, hj, hk, hl⟩ := ih h
      exact ⟨k + 1, l, by omega, hk, hl⟩

theorem firstIndex_none {f : Live → Bool} {i : Nat} {live : List Live} (h : firstIndex f i live = none) :
    ∀ l ∈ live, f l = false := by
  induction live generalizing i with
  | nil => exact fun l hl => absurd hl (by simp)
  | cons a live ih =>
    unfold firstIndex at h
    split at h
    · exact absurd h (by simp)
    · next ha =>
      intro l hl
      rcases List.mem_cons.mp hl with rfl | hl
      · simpa using ha
      · exact ih h l hl

/-- The default choice is an enabled button (R19). -/
theorem Scene.defaultChoice_enabled {sc : Scene} {t : Nat} (h : sc.defaultChoice = some t) : enabledAt sc.live t = true := by
  have hfirst : ∀ {t}, firstIndex Live.enabled 0 sc.live = some t → enabledAt sc.live t = true := by
    intro t ht
    obtain ⟨k, l, hk, hl, he⟩ := firstIndex_some ht
    rw [hk, Nat.zero_add, enabledAt_of_getElem? hl]
    exact he
  unfold Scene.defaultChoice at h
  split at h
  · split at h
    · next he => exact Option.some.inj h ▸ he
    · exact hfirst h
  · exact hfirst h

theorem Scene.chosenWf_selectDefault (sc : Scene) : ChosenWf sc.selectDefault.live :=
  chosenWf_markSelected fun _ => Scene.defaultChoice_enabled

theorem Scene.selectDefault_length (sc : Scene) : sc.selectDefault.live.length = sc.live.length := markOnly_length _ _ _ _

/-- Two chosen buttons are one. -/
theorem OneChosen.unique {live : List Live} (h : OneChosen live) {i j : Nat} {a b : Live} (ha : live[i]? = some a)
    (hb : live[j]? = some b) (ca : a.state ≠ .normal) (cb : b.state ≠ .normal) : i = j := by
  unfold OneChosen at h
  have hpos : ∀ {l : List Live} {k : Nat} {c : Live}, l[k]? = some c → c.state ≠ .normal →
      0 < (l.map Live.state).countP (fun s => decide (s ≠ .normal)) := by
    intro l k c hk hc
    rw [List.countP_pos_iff]
    exact ⟨c.state, List.mem_map.mpr ⟨c, List.mem_of_getElem? hk, rfl⟩, decide_eq_true hc⟩
  induction live generalizing i j with
  | nil => exact absurd ha (by simp)
  | cons l ls ih =>
    rw [List.map_cons, List.countP_cons] at h
    cases i with
    | zero =>
      cases j with
      | zero => rfl
      | succ j =>
        obtain rfl := Option.some.inj ha
        have := hpos (show ls[j]? = some b from hb) cb
        rw [if_pos (decide_eq_true ca)] at h
        omega
    | succ i =>
      cases j with
      | zero =>
        obtain rfl := Option.some.inj hb
        have := hpos (show ls[i]? = some a from ha) ca
        rw [if_pos (decide_eq_true cb)] at h
        omega
      | succ j => exact congrArg Nat.succ (ih ((Nat.le_add_right _ _).trans h) ha hb)

/-- The reselect rule leaves a Selected button only where it is enabled (R20). -/
theorem Scene.chosenWf_reselect {sc : Scene} (h : OneChosen sc.live) : ChosenWf sc.reselect.live := by
  unfold Scene.reselect
  split
  · next hnone =>
    refine ⟨h, fun l hl hs => ?_⟩
    have := firstIndex_none hnone l hl
    rw [hs] at this
    exact absurd this (by decide)
  · next i hi =>
    split
    · next he =>
      refine ⟨h, fun l hl hs => ?_⟩
      obtain ⟨k, hk⟩ := List.mem_iff_getElem?.mp hl
      obtain ⟨k', l', hi', hk', hl'⟩ := firstIndex_some hi
      have hkk : k = k' := h.unique hk hk' (by rw [hs]; decide) (by rw [eq_of_beq hl']; decide)
      rw [hi', Nat.zero_add, ← hkk, enabledAt_of_getElem? hk] at he
      exact he
    · exact sc.chosenWf_selectDefault

/-! ### The shown page -/

/-- There is a state for each button of the shown page. -/
def Scene.LiveFits (sc : Scene) : Prop := ∀ pg, sc.shownBody = some pg → sc.live.length = pg.buttons.length

theorem Scene.decideEnabled_keeps {sc : Scene} (hl : sc.LiveFits) (h : OneChosen sc.live) :
    OneChosen sc.decideEnabled.live ∧ sc.decideEnabled.live.length = sc.live.length := by
  cases hb : sc.shownBody with
  | none =>
    have hsame : sc.decideEnabled = sc := by unfold Scene.decideEnabled; rw [hb]
    rw [hsame]
    exact ⟨h, rfl⟩
  | some pg =>
    have hstate := Scene.decideEnabled_state hb (hl pg hb)
    refine ⟨OneChosen.congr hstate h, ?_⟩
    have := congrArg List.length hstate
    rwa [List.length_map, List.length_map] at this

theorem Scene.recompute_keeps {sc : Scene} (hl : sc.LiveFits) (h : OneChosen sc.live) :
    ChosenWf sc.recompute.live ∧ sc.recompute.live.length = sc.live.length := by
  obtain ⟨hone, hlen⟩ := Scene.decideEnabled_keeps hl h
  refine ⟨Scene.chosenWf_reselect hone, ?_⟩
  have := congrArg List.length sc.decideEnabled.reselect_enabled
  rw [List.length_map, List.length_map] at this
  exact this.trans hlen

/-- The shown and the pending page and the buttons' states are as R10, R18 and R19 say. -/
def Scene.ViewWf (sc : Scene) : Prop := sc.pagesWf = true ∧ sc.selectionWf = true

theorem Scene.body_of_completeBody {sc : Scene} {p : Nat} {b : PageBody} (h : sc.completeBody p = some b) :
    sc.body p = some b := by
  unfold Scene.completeBody at h
  unfold Scene.body
  cases hb : sc.pages.getD p .undefined with
  | undefined => rw [hb] at h; exact absurd h (by simp)
  | defining d => rw [hb] at h; exact absurd h (by simp)
  | complete d => rw [hb] at h; exact h

theorem Scene.pagesWf_iff (sc : Scene) :
    sc.pagesWf = true ↔ (sc.shown = none → sc.live = [])
      ∧ (∀ p, sc.shown = some p → ∃ b, sc.completeBody p = some b ∧ sc.live.length = b.buttons.length)
      ∧ ∀ p, sc.pendingPage = some p → (sc.completeBody p).isSome = true := by
  unfold Scene.pagesWf
  rw [Bool.and_eq_true, ← and_assoc]
  refine and_congr ?_ ?_
  · cases sc.shown with
    | none => simp
    | some p =>
      cases hb : sc.completeBody p with
      | none => simp [hb]
      | some b => simp [hb]
  · cases sc.pendingPage <;> simp

theorem Scene.viewWf_iff (sc : Scene) :
    sc.ViewWf ↔ (sc.shown = none → sc.live = [])
      ∧ (∀ p, sc.shown = some p → ∃ b, sc.completeBody p = some b ∧ sc.live.length = b.buttons.length)
      ∧ (∀ p, sc.pendingPage = some p → (sc.completeBody p).isSome = true) ∧ ChosenWf sc.live := by
  unfold Scene.ViewWf
  rw [sc.pagesWf_iff, sc.selectionWf_iff, and_assoc, and_assoc]

theorem Scene.ViewWf.chosen {sc : Scene} (h : sc.ViewWf) : ChosenWf sc.live := (sc.viewWf_iff.mp h).2.2.2

theorem Scene.ViewWf.fits {sc : Scene} (h : sc.ViewWf) : sc.LiveFits := by
  intro pg hpg
  obtain ⟨p, hp, hb⟩ := Option.bind_eq_some_iff.mp hpg
  obtain ⟨b, hc, hl⟩ := (sc.viewWf_iff.mp h).2.1 p hp
  rw [Scene.body_of_completeBody hc] at hb
  exact Option.some.inj hb ▸ hl

/-- A change of the states alone, as many as before and well chosen. -/
theorem Scene.ViewWf.relive {sc d : Scene} (h : sc.ViewWf) (hp : d.pages = sc.pages) (hs : d.shown = sc.shown)
    (hq : d.pendingPage = sc.pendingPage) (hl : d.live.length = sc.live.length) (hc : ChosenWf d.live) : d.ViewWf := by
  have hbody : ∀ p, d.completeBody p = sc.completeBody p := fun p => by unfold Scene.completeBody; rw [hp]
  obtain ⟨hnone, hsome, hpend, -⟩ := sc.viewWf_iff.mp h
  refine d.viewWf_iff.mpr ⟨fun hn => ?_, fun p hp => ?_, fun p hp => ?_, hc⟩
  · rw [hs] at hn
    rw [hnone hn] at hl
    exact List.eq_nil_of_length_eq_zero hl
  · rw [hbody, hl]
    exact hsome p (hs ▸ hp)
  · rw [hbody]
    exact hpend p (hq ▸ hp)

/-- New words, with the states decided from them (R18, R20). -/
theorem Scene.ViewWf.recompute {sc : Scene} (h : sc.ViewWf) (words : List Half) (v : Show) (held : Bool) :
    ({ sc with words := words, show_ := v, held := held } : Scene).recompute.ViewWf := by
  obtain ⟨hc, hl⟩ := Scene.recompute_keeps (sc := { sc with words := words, show_ := v, held := held }) h.fits h.chosen.1
  rw [Scene.recompute_frame]
  exact h.relive rfl rfl rfl hl hc

theorem Scene.ViewWf.tagEffects {sc : Scene} (h : sc.ViewWf) (l : List Cue) : (sc.tagEffects l).ViewWf := by
  obtain ⟨words, v, held, heq, -⟩ := sc.foldl_tagEffect_frame l
  unfold Scene.tagEffects
  dsimp only
  rw [heq]
  split
  · exact h.recompute words v held
  · exact h.relive rfl rfl rfl rfl h.chosen

theorem Scene.ViewWf.beginSlide {sc : Scene} (h : sc.ViewWf) (i : Nat) (e : Slide) : (sc.beginSlide i e).ViewWf := by
  have hraised : (sc.raiseSlide i).ViewWf := h.relive rfl rfl rfl rfl h.chosen
  unfold Scene.beginSlide Scene.testTag
  split
  · exact hraised
  · next t _ =>
    have htag := hraised.tagEffects ((sc.raiseSlide i).cues.filter (Cue.firesOn t))
    exact htag.relive rfl rfl rfl rfl htag.chosen

theorem Scene.ViewWf.closeActivation {sc : Scene} (h : sc.ViewWf) : sc.closeActivation.ViewWf := by
  unfold Scene.closeActivation
  split
  · exact h
  · split
    · next he =>
      refine h.relive rfl rfl rfl (markOnly_length _ _ _ _) (chosenWf_markSelected fun t ht => ?_)
      exact Option.some.inj ht ▸ he
    · exact h.relive rfl rfl rfl sc.selectDefault_length sc.chosenWf_selectDefault

/-- A walk ends at an enabled button (R31). -/
theorem walk_enabled {buttons : List Button} {live : List Live} {d : Direction} {n o q : Nat} {visited : List Nat}
    (h : walk buttons live d n o visited = some q) : enabledAt live q = true := by
  induction n generalizing o visited with
  | zero => exact absurd h (by simp [walk])
  | succ n ih =>
    unfold walk at h
    split at h
    · exact absurd h (by simp)
    · split at h
      · exact absurd h (by simp)
      · split at h
        · next he => exact Option.some.inj h ▸ he
        · exact ih h

theorem Scene.ViewWf.move {sc : Scene} (h : sc.ViewWf) (o : Option Nat) (d : Direction) : (sc.move o d).ViewWf := by
  unfold Scene.move
  split
  · exact h.relive rfl rfl rfl sc.selectDefault_length sc.chosenWf_selectDefault
  · split
    · exact h
    · next ht =>
      refine h.relive rfl rfl rfl (markOnly_length _ _ _ _) (chosenWf_markSelected fun t' ht' => ?_)
      exact Option.some.inj ht' ▸ walk_enabled ht

theorem Scene.ViewWf.activate {sc : Scene} (h : sc.ViewWf) (i : Nat) (l : List WordEffect) : (sc.activate i l).ViewWf := by
  have hlen := markOnly_length (some i) .activated 0 sc.live
  obtain ⟨hc, hl⟩ := Scene.recompute_keeps
    (sc := { sc with live := markOnly (some i) .activated 0 sc.live, words := applyEffects sc.entry sc.words l })
    (fun pg hpg => hlen.trans (h.fits pg hpg)) (oneChosen_markOnly _ _ _ _)
  unfold Scene.activate Scene.runEffects
  rw [Scene.recompute_frame]
  exact h.relive rfl rfl rfl (hl.trans hlen) hc

/-- The page being shown has its default choice Selected, and its entry effect decides the states again (R58). -/
theorem Scene.viewWf_switchPage {sc : Scene} {p : Nat} {b : PageBody} (hb : sc.completeBody p = some b) :
    (sc.switchPage p).ViewWf := by
  have hentered : (sc.showPage p).enterPage.ViewWf := by
    have hbody : (sc.showPage p).shownBody = some b := Scene.body_of_completeBody hb
    refine (Scene.viewWf_iff _).mpr ⟨fun hn => absurd (show some p = none from hn) (by simp), fun q hq => ?_,
      fun q hq => absurd (show none = some q from hq) (by simp), Scene.chosenWf_selectDefault _⟩
    obtain rfl := Option.some.inj (show some p = some q from hq)
    refine ⟨b, hb, ?_⟩
    unfold Scene.enterPage
    rw [hbody, Scene.selectDefault_length]
    exact List.length_map _
  have heffect : (sc.showPage p).enterPage.entryEffect.ViewWf := by
    unfold Scene.entryEffect
    split
    · exact hentered
    · exact hentered.recompute _ _ _
  exact heffect.relive rfl rfl rfl rfl heffect.chosen

theorem Scene.completeBody_setPage {sc : Scene} {p q : Nat} (pg : Page) (h : p ≠ q) :
    (sc.setPage p pg).completeBody q = sc.completeBody q := by
  unfold Scene.completeBody Scene.setPage
  dsimp only
  rw [List.getD_eq_getElem?_getD, List.getElem?_set_ne h, ← List.getD_eq_getElem?_getD]

theorem Scene.ViewWf.setPage {sc : Scene} (h : sc.ViewWf) {p : Nat} (pg : Page) (hp : sc.inUse p = false) :
    (sc.setPage p pg).ViewWf := by
  obtain ⟨hnone, hsome, hpend, hc⟩ := sc.viewWf_iff.mp h
  have hfree : sc.shown ≠ some p ∧ sc.pendingPage ≠ some p := by
    unfold Scene.inUse at hp
    simp only [Bool.or_eq_false_iff, decide_eq_false_iff_not] at hp
    exact hp.1
  refine (Scene.viewWf_iff _).mpr ⟨hnone, fun q hq => ?_, fun q hq => ?_, hc⟩
  · rw [Scene.completeBody_setPage pg fun hpq => hfree.1 (by rw [hpq]; exact hq)]
    exact hsome q hq
  · rw [Scene.completeBody_setPage pg fun hpq => hfree.2 (by rw [hpq]; exact hq)]
    exact hpend q hq

theorem Scene.kept_view : Scene.Kept Scene.ViewWf := by
  intro sc d hedit h
  cases hedit with
  | restart owners speaker => exact ⟨rfl, rfl⟩
  | beginPage p body hp =>
    obtain ⟨hnone, hsome, -, hc⟩ := sc.viewWf_iff.mp h
    refine (Scene.viewWf_iff _).mpr ⟨hnone, hsome, fun q hq => ?_, hc⟩
    obtain rfl := Option.some.inj (show some p = some q from hq)
    exact Option.isSome_iff_exists.mpr ⟨body, hp⟩
  | showPage p hp =>
    obtain ⟨b, hb⟩ := Option.isSome_iff_exists.mp ((sc.viewWf_iff.mp h).2.2.1 p hp)
    exact Scene.viewWf_switchPage hb
  | setPage p pg hp => exact h.setPage pg hp
  | closeActivation => exact h.closeActivation
  | move o d => exact h.move o d
  | setWord w v => exact h.recompute _ _ _
  | runEffects l => exact h.recompute _ _ _
  | activate i l => exact h.activate i l
  | beginSlide i e he hv => exact h.beginSlide i e
  | removeBegin i j e hi hr he => exact Scene.ViewWf.beginSlide (sc := sc.removeSlide i) h j e
  | _ => exact h

end Sys2Proof.Machine

/-! The station under every command: each part of a command's rule edits the replica, keeps the blocks' invariants and leaves the
timers to their roles (R61, R63, R173), and so does every step. -/

namespace Sys2Proof.Machine

/-! ### The relation -/

/-- The timers of a station that is the speaker, or is not (R61, R63). -/
def Timers.fit (speaker : Bool) (t : Timers) : Bool :=
  if speaker then t.absence.isNone
  else t.pageTimeout.isNone && t.hold.isNone && t.slideDuration.isNone && t.pagePrepare.isNone && t.slidePrepare.isNone

theorem Station.timersWf_eq (st : Station) : st.timersWf = st.timers.fit st.isSpeaker := rfl

/-- From `st` to `u` the replica has been edited, and the invariants of the other parts have passed. -/
structure Station.Keeps (st u : Station) : Prop where
  scene : st.scene.Edits u.scene
  blocks : st.blocks.Preserves u.blocks
  timers : st.timersWf = true → u.timersWf = true
  number : st.numberWf = true → u.numberWf = true

/-- The same of a change that leaves a Running station Running, as every command but the release of the reset line does. -/
structure Station.Sound (st u : Station) : Prop where
  scene : st.scene.Edits u.scene
  blocks : st.blocks.Preserves u.blocks
  timers : st.timersWf = true → u.timersWf = true
  number : st.numberWf = true → u.numberWf = true
  mode : st.mode = .running → u.mode = .running

theorem Station.Sound.keeps {st u : Station} (h : st.Sound u) : st.Keeps u := ⟨h.scene, h.blocks, h.timers, h.number⟩

theorem Station.sound_refl (st : Station) : st.Sound st := ⟨.refl, st.blocks.preserves_refl, id, id, id⟩

theorem Station.Sound.trans {st u v : Station} (h : st.Sound u) (k : u.Sound v) : st.Sound v :=
  ⟨h.scene.trans k.scene, h.blocks.trans k.blocks, k.timers ∘ h.timers, k.number ∘ h.number, k.mode ∘ h.mode⟩

theorem Station.isSpeaker_congr {st u : Station} (hs : u.scene.speaker = st.scene.speaker) (hn : u.number = st.number) :
    u.isSpeaker = st.isSpeaker := by
  unfold Station.isSpeaker
  rw [hs, hn]

theorem Station.timersWf_of {u : Station} {speaker : Bool} (hs : u.isSpeaker = speaker) (h : u.timers.fit speaker = true) :
    u.timersWf = true := by
  rw [Station.timersWf_eq, hs]
  exact h

/-- Whether the timers fit depends on the speaker, the number and the timers alone. -/
theorem Station.timersWf_congr {st u : Station} (hs : u.scene.speaker = st.scene.speaker) (hn : u.number = st.number)
    (ht : u.timers = st.timers) (h : st.timersWf = true) : u.timersWf = true := by
  refine Station.timersWf_of (Station.isSpeaker_congr hs hn) ?_
  rw [ht]
  exact h

theorem Station.numberWf_congr {st u : Station} (hn : u.number = st.number) (hm : u.mode = st.mode)
    (h : st.numberWf = true) : u.numberWf = true := by
  unfold Station.numberWf at *
  rwa [hn, hm]

theorem Station.sound_withScene {f : Scene → Scene} {st : Station} (h : st.scene.Edit (f st.scene))
    (hs : (f st.scene).speaker = st.scene.speaker) : st.Sound (st.withScene f) := by
  refine ⟨h.edits, st.blocks.preserves_refl, fun ht => ?_, id, id⟩
  rw [Station.timersWf_eq] at *
  rwa [Station.isSpeaker_congr (u := st.withScene f) hs rfl]

theorem Station.sound_withBlocks {f : Blocks → Blocks} {st : Station} (h : st.blocks.Preserves (f st.blocks)) :
    st.Sound (st.withBlocks f) := ⟨.refl, h, id, id, id⟩

theorem Station.sound_withTimers {f : Timers → Timers} {st : Station}
    (h : st.timers.fit st.isSpeaker = true → (f st.timers).fit st.isSpeaker = true) : st.Sound (st.withTimers f) :=
  ⟨.refl, st.blocks.preserves_refl, h, id, id⟩

theorem Station.sound_enqueue (m : Message) (st : Station) : st.Sound (st.enqueue m) :=
  Station.sound_withBlocks (st.blocks.preserves_enqueue m)

theorem Station.sound_enqueueAll (ms : List Message) (st : Station) : st.Sound (st.enqueueAll ms) := by
  unfold Station.enqueueAll
  induction ms generalizing st with
  | nil => exact st.sound_refl
  | cons m ms ih => exact (st.sound_enqueue m).trans (ih _)

theorem Station.sound_settle (st before : Station) : st.Sound (st.settle before) := by
  unfold Station.settle
  split
  · exact Station.sound_withBlocks (Blocks.preserves_settle _ _ _ _ _)
  · exact st.sound_refl

theorem Station.sound_refuse (k : FaultKind) (c : Cause) (p q : Option Nat) (st : Station) : st.Sound (st.refuse k c p q) := by
  unfold Station.refuse
  split
  · exact st.sound_enqueue _
  · exact st.sound_refl

/-! ### The timers -/

theorem Timers.fit_iff (speaker : Bool) (t : Timers) :
    t.fit speaker = true ↔ (speaker = true → t.absence = none)
      ∧ (speaker = false → t.pageTimeout = none ∧ t.hold = none ∧ t.slideDuration = none ∧ t.pagePrepare = none
          ∧ t.slidePrepare = none) := by
  cases speaker <;> simp [Timers.fit, and_assoc]

/-- Timers at their reset values but for the absence counter fit a station that is not the speaker. -/
theorem Timers.fit_false {t : Timers} (ht : t.pageTimeout = none) (hh : t.hold = none) (hd : t.slideDuration = none)
    (hp : t.pagePrepare = none) (hs : t.slidePrepare = none) : t.fit false = true :=
  (Timers.fit_iff _ _).mpr ⟨fun h => absurd h (by simp), fun _ => ⟨ht, hh, hd, hp, hs⟩⟩

theorem Timers.fit_true {t : Timers} (h : t.absence = none) : t.fit true = true :=
  (Timers.fit_iff _ _).mpr ⟨fun _ => h, fun h => absurd h (by simp)⟩

theorem Timers.fit_reset (speaker : Bool) : Timers.reset.fit speaker = true := by
  cases speaker <;> rfl

/-- A change of the speaker's timers in the speaker, and of the absence counter in the others. -/
theorem Timers.fit_by_role {speaker : Bool} {t u : Timers} (hsp : speaker = true → u.absence = t.absence)
    (hns : speaker = false → u.pageTimeout = t.pageTimeout ∧ u.hold = t.hold ∧ u.slideDuration = t.slideDuration
      ∧ u.pagePrepare = t.pagePrepare ∧ u.slidePrepare = t.slidePrepare) (h : t.fit speaker = true) :
    u.fit speaker = true := by
  rw [Timers.fit_iff] at *
  refine ⟨fun hs => (hsp hs).trans (h.1 hs), fun hs => ?_⟩
  obtain ⟨h1, h2, h3, h4, h5⟩ := hns hs
  rw [h1, h2, h3, h4, h5]
  exact h.2 hs

theorem Timers.fit_beginPage {speaker : Bool} {t : Timers} (limit : Nat) (change : Half) (h : t.fit speaker = true) :
    (t.beginPage speaker limit change).fit speaker = true := by
  cases speaker with
  | true => exact h
  | false => exact h

theorem Timers.fit_pageSwitched {speaker : Bool} {t : Timers} (sc : Scene) (h : t.fit speaker = true) :
    (t.pageSwitched speaker sc).fit speaker = true := by
  cases speaker with
  | true => exact h
  | false => exact h

theorem Timers.fit_beginSlide {speaker : Bool} {t : Timers} (limit : Nat) (sc : Scene) (h : t.fit speaker = true) :
    (t.beginSlide speaker limit sc).fit speaker = true := by
  unfold Timers.beginSlide
  cases speaker with
  | true => simp only [if_true]; split <;> exact h
  | false => simp only [Bool.false_eq_true, if_false]; split <;> exact h

theorem Timers.fit_cancelSlide {speaker : Bool} {t : Timers} (sc : Scene) (h : t.fit speaker = true) :
    (t.cancelSlide speaker sc).fit speaker = true := by
  cases speaker with
  | true => exact h
  | false => exact h

theorem Timers.fit_slideSwitched {speaker : Bool} {t : Timers} (sc : Scene) (e : Slide) (h : t.fit speaker = true) :
    (t.slideSwitched speaker sc e).fit speaker = true := by
  unfold Timers.slideSwitched
  cases speaker with
  | true => simp only [if_true]; split <;> exact h
  | false => exact h

/-- A timer that stops fits either role. -/
theorem Timers.fit_stop {speaker : Bool} {t u : Timers} (ha : u.absence = t.absence)
    (ht : u.pageTimeout = t.pageTimeout ∨ u.pageTimeout = none) (hh : u.hold = t.hold ∨ u.hold = none)
    (hd : u.slideDuration = t.slideDuration ∨ u.slideDuration = none)
    (hp : u.pagePrepare = t.pagePrepare ∨ u.pagePrepare = none) (hs : u.slidePrepare = t.slidePrepare ∨ u.slidePrepare = none)
    (h : t.fit speaker = true) : u.fit speaker = true := by
  rw [Timers.fit_iff] at *
  refine ⟨fun hsp => ha.trans (h.1 hsp), fun hsp => ?_⟩
  obtain ⟨h1, h2, h3, h4, h5⟩ := h.2 hsp
  exact ⟨ht.elim (·.trans h1) id, hh.elim (·.trans h2) id, hd.elim (·.trans h3) id, hp.elim (·.trans h4) id,
    hs.elim (·.trans h5) id⟩

/-! ### Page changes -/

theorem Station.sound_beginPage {p : Nat} {body : PageBody} {st : Station} (h : st.scene.completeBody p = some body) :
    st.Sound (st.beginPage p body) := by
  unfold Station.beginPage
  exact (Station.sound_withScene (.beginPage p body h) rfl).trans
    ((Station.sound_withTimers (st := st.withScene (Scene.beginPage p)) (Timers.fit_beginPage _ _)).trans
      (Station.sound_withBlocks (Blocks.preserves_beginPage _ _ _ _ _)))

theorem Station.sound_setWait (w : Option Wait) (st : Station) : st.Sound (st.withScene (Scene.setWait w)) :=
  Station.sound_withScene (.wait w) rfl

theorem Station.sound_requestPrompt (c : Cause) (st : Station) : st.Sound (st.requestPrompt c).2 := by
  unfold Station.requestPrompt
  split
  · exact (st.sound_setWait none).trans (Station.sound_refuse _ _ _ _ _)
  · next b hb =>
    split
    · exact (st.sound_setWait none).trans (Station.sound_refuse _ _ _ _ _)
    · exact Station.sound_beginPage hb

theorem Station.sound_request (c : Cause) (passed : Bool) (p : Nat) (st : Station) : st.Sound (st.request c passed p).2 := by
  unfold Station.request
  split
  · exact Station.sound_refuse _ _ _ _ _
  · next b hb =>
    split
    · exact Station.sound_beginPage hb
    · split
      · exact Station.sound_refuse _ _ _ _ _
      · split
        · exact Station.sound_beginPage hb
        · exact (st.sound_setWait _).trans (Station.sound_requestPrompt c _)

/-! ### Activation and the guard's Enter -/

theorem Station.sound_reportActivation (b : Button) (st : Station) : st.Sound (st.reportActivation b) := by
  unfold Station.reportActivation
  split
  · exact st.sound_refl
  · split
    · exact st.sound_enqueue _
    · exact st.sound_refl

theorem Station.sound_startHold (st : Station) : st.Sound st.startHold := by
  unfold Station.startHold
  split
  · next hsp => exact Station.sound_withTimers (Timers.fit_by_role (fun _ => rfl) fun h => absurd hsp (by rw [h]; simp))
  · exact st.sound_refl

theorem Scene.activate_speaker (i : Nat) (l : List WordEffect) (sc : Scene) : (sc.activate i l).speaker = sc.speaker := by
  rw [sc.activate_frame]

theorem Station.sound_activate (c : Cause) (i : Nat) (st : Station) : st.Sound (st.activate c i).2 := by
  unfold Station.activate
  split
  · exact st.sound_refl
  · next b _ =>
    have hrep : st.Sound ((st.withScene (Scene.activate i b.effects)).reportActivation b) :=
      (Station.sound_withScene (.activate i b.effects) (Scene.activate_speaker _ _ _)).trans
        (Station.sound_reportActivation b _)
    dsimp only
    split
    · exact hrep.trans (Station.sound_startHold _)
    · next q _ =>
      have hreq := hrep.trans (Station.sound_request c false q _)
      split
      · exact hreq
      · exact hreq.trans (Station.sound_startHold _)

theorem Station.sound_enterSelected (c : Cause) (st : Station) : st.Sound (st.enterSelected c).2 := by
  unfold Station.enterSelected
  split
  · exact st.sound_refl
  · exact st.sound_activate c _

theorem Station.sound_returnToOrigin (c : Cause) (w : Wait) (st : Station) : st.Sound (st.returnToOrigin c w).2 := by
  unfold Station.returnToOrigin
  split
  · exact st.sound_refl
  · exact st.sound_request c false _

/-- The Report of a refused code goes out from the speaker, with the attempts that are left (R75). -/
def Station.reportRefused (target : Nat) (st : Station) : Station :=
  if st.isSpeaker then st.enqueue (.report (st.scene.refusedReport target)) else st

theorem Station.refuseCode_eq (c : Cause) (w : Wait) (st : Station) :
    st.refuseCode c w
      = if st.scene.spendAttempt.guard.attempts = 0 then
          (((st.withScene Scene.spendAttempt).reportRefused w.target).withScene Scene.closeGuard).returnToOrigin c w
        else (false, (st.withScene Scene.spendAttempt).reportRefused w.target) := rfl

theorem Station.sound_reportRefused (target : Nat) (st : Station) : st.Sound (st.reportRefused target) := by
  unfold Station.reportRefused
  split
  · exact st.sound_enqueue _
  · exact st.sound_refl

theorem Station.reportRefused_scene (target : Nat) (st : Station) : (st.reportRefused target).scene = st.scene := by
  unfold Station.reportRefused
  split <;> rfl

theorem Station.sound_refuseCode (c : Cause) (w : Wait) (st : Station) : st.Sound (st.refuseCode c w).2 := by
  rw [Station.refuseCode_eq]
  split
  · next ha =>
    refine Station.Sound.trans ?_ (Station.sound_returnToOrigin c w _)
    have hrep := Station.sound_reportRefused w.target (st.withScene Scene.spendAttempt)
    refine ⟨?_, hrep.blocks, fun ht => ?_, hrep.number, hrep.mode⟩
    · rw [Station.withScene_scene, Station.reportRefused_scene]
      exact (Scene.Edit.lastAttempt ha).edits
    · have hspent : (st.withScene Scene.spendAttempt).timersWf = true := ht
      exact Station.timersWf_congr (st := (st.withScene Scene.spendAttempt).reportRefused w.target) rfl rfl rfl
        (hrep.timers hspent)
  · next ha =>
    exact (Station.sound_withScene (.wrongCode ha) rfl).trans (Station.sound_reportRefused _ _)

theorem Station.sound_enterGuard (c : Cause) (w : Wait) (st : Station) : st.Sound (st.enterGuard c w).2 := by
  unfold Station.enterGuard
  split
  · exact st.sound_enterSelected c
  · split
    · exact st.sound_refl
    · split
      · exact (Station.sound_withScene .guardSuccess rfl).trans (Station.sound_request c true _ _)
      · exact st.sound_refuseCode c w

theorem Station.sound_enter (c : Cause) (st : Station) : st.Sound (st.enter c).2 := by
  unfold Station.enter Station.enterPlain
  split
  · exact st.sound_enterGuard c _
  · split
    · exact st.sound_activate c _
    · exact st.sound_enterSelected c

/-! ### Keys and Expires -/

theorem Scene.closeActivation_speaker (sc : Scene) : sc.closeActivation.speaker = sc.speaker := by
  rw [sc.closeActivation_frame]

theorem Scene.move_speaker (o : Option Nat) (d : Direction) (sc : Scene) : (sc.move o d).speaker = sc.speaker := by
  rw [sc.move_frame]

theorem readKey_digit {code d : Nat} (h : readKey code = .digit d) : d ≤ 9 := by
  unfold readKey at h
  split at h
  · next hle => exact KeyAction.digit.inj h ▸ hle
  · split at h <;> exact absurd h (by simp)

theorem Station.sound_keyAction (c : Cause) (o : Option Nat) {a : KeyAction} (ha : ∀ d, a = .digit d → d ≤ 9)
    (st : Station) : st.Sound (st.keyAction c o a).2 := by
  cases a with
  | digit d =>
    exact Station.sound_withScene (f := fun sc => { sc with entry := appendDigit sc.entry d }) (.digit d (ha d rfl)) rfl
  | move d => exact Station.sound_withScene (f := fun sc => sc.move o d) (.move o d) (Scene.move_speaker _ _ _)
  | enter => exact st.sound_enter c
  | clear => exact Station.sound_withScene (f := fun sc => { sc with entry := [] }) .clearEntry rfl
  | nothing => exact st.sound_refl

theorem Station.sound_restartTimeout (began : Bool) (st : Station) : st.Sound (st.restartTimeout began) := by
  unfold Station.restartTimeout
  split
  · next hsp =>
    have hsp' : st.isSpeaker = true := (Bool.and_eq_true _ _ ▸ hsp).1
    split
    · exact st.sound_refl
    · exact Station.sound_withTimers (Timers.fit_by_role (fun _ => rfl) fun h => absurd hsp' (by rw [h]; simp))
  · exact st.sound_refl

theorem Station.sound_pressKey (c : Cause) {a : KeyAction} (ha : ∀ d, a = .digit d → d ≤ 9) (st : Station) :
    st.Sound (st.pressKey c a) := by
  have hkeyed : st.Sound (st.withScene (fun sc => sc.raiseActivity.closeActivation)) :=
    (Station.sound_withScene (f := Scene.raiseActivity) .raiseActivity rfl).trans
      (Station.sound_withScene (st := st.withScene Scene.raiseActivity) .closeActivation (Scene.closeActivation_speaker _))
  exact (hkeyed.trans (Station.sound_keyAction c _ ha _)).trans (Station.sound_restartTimeout _ _)

theorem Station.sound_takeTimeout (c : Cause) (st : Station) : st.Sound (st.takeTimeout c) := by
  unfold Station.takeTimeout Station.timeoutAction
  split
  · exact st.sound_refl
  · split
    · exact st.sound_refl
    · exact st.sound_request c false _
    · exact st.sound_enterSelected c

/-! ### Switches, Readys and the Claim -/

theorem Station.sound_queuePageSwitch (isPartial : Bool) (p : Nat) (st : Station) :
    st.Sound (st.queuePageSwitch isPartial p) := by
  have hmarked : st.Sound ((st.enqueue (.switch (st.pageSwitchBody isPartial p))).withTimers
      (fun t => { t with pageMark := true, pagePrepare := none })) :=
    (st.sound_enqueue _).trans (Station.sound_withTimers
      (Timers.fit_stop rfl (.inl rfl) (.inl rfl) (.inl rfl) (.inr rfl) (.inl rfl)))
  unfold Station.queuePageSwitch
  dsimp only
  split
  · exact hmarked.trans (Station.sound_enqueue _ _)
  · exact hmarked

theorem Station.sound_queueSlideSwitch (isPartial : Bool) (i : Nat) (st : Station) :
    st.Sound (st.queueSlideSwitch isPartial i) := by
  have hmarked : st.Sound ((st.enqueue (.switch (st.slideSwitchBody isPartial i))).withTimers
      (fun t => { t with slideMark := true, slidePrepare := none })) :=
    (st.sound_enqueue _).trans (Station.sound_withTimers
      (Timers.fit_stop rfl (.inl rfl) (.inl rfl) (.inl rfl) (.inl rfl) (.inr rfl)))
  unfold Station.queueSlideSwitch
  dsimp only
  split
  · exact hmarked.trans (Station.sound_enqueue _ _)
  · exact hmarked

theorem Scene.switchPage_speaker (p : Nat) (sc : Scene) : (sc.switchPage p).speaker = sc.speaker := by
  obtain ⟨words, live, -, heq⟩ := sc.switchPage_frame p
  rw [heq]

theorem Station.sound_switchPage {p : Nat} {st : Station} (target : Long) (h : st.scene.pendingPage = some p) :
    st.Sound (st.switchPage p target) := by
  have hblocks : st.Sound (st.withBlocks
      (fun b => (b.handPage p st.scene.pageChange target st.scene.live).shiftPageRoles)) :=
    Station.sound_withBlocks ((Blocks.preserves_handPage _ _ _ _ _).trans (Blocks.preserves_shiftPageRoles _))
  have hscene := hblocks.trans (Station.sound_withScene (f := fun _ => st.scene.switchPage p) (.showPage p h)
    (Scene.switchPage_speaker _ _))
  have hspeaks : ∀ b, ({ st with scene := st.scene.switchPage p, blocks := b } : Station).isSpeaker = st.isSpeaker :=
    fun _ => Station.isSpeaker_congr (Scene.switchPage_speaker _ _) rfl
  refine hscene.trans (Station.sound_withTimers fun ht => ?_)
  have ht' := (congrArg (fun sp => st.timers.fit sp) (hspeaks _)).symm.trans ht
  exact (congrArg (fun sp => (st.timers.pageSwitched st.isSpeaker (st.scene.switchPage p)).fit sp) (hspeaks _)).trans
    (Timers.fit_pageSwitched _ ht')

theorem Station.sound_closePage (p : Nat) (st : Station) : st.Sound (st.closePage p) := by
  unfold Station.closePage
  split
  · exact st.sound_queuePageSwitch _ _
  · exact st.sound_refl

theorem Station.sound_takePageReady (src p : Nat) (st : Station) : st.Sound (st.takePageReady src p) := by
  unfold Station.takePageReady
  split
  · exact st.sound_refl
  · exact (Station.sound_withScene (f := fun sc => { sc with pageReady := Stations.insert src sc.pageReady })
      (.pageReady _) rfl).trans (Station.sound_closePage _ _)

theorem Station.sound_claimPage (st : Station) : st.Sound st.claimPage := by
  unfold Station.claimPage
  split
  · exact st.sound_refl
  · exact st.sound_queuePageSwitch _ _

theorem Station.sound_claimSlide (st : Station) : st.Sound st.claimSlide := by
  unfold Station.claimSlide
  split
  · exact st.sound_refl
  · split
    · exact st.sound_refl
    · exact st.sound_queueSlideSwitch _ _

/-- A Claim names its source the speaker; the timers of either role are then set anew (R65, R66). -/
theorem Station.sound_claim (src : Nat) (st : Station) : st.Sound (st.claim src) := by
  have hedit : st.scene.Edits { st.scene with speaker := some src } := (Scene.Edit.speaker (some src)).edits
  have hlink : st.blocks.Preserves (st.blocks.withLink Link.dropClaims) := Blocks.preserves_withLink Link.wf_dropClaims
  unfold Station.claim
  dsimp only
  split
  · next hsrc =>
    refine Station.Sound.trans ?_ ((Station.sound_claimPage _).trans (Station.sound_claimSlide _))
    refine ⟨hedit, hlink, fun _ => ?_, id, id⟩
    have hsp : ∀ ti, ({ st with scene := { st.scene with speaker := some src }, timers := ti
                                blocks := st.blocks.withLink Link.dropClaims } : Station).isSpeaker = true :=
      fun _ => decide_eq_true (congrArg some hsrc)
    exact Station.timersWf_of (hsp _) (Timers.fit_true rfl)
  · next hsrc =>
    refine ⟨hedit, hlink, fun _ => ?_, id, id⟩
    have hsp : ∀ ti, ({ st with scene := { st.scene with speaker := some src }, timers := ti
                                blocks := st.blocks.withLink Link.dropClaims } : Station).isSpeaker = false :=
      fun _ => decide_eq_false fun h => hsrc (Option.some.inj h)
    exact Station.timersWf_of (hsp _) (Timers.fit_false rfl rfl rfl rfl rfl)

/-! ### The slide show -/

theorem Scene.beginSlide_speaker (i : Nat) (e : Slide) (sc : Scene) : (sc.beginSlide i e).speaker = sc.speaker := by
  obtain ⟨words, live, v, held, cues, heq, -⟩ := sc.beginSlide_frame i e
  rw [heq]

theorem Station.sound_hitTagged (cues : List Cue) (tag : Option Nat) (i : Nat) (st : Station) :
    st.Sound (st.hitTagged cues tag i) := by
  unfold Station.hitTagged
  split
  · exact st.sound_refl
  · split
    · exact st.sound_enqueueAll _
    · exact st.sound_refl

/-- The station's part of a slide change but for the replica's edit. -/
theorem Station.sound_beginSlide_of {st u : Station} {i : Nat} {e : Slide} (hu : u.scene.slides[i]? = some e)
    (hedit : st.scene.Edits (u.scene.beginSlide i e)) (hsp : u.scene.speaker = st.scene.speaker)
    (hb : st.blocks.Preserves u.blocks) (hti : u.timers = st.timers) (hn : u.number = st.number) (hm : u.mode = st.mode) :
    st.Sound (u.beginSlide i) := by
  have hspeaks : ∀ (ti : Timers) (b : Blocks),
      ({ u with scene := u.scene.beginSlide i e, timers := ti, blocks := b } : Station).isSpeaker = st.isSpeaker :=
    fun _ _ => Station.isSpeaker_congr ((Scene.beginSlide_speaker i e u.scene).trans hsp) hn
  have huspeaks : u.isSpeaker = st.isSpeaker := Station.isSpeaker_congr hsp hn
  unfold Station.beginSlide
  rw [hu]
  refine Station.Sound.trans ?_ (Station.sound_hitTagged _ _ _ _)
  refine ⟨hedit, hb.trans (Blocks.preserves_beginSlide _ _ _ _ _), fun ht => ?_, Station.numberWf_congr hn hm,
    fun h => hm.trans h⟩
  · refine Station.timersWf_of ((hspeaks _ _).trans huspeaks.symm) (Timers.fit_beginSlide _ _ ?_)
    rw [Station.timersWf_eq, ← huspeaks, ← hti] at ht
    exact ht

theorem Station.sound_beginSlide {i : Nat} {st : Station} (hv : st.scene.show_ ≠ .stopped) : st.Sound (st.beginSlide i) := by
  cases he : st.scene.slides[i]? with
  | none =>
    unfold Station.beginSlide
    rw [he]
    exact st.sound_refl
  | some e =>
    exact Station.sound_beginSlide_of he (Scene.Edit.beginSlide i e he hv).edits rfl st.blocks.preserves_refl rfl rfl rfl

theorem Station.sound_releaseHold (st : Station) : st.Sound st.releaseHold := by
  have hrel : st.Sound (st.withScene (fun sc => { sc with held := false })) := Station.sound_withScene .release rfl
  unfold Station.releaseHold
  dsimp only
  split
  · exact hrel
  · split
    · exact hrel.trans (Station.sound_queueSlideSwitch _ _ _)
    · next hsp =>
      refine hrel.trans (Station.sound_withTimers (Timers.fit_by_role (fun h => absurd h hsp) fun _ => ?_))
      exact ⟨rfl, rfl, rfl, rfl, rfl⟩

theorem Station.sound_pause {st : Station} {f : Timers → Timers}
    (hf : ∀ t : Timers, (f t).absence = t.absence) :
    st.Sound (if st.isSpeaker then (st.withScene (fun sc => { sc with show_ := .paused })).withTimers f
      else st.withScene (fun sc => { sc with show_ := .paused })) := by
  have hpaused : st.Sound (st.withScene (fun sc => { sc with show_ := .paused })) :=
    Station.sound_withScene (.playShow .paused st.scene.loop Show.noConfusion) rfl
  split
  · next hsp =>
    exact hpaused.trans (Station.sound_withTimers (Timers.fit_by_role (fun _ => hf _) fun h =>
      absurd (show st.isSpeaker = false from h) (by rw [hsp]; simp)))
  · exact hpaused

theorem Station.sound_pauseShow (st : Station) : st.Sound st.pauseShow := Station.sound_pause fun _ => rfl

theorem Station.timersWf_cancelSlide {u : Station} (h : u.timersWf = true) : u.cancelSlide.timersWf = true :=
  Station.timersWf_of (speaker := u.isSpeaker) rfl (Timers.fit_cancelSlide _ h)

theorem Station.sound_clearSlides (st : Station) : st.Sound st.clearSlides := by
  refine ⟨Scene.Edit.clear.edits, (Blocks.preserves_withStore (Store.preserves_of_same id rfl rfl rfl rfl)).trans
    (Blocks.preserves_cancelSlide _), fun ht => ?_, id, id⟩
  exact Station.timersWf_cancelSlide (Station.timersWf_congr (st := st) rfl rfl rfl ht)

/-- The entry taken off the list and out of the placements, before what R81 then asks. -/
def Station.removed (i : Nat) (e : Slide) (st : Station) : Station :=
  (st.withScene (Scene.removeSlide i)).withBlocks (fun b => b.withStore (Store.withdrawSlide e.content))

theorem Station.removeSlide_eq (i : Nat) (e : Slide) (st : Station) :
    st.removeSlide i e
      = if (st.scene.removeSlide i).slides.isEmpty then
          ((st.removed i e).withScene (fun sc => { sc with current := 0 })).cancelSlide
        else match (st.scene.removeSlide i).removeRequest i st.scene.pendingIndex st.scene.current with
          | none => st.removed i e
          | some j => (st.removed i e).beginSlide j := rfl

theorem Station.preserves_removed (i : Nat) (e : Slide) (st : Station) : st.blocks.Preserves (st.removed i e).blocks :=
  Blocks.preserves_withStore (Store.preserves_of_same id rfl rfl rfl rfl)

theorem Station.cancelSlide_identity (st : Station) : st.cancelSlide.number = st.number ∧ st.cancelSlide.mode = st.mode :=
  ⟨rfl, rfl⟩

theorem Station.removed_identity (i : Nat) (e : Slide) (st : Station) :
    (st.removed i e).number = st.number ∧ (st.removed i e).mode = st.mode := ⟨rfl, rfl⟩

theorem Station.removeLast_identity (i : Nat) (e : Slide) (st : Station) :
    ((st.removed i e).withScene (fun sc => { sc with current := 0 })).cancelSlide.number = st.number
      ∧ ((st.removed i e).withScene (fun sc => { sc with current := 0 })).cancelSlide.mode = st.mode := by
  obtain ⟨hn, hm⟩ := Station.cancelSlide_identity ((st.removed i e).withScene (fun sc => { sc with current := 0 }))
  obtain ⟨kn, km⟩ := st.removed_identity i e
  exact ⟨hn.trans kn, hm.trans km⟩

/-- The Remove of the last entry leaves the replica as a Clear does (R81, R82). -/
theorem Station.sound_removeLast {i : Nat} {e : Slide} {st : Station} (h : (st.scene.removeSlide i).slides = []) :
    st.Sound ((st.removed i e).withScene (fun sc => { sc with current := 0 })).cancelSlide := by
  have hnil : st.scene.slides.eraseIdx i = [] := h
  have hscene : (({ st.scene.removeSlide i with current := 0 } : Scene).cancelSlide)
      = ({ st.scene with slides := [], current := 0 } : Scene).cancelSlide := by
    unfold Scene.removeSlide Scene.cancelSlide
    rw [hnil]
  have hedit : st.scene.Edits ({ st.scene.removeSlide i with current := 0 } : Scene).cancelSlide := by
    rw [hscene]
    exact Scene.Edit.clear.edits
  refine ⟨hedit, (st.preserves_removed i e).trans (Blocks.preserves_cancelSlide _), fun ht => ?_, fun hn => ?_,
    fun h => ?_⟩
  · refine Station.timersWf_cancelSlide ?_
    exact Station.timersWf_congr (st := st) rfl rfl rfl ht
  · exact Station.numberWf_congr (st := st) (Station.removeLast_identity i e st).1 (Station.removeLast_identity i e st).2 hn
  · exact (Station.removeLast_identity i e st).2.trans h

theorem Station.sound_removed {i : Nat} (e : Slide) {st : Station} (hi : i < st.scene.slides.length)
    (hne : (st.scene.removeSlide i).slides ≠ []) (hp : st.scene.pendingIndex ≠ some i) : st.Sound (st.removed i e) :=
  (Station.sound_withScene (.remove i hi hne hp) rfl).trans (Station.sound_withBlocks (st.preserves_removed i e))

theorem Station.sound_removeSlide {i : Nat} {e : Slide} {st : Station} (he : st.scene.slides[i]? = some e) :
    st.Sound (st.removeSlide i e) := by
  have hi := (List.getElem?_eq_some_iff.mp he).1
  rw [Station.removeSlide_eq]
  split
  · next hempty => exact Station.sound_removeLast (List.isEmpty_iff.mp hempty)
  · next hempty =>
    have hne : (st.scene.removeSlide i).slides ≠ [] := fun h => hempty (List.isEmpty_iff.mpr h)
    have hpend : st.scene.pendingIndex = some i →
        (st.scene.removeSlide i).removeRequest i st.scene.pendingIndex st.scene.current
          = some (min i ((st.scene.removeSlide i).slides.length - 1)) := fun hp => if_pos hp
    split
    · next hnone => exact Station.sound_removed e hi hne fun hp => absurd ((hpend hp).symm.trans hnone) (by simp)
    · next j hj =>
      cases hej : (st.scene.removeSlide i).slides[j]? with
      | some e' =>
        exact Station.sound_beginSlide_of (u := st.removed i e) hej (Scene.Edit.removeBegin i j e' hi hj hej).edits rfl
          (st.preserves_removed i e) rfl rfl rfl
      | none =>
        have hnop : (st.removed i e).beginSlide j = st.removed i e := by
          unfold Station.beginSlide
          rw [show (st.removed i e).scene.slides[j]? = none from hej]
        rw [hnop]
        refine Station.sound_removed e hi hne fun hp => ?_
        have hjmin := Option.some.inj ((hpend hp).symm.trans hj)
        have hpos := List.length_pos_of_ne_nil hne
        rw [List.getElem?_eq_getElem (show j < (st.scene.removeSlide i).slides.length by omega)] at hej
        exact absurd hej (by simp)

theorem Station.sound_play (loop : Bool) (st : Station) :
    st.Sound (st.withScene (fun sc => { sc with loop := loop, show_ := .playing })) :=
  Station.sound_withScene (.playShow .playing loop Show.noConfusion) rfl

/-- The elapsed count and the remaining duration belong to neither role. -/
theorem Station.sound_count {st : Station} {f : Timers → Timers}
    (h : ∀ t : Timers, f t = { t with elapsed := (f t).elapsed, remaining := (f t).remaining }) :
    st.Sound (if st.isSpeaker then st.withTimers f else st) := by
  split
  · refine Station.sound_withTimers fun ht => ?_
    rw [h]
    exact ht
  · exact st.sound_refl

theorem Station.sound_playStopped (loop : Bool) (st : Station) : st.Sound (st.playStopped loop) := by
  have hcounted := (st.sound_play loop).trans
    (Station.sound_count (f := fun t => { t with elapsed := 0, remaining := none }) fun _ => rfl)
  unfold Station.playStopped
  refine Station.Sound.trans hcounted (Station.sound_beginSlide ?_)
  split <;> exact Show.noConfusion

theorem Station.sound_playPaused (loop : Bool) (st : Station) : st.Sound (st.playPaused loop) := by
  unfold Station.playPaused
  dsimp only
  split
  · exact (st.sound_play loop).trans (Station.sound_releaseHold _)
  · split
    · next hsp =>
      have hsp' : st.isSpeaker = true := (Bool.and_eq_true _ _ ▸ hsp).1
      exact (st.sound_play loop).trans (Station.sound_withTimers (Timers.fit_by_role (fun _ => rfl) fun h =>
        absurd (show st.isSpeaker = false from h) (by rw [hsp']; simp)))
    · exact st.sound_play loop

theorem Station.sound_stepSlide {st : Station} (hv : st.scene.show_ = .paused) : st.Sound st.stepSlide := by
  unfold Station.stepSlide
  split
  · exact st.sound_releaseHold
  · split
    · exact st.sound_refl
    · exact Station.sound_beginSlide (by rw [hv]; exact Show.noConfusion)

theorem Station.sound_seekSlide {i : Nat} {st : Station} (hi : i < st.scene.slides.length) : st.Sound (st.seekSlide i) := by
  unfold Station.seekSlide
  split
  · exact Station.sound_withScene (.seek i hi) rfl
  · next hv =>
    refine Station.Sound.trans (Station.sound_count (f := fun t => { t with elapsed := 0 }) fun _ => rfl)
      (Station.sound_beginSlide ?_)
    split <;> exact hv

theorem Station.sound_switchSlide {i : Nat} {st : Station} (e : Slide) (target : Long) (h : st.scene.pendingIndex = some i) :
    st.Sound (st.switchSlide i e target) := by
  refine ((Station.sound_withScene (f := fun _ => { st.scene with
    current := i, pendingIndex := none, slideReady := [], held := false }) (.showSlide i h) rfl).trans
    (Station.sound_withBlocks ((Blocks.preserves_handSlide _ _ _ _).trans (Blocks.preserves_setRoles _ _)))).trans
    (Station.sound_withTimers fun ht => ?_)
  exact Timers.fit_slideSwitched (speaker := st.isSpeaker) _ _ ht

theorem Station.sound_takeSlideReady (src i : Nat) (st : Station) : st.Sound (st.takeSlideReady src i) := by
  unfold Station.takeSlideReady Station.closeSlide
  split
  · exact st.sound_refl
  · refine (Station.sound_withScene (f := fun sc => { sc with slideReady := Stations.insert src sc.slideReady })
      (.slideReady _) rfl).trans ?_
    split
    · exact Station.sound_queueSlideSwitch _ _ _
    · exact Station.sound_refl _

theorem Station.sound_advanceShow {st : Station} (hv : st.scene.show_ = .playing) : st.Sound st.advanceShow := by
  unfold Station.advanceShow
  split
  · exact Station.sound_beginSlide (by rw [hv]; exact Show.noConfusion)
  · exact Station.sound_pause fun _ => rfl

theorem Scene.runEffects_speaker (l : List WordEffect) (sc : Scene) : (sc.runEffects l).speaker = sc.speaker := by
  rw [sc.runEffects_frame]

theorem Station.sound_hitForced (k : Nat) (c : Cue) (st : Station) : st.Sound (st.hitForced k c) := by
  have hdis : st.Sound (st.withScene (fun sc => { sc with cues := sc.cues.set k c.disarm })) :=
    Station.sound_withScene (.cues _ (List.length_set ..)) rfl
  unfold Station.hitForced
  dsimp only
  split
  · split
    · exact hdis.trans (Station.sound_pauseShow _)
    · exact hdis
  · exact hdis
  · exact hdis.trans (Station.sound_withScene (.runEffects _) (Scene.runEffects_speaker _ _))

/-! ### The Frame Strobe -/

theorem timerTick_none_of {t : Option Timer} (h : t = none) : timerTick t = none := by rw [h]; rfl

theorem Station.sound_queueExpire (kind : Nat) (t : Option Timer) (st : Station) : st.Sound (st.queueExpire kind t) := by
  unfold Station.queueExpire
  split
  · exact st.sound_refl
  · split
    · exact st.sound_enqueue _
    · exact st.sound_refl

/-- A pulse leaves an idle timer idle. -/
theorem Timers.fit_tick {speaker : Bool} {t u : Timers} (ha : u.absence = t.absence)
    (ht : u.pageTimeout = t.pageTimeout ∨ u.pageTimeout = timerTick t.pageTimeout)
    (hh : u.hold = t.hold ∨ u.hold = timerTick t.hold)
    (hd : u.slideDuration = t.slideDuration ∨ u.slideDuration = timerTick t.slideDuration)
    (hp : u.pagePrepare = t.pagePrepare ∨ u.pagePrepare = timerTick t.pagePrepare)
    (hs : u.slidePrepare = t.slidePrepare ∨ u.slidePrepare = timerTick t.slidePrepare)
    (h : t.fit speaker = true) : u.fit speaker = true := by
  rw [Timers.fit_iff] at *
  refine ⟨fun hsp => ha.trans (h.1 hsp), fun hsp => ?_⟩
  obtain ⟨h1, h2, h3, h4, h5⟩ := h.2 hsp
  exact ⟨ht.elim (·.trans h1) (·.trans (timerTick_none_of h1)), hh.elim (·.trans h2) (·.trans (timerTick_none_of h2)),
    hd.elim (·.trans h3) (·.trans (timerTick_none_of h3)), hp.elim (·.trans h4) (·.trans (timerTick_none_of h4)),
    hs.elim (·.trans h5) (·.trans (timerTick_none_of h5))⟩

theorem Station.sound_tickViewer (st : Station) : st.Sound st.tickPageTimeout.tickHold.tickDuration :=
  (((Station.sound_withTimers (Timers.fit_tick rfl (.inr rfl) (.inl rfl) (.inl rfl) (.inl rfl) (.inl rfl))).trans
    (Station.sound_queueExpire _ _ _)).trans
    ((Station.sound_withTimers (Timers.fit_tick rfl (.inl rfl) (.inr rfl) (.inl rfl) (.inl rfl) (.inl rfl))).trans
      (Station.sound_queueExpire _ _ _))).trans
    ((Station.sound_withTimers (Timers.fit_tick rfl (.inl rfl) (.inl rfl) (.inr rfl) (.inl rfl) (.inl rfl))).trans
      (Station.sound_queueExpire _ _ _))

theorem Station.sound_tickPagePrepare (st : Station) : st.Sound st.tickPagePrepare := by
  have htick : st.Sound (st.withTimers (fun t => { t with pagePrepare := timerTick t.pagePrepare })) :=
    Station.sound_withTimers (Timers.fit_tick rfl (.inl rfl) (.inl rfl) (.inl rfl) (.inr rfl) (.inl rfl))
  unfold Station.tickPagePrepare
  dsimp only
  split
  · exact htick
  · split
    · exact htick.trans (Station.sound_queuePageSwitch _ _ _)
    · exact htick

theorem Station.sound_tickSlidePrepare (st : Station) : st.Sound st.tickSlidePrepare := by
  have htick : st.Sound (st.withTimers (fun t => { t with slidePrepare := timerTick t.slidePrepare })) :=
    Station.sound_withTimers (Timers.fit_tick rfl (.inl rfl) (.inl rfl) (.inl rfl) (.inl rfl) (.inr rfl))
  unfold Station.tickSlidePrepare
  dsimp only
  split
  · exact htick
  · split
    · exact htick.trans (Station.sound_queueSlideSwitch _ _ _)
    · exact htick

theorem Station.sound_tickElapsed (st : Station) : st.Sound st.tickElapsed := by
  unfold Station.tickElapsed
  split
  · exact (Station.sound_withTimers id).trans (Station.sound_enqueueAll _ _)
  · exact st.sound_refl

theorem Station.sound_tickAbsence (st : Station) : st.Sound st.tickAbsence := by
  unfold Station.tickAbsence
  split
  · exact st.sound_refl
  · next n hn =>
    have htick : st.Sound (st.withTimers (fun t => { t with absence := some (n + 1) })) := by
      refine Station.sound_withTimers fun h => ?_
      rw [Timers.fit_iff] at *
      refine ⟨fun hsp => ?_, h.2⟩
      rw [h.1 hsp] at hn
      exact absurd hn (by simp)
    dsimp only
    split
    · exact htick.trans (Station.sound_enqueue _ _)
    · exact htick

theorem Station.sound_tick (st : Station) : st.Sound st.tick :=
  st.sound_tickViewer.trans ((Station.sound_tickPagePrepare _).trans ((Station.sound_tickSlidePrepare _).trans
    ((Station.sound_tickElapsed _).trans (Station.sound_tickAbsence _))))

theorem Station.sound_strobe (st : Station) : st.Sound st.strobe := by
  unfold Station.strobe
  split
  · exact st.sound_refl
  · split
    · exact st.sound_refl
    · exact ((Station.sound_withBlocks (Blocks.preserves_strobe _ _ _ _)).trans (Station.sound_tick _)).trans
        (Station.sound_settle _ _)
    · exact Station.sound_withBlocks (Blocks.preserves_withBc _ _)

theorem Station.sound_strobeWhen (due : Bool) (st : Station) : st.Sound (st.strobeWhen due) := by
  unfold Station.strobeWhen
  split
  · exact st.sound_strobe
  · exact st.sound_refl

/-! ### The wire and the reset line -/

/-- A number outside Strap Fault stays good while the station state stays outside Strap Fault (R173). -/
theorem Station.numberWf_of_mode {st u : Station} (hn : u.number = st.number) (hm : st.mode ≠ .strapFault)
    (h : st.numberWf = true) : u.numberWf = true := by
  unfold Station.numberWf at *
  rw [hn, decide_eq_false hm] at *
  rw [Bool.false_or] at h
  rw [h, Bool.or_true]

theorem Station.sound_calibrate (raw : Nat) (st : Station) : st.Sound (st.calibrate raw) := by
  have hlink : st.blocks.Preserves (st.blocks.withLink (fun l => { l with
      unit256 := raw, rx := .waiting, errorMark := false, rxBits := [], sending := .none })) :=
    Blocks.preserves_withLink id
  unfold Station.calibrate
  dsimp only
  split
  · next hm =>
    refine ⟨.refl, hlink.trans (Blocks.preserves_enqueue _ _), id, Station.numberWf_of_mode rfl ?_, fun h => ?_⟩
    · rw [hm]
      exact Mode.noConfusion
    · exact Mode.noConfusion (hm.symm.trans h)
  · exact Station.sound_withBlocks hlink

theorem Station.sound_takeWire (low : Nat) (st : Station) : st.Sound (st.takeWire low) := by
  unfold Station.takeWire
  split
  · exact st.sound_refl
  · split
    · exact st.sound_calibrate low
    · split
      · exact Station.sound_withBlocks (Blocks.preserves_withLink id)
      · exact Station.sound_withBlocks (Blocks.preserves_receive _ _)

theorem Station.sound_takeLow (raw : Nat) (st : Station) : st.Sound (st.takeLow raw) := st.sound_takeWire _

theorem Station.sound_takeLows (lows : List Nat) (st : Station) : st.Sound (st.takeLows lows) := by
  unfold Station.takeLows
  induction lows generalizing st with
  | nil => exact st.sound_refl
  | cons low lows ih => exact (st.sound_takeLow low).trans (ih _)

/-- A change of the reception alone. -/
theorem Station.sound_listen {c : Prop} [Decidable c] {f : Link → Link} {st : Station}
    (h : ∀ l : Link, (f l).wf = l.wf) : st.Sound (if c then st.withBlocks (fun b => b.withLink f) else st) := by
  split
  · exact Station.sound_withBlocks (Blocks.preserves_withLink fun hw => (h _).trans hw)
  · exact st.sound_refl

theorem Station.sound_contend (lows : List Nat) (st : Station) : st.Sound (st.contend lows) := by
  unfold Station.contend
  split
  · exact st.sound_refl
  · split
    · exact st.sound_refl
    · exact (st.sound_takeLows _).trans (Station.sound_listen fun _ => rfl)

theorem Station.sound_reachIdle (st : Station) : st.Sound st.reachIdle := by
  unfold Station.reachIdle
  split
  · exact st.sound_refl
  · exact Station.sound_withBlocks (Blocks.preserves_withLink id)

theorem Station.sound_inEndWindow (st : Station) : st.Sound st.inEndWindow :=
  Station.sound_listen (f := fun l => { l with rx := .endWindow }) fun _ => rfl

theorem Station.sound_voidMessage (low : Nat) (st : Station) : st.Sound (st.voidMessage low) := by
  unfold Station.voidMessage
  split
  · exact st.sound_refl
  · exact (st.sound_inEndWindow.trans (Station.sound_takeLow low _)).trans (Station.sound_settle _ _)

theorem Station.sound_holdReset (st : Station) : st.Sound st.holdReset :=
  ⟨.refl, (Blocks.preserves_withLink (f := fun l => { l with sending := .none }) id).trans
    (Blocks.preserves_withBc (fun c => { c with port := .blank }) _), id, id, id⟩

theorem Station.keeps_atRelease (straps : Nat) (st : Station) : st.Keeps (Station.atRelease straps) := by
  refine ⟨(Scene.Edit.restart [] none).edits, Blocks.preserves_of_reset (fun _ => rfl) rfl rfl,
    fun _ => Timers.fit_reset _, fun _ => ?_⟩
  unfold Station.numberWf Station.atRelease
  dsimp only
  split
  · next h => simp [h.1, h.2]
  · rfl

/-! ### The messages -/

theorem Station.sound_close {src : Nat} {own : Option Message} {rule : Station → Station} {st : Station}
    (h : ∀ u : Station, u.mode.frames = true → u.Sound (rule u)) : st.Sound (st.close src own rule) := by
  unfold Station.close
  split
  · next hf =>
    have hheard : st.Sound (st.withBlocks (fun b => b.withLink (Link.closeMessage (decide (src = st.number)) own))) :=
      Station.sound_withBlocks (Blocks.preserves_withLink (Link.wf_closeMessage _ _))
    have hmode : st.mode.frames = true := by
      unfold Station.framing at hf
      simp only [Bool.and_eq_true] at hf
      exact hf.1.2
    refine Station.Sound.trans ?_ (Station.sound_settle _ _)
    split
    · exact hheard.trans (h _ hmode)
    · exact hheard
  · exact st.sound_refl

theorem Station.sound_whenRunning {f : Station → Station} (h : ∀ u : Station, u.Sound (f u)) (u : Station) :
    u.Sound (u.whenRunning f) := by
  unfold Station.whenRunning
  split
  · exact h u
  · exact u.sound_refl

/-- A scene message: its rule is applied in Running alone. -/
theorem Station.sound_closeRunning {src : Nat} {own : Option Message} {rule : Station → Station} {st : Station}
    (h : ∀ u : Station, u.Sound (rule u)) : st.Sound (st.close src own (Station.whenRunning rule)) :=
  Station.sound_close fun u _ => Station.sound_whenRunning h u

/-- A message that every station passes over. -/
theorem Station.sound_closePassing (src : Nat) (own : Option Message) (st : Station) : st.Sound (st.close src own id) :=
  Station.sound_close fun u _ => u.sound_refl

theorem Station.sound_sceneReset (st : Station) : st.Sound st.sceneReset := by
  unfold Station.sceneReset
  split
  · exact ⟨(Scene.Edit.restart _ _).edits, Blocks.preserves_emptied _, fun _ => Timers.fit_reset _, id, id⟩
  · exact (Station.sound_withBlocks (Blocks.preserves_withLink fun _ => Link.wf_emptied _)).trans
      (Station.sound_enqueue _ _)
  · exact Station.sound_withBlocks (Blocks.preserves_withLink fun _ => Link.wf_emptied _)
  · exact st.sound_refl

theorem Station.sound_takeLayout {l : Layout} {st : Station} (hm : st.mode = .joining) : st.Sound (st.takeLayout l) := by
  have hne : st.mode ≠ .strapFault := by rw [hm]; exact Mode.noConfusion
  unfold Station.takeLayout
  split
  · exact ⟨(Scene.Edit.restart _ _).edits, Blocks.preserves_of_reset id rfl rfl, fun _ => Timers.fit_reset _,
      Station.numberWf_of_mode rfl hne, fun _ => rfl⟩
  · exact ⟨.refl, st.blocks.preserves_refl, id, Station.numberWf_of_mode rfl hne, fun h => Mode.noConfusion (hm.symm.trans h)⟩

theorem Station.sound_applyLayout (b : LayoutBody) (st : Station) : st.Sound (st.applyLayout b) := by
  unfold Station.applyLayout
  split
  · exact Station.sound_refuse _ _ _ _ _
  · next hm =>
    split
    · exact Station.sound_takeLayout hm
    · exact st.sound_refl
  · exact st.sound_refl

theorem Station.sound_place {f : Maker → Bool} {added : List Placement} (st : Station) : st.Sound (st.place f added) :=
  Station.sound_withBlocks (Blocks.preserves_withStore (Store.preserves_of_same id rfl rfl rfl rfl))

theorem Scene.checkPage_ok {sc : Scene} {p : Nat} {r : Unit} (h : sc.checkPage p = .ok r) :
    p ≤ 63 ∧ sc.inUse p = false := by
  unfold Scene.checkPage at h
  split at h
  · exact absurd h (by simp)
  · next hp =>
    split at h
    · exact absurd h (by simp)
    · next hu => exact ⟨Nat.not_lt.mp hp, by simpa using hu⟩

/-- A definition that is taken has passed checks 1 and 2 of R6. -/
theorem Scene.checkPage_of_bind {α : Type} {sc : Scene} {p : Nat} {f : Except FaultKind α} {r : α}
    (h : (do sc.checkPage p; f) = .ok r) : sc.inUse p = false ∧ f = .ok r := by
  cases hc : sc.checkPage p with
  | error k => rw [hc] at h; exact absurd h (by intro h; cases h)
  | ok u => rw [hc] at h; exact ⟨(Scene.checkPage_ok hc).2, h⟩

theorem Station.sound_define {p : Nat} {pg : Page} {f : Maker → Bool} {added : List Placement} {st : Station}
    (h : st.scene.inUse p = false) : st.Sound ((st.withScene (fun sc => sc.setPage p pg)).place f added) :=
  (Station.sound_withScene (.setPage p pg h) rfl).trans (Station.sound_place _)

theorem Station.sound_applyDefinePage (src : Nat) (b : DefinePageBody) (st : Station) :
    st.Sound (st.applyDefinePage src b) := by
  unfold Station.applyDefinePage
  split
  · exact st.sound_refl
  · split
    · exact Station.sound_refuse _ _ _ _ _
    · next pg hpg => exact Station.sound_define (Scene.checkPage_of_bind hpg).1

theorem Station.sound_applyDefineButton (src : Nat) (b : DefineButtonBody) (st : Station) :
    st.Sound (st.applyDefineButton src b) := by
  unfold Station.applyDefineButton
  split
  · exact st.sound_refl
  · split
    · exact Station.sound_refuse _ _ _ _ _
    · next pg o hpg => exact Station.sound_define (Scene.checkPage_of_bind hpg).1

theorem Station.sound_applyDefinePicture (src : Nat) (b : DefinePictureBody) (st : Station) :
    st.Sound (st.applyDefinePicture src b) := by
  unfold Station.applyDefinePicture
  split
  · exact st.sound_refl
  · split
    · exact Station.sound_refuse _ _ _ _ _
    · next pg o hpg => exact Station.sound_define (Scene.checkPage_of_bind hpg).1

theorem Station.sound_applyDropPage (src page : Nat) (st : Station) : st.Sound (st.applyDropPage src page) := by
  unfold Station.applyDropPage
  split
  · exact st.sound_refl
  · split
    · exact Station.sound_refuse _ _ _ _ _
    · next u hu => exact Station.sound_define (Scene.checkPage_ok hu).2

theorem Station.sound_applyKey (src code : Nat) (st : Station) : st.Sound (st.applyKey src code) := by
  unfold Station.applyKey
  split
  · exact Station.sound_pressKey _ (fun _ => readKey_digit) _
  · exact st.sound_refl

theorem Station.sound_applyGo (src page : Nat) (st : Station) : st.Sound (st.applyGo src page) := by
  unfold Station.applyGo
  split
  · exact st.sound_refl
  · split
    · exact Station.sound_refuse _ _ _ _ _
    · exact Station.sound_request _ _ _ _

theorem Scene.setWord_speaker (w : Nat) (v : Half) (sc : Scene) : (sc.setWord w v).speaker = sc.speaker := by
  rw [sc.setWord_frame]

theorem Station.sound_applyWordSet (src w : Nat) (v : Half) (st : Station) : st.Sound (st.applyWordSet src w v) := by
  unfold Station.applyWordSet
  split
  · exact st.sound_refl
  · split
    · exact Station.sound_refuse _ _ _ _ _
    · exact Station.sound_withScene (.setWord w v) (Scene.setWord_speaker _ _ _)

theorem Station.sound_applyGuardSet (src : Nat) (code : Half) (allowance prompt : Nat) (st : Station) :
    st.Sound (st.applyGuardSet src code allowance prompt) := by
  unfold Station.applyGuardSet
  split
  · exact st.sound_refl
  · split
    · exact Station.sound_refuse _ _ _ _ _
    · split
      · exact Station.sound_refuse _ _ _ _ _
      · next digits hd =>
        split
        · exact Station.sound_refuse _ _ _ _ _
        · next hr => exact Station.sound_withScene (.guardSet code digits allowance prompt hd (by omega) (by omega)) rfl

theorem Station.sound_applyGuardFreeze (src : Nat) (st : Station) : st.Sound (st.applyGuardFreeze src) := by
  unfold Station.applyGuardFreeze
  split
  · exact Station.sound_withScene .freeze rfl
  · exact st.sound_refl

theorem Station.sound_applySlideAppend (src : Nat) (b : AppendBody) (st : Station) :
    st.Sound (st.applySlideAppend src b) := by
  unfold Station.applySlideAppend
  split
  · exact st.sound_refl
  · split
    · exact Station.sound_refuse _ _ _ _ _
    · next hroom =>
      split
      · exact Station.sound_refuse _ _ _ _ _
      · next e _ =>
        exact (Station.sound_withScene (.append e (Nat.not_le.mp hroom)) rfl).trans
          (Station.sound_withBlocks (Blocks.preserves_withStore (Store.preserves_of_same id rfl rfl rfl rfl)))

theorem Station.sound_applySlideRemove (src index : Nat) (st : Station) : st.Sound (st.applySlideRemove src index) := by
  unfold Station.applySlideRemove
  split
  · exact st.sound_refl
  · split
    · exact Station.sound_refuse _ _ _ _ _
    · split
      · exact Station.sound_refuse _ _ _ _ _
      · next e he => exact Station.sound_removeSlide he

theorem Station.sound_applySlideClear (src : Nat) (st : Station) : st.Sound (st.applySlideClear src) := by
  unfold Station.applySlideClear
  split
  · exact st.sound_refl
  · split
    · exact Station.sound_refuse _ _ _ _ _
    · exact st.sound_clearSlides

theorem Station.sound_applySlidePlay (src loop : Nat) (st : Station) : st.Sound (st.applySlidePlay src loop) := by
  unfold Station.applySlidePlay
  split
  · exact st.sound_refl
  · split
    · exact st.sound_refl
    · split
      · split
        · exact st.sound_refl
        · exact st.sound_playStopped _
      · exact Station.sound_refuse _ _ _ _ _
      · exact st.sound_playPaused _

theorem Station.sound_applySlidePause (src : Nat) (st : Station) : st.Sound (st.applySlidePause src) := by
  unfold Station.applySlidePause
  split
  · exact st.sound_refl
  · split
    · exact st.sound_pauseShow
    · exact Station.sound_refuse _ _ _ _ _

theorem Station.sound_applySlideStep (src : Nat) (st : Station) : st.Sound (st.applySlideStep src) := by
  unfold Station.applySlideStep
  split
  · exact st.sound_refl
  · split
    · next hv => exact Station.sound_stepSlide hv
    · exact Station.sound_refuse _ _ _ _ _

theorem Station.sound_applySlideSeek (src index : Nat) (st : Station) : st.Sound (st.applySlideSeek src index) := by
  unfold Station.applySlideSeek
  split
  · exact st.sound_refl
  · split
    · exact Station.sound_refuse _ _ _ _ _
    · next hi => exact Station.sound_seekSlide (Nat.not_le.mp hi)

theorem Station.sound_applyCueSet (src : Nat) (b : CueSetBody) (st : Station) : st.Sound (st.applyCueSet src b) := by
  unfold Station.applyCueSet
  split
  · exact st.sound_refl
  · split
    · exact Station.sound_refuse _ _ _ _ _
    · split
      · exact Station.sound_refuse _ _ _ _ _
      · exact Station.sound_withScene (.cues _ (List.length_set ..)) rfl

theorem Station.sound_applyCueClear (src index : Nat) (st : Station) : st.Sound (st.applyCueClear src index) := by
  unfold Station.applyCueClear
  split
  · exact st.sound_refl
  · split
    · exact Station.sound_refuse _ _ _ _ _
    · exact Station.sound_withScene (.cues _ (List.length_modify ..)) rfl

theorem Station.sound_applyCueHit (src : Nat) (b : CueHitBody) (st : Station) : st.Sound (st.applyCueHit src b) := by
  unfold Station.applyCueHit
  split
  · split
    · exact st.sound_refl
    · exact st.sound_hitForced _ _
  · exact st.sound_refl

theorem Station.sound_applySwitch (src : Nat) (b : SwitchBody) (st : Station) : st.Sound (st.applySwitch src b) := by
  unfold Station.applySwitch Station.applyPageSwitch Station.applySlideSwitch
  split
  · exact st.sound_refl
  · split
    · next h =>
      unfold Scene.takesPageSwitch at h
      simp only [Bool.and_eq_true, decide_eq_true_eq] at h
      exact Station.sound_switchPage _ h.1.2
    · exact st.sound_refl
  · split
    · exact st.sound_refl
    · next i hi =>
      split
      · exact st.sound_refl
      · split
        · exact Station.sound_switchSlide _ _ hi
        · exact st.sound_refl

theorem Station.sound_applyExpire (src : Nat) (b : ExpireBody) (st : Station) : st.Sound (st.applyExpire src b) := by
  unfold Station.applyExpire
  split
  · exact st.sound_refl
  · split
    · split
      · exact st.sound_takeTimeout _
      · exact st.sound_refl
    · split
      · exact Station.sound_withScene .closeActivation (Scene.closeActivation_speaker _)
      · exact st.sound_refl
    · split
      · next h => exact Station.sound_advanceShow h.2.1
      · exact st.sound_refl
    · exact st.sound_refl

theorem Station.sound_applyReady (src : Nat) (b : ReadyBody) (st : Station) : st.Sound (st.applyReady src b) := by
  unfold Station.applyReady Station.applyPageReady Station.applySlideReady
  split
  · exact st.sound_refl
  · split
    · exact st.sound_takePageReady _ _
    · exact st.sound_refl
  · split
    · exact st.sound_refl
    · split
      · exact st.sound_takeSlideReady _ _
      · exact st.sound_refl

theorem Station.sound_applyWant (src : Nat) (b : WantBody) (st : Station) : st.Sound (st.applyWant src b) := by
  have hstore : ∀ {f : Store → Store}, st.blocks.store.Preserves (f st.blocks.store) →
      st.Sound (st.withBlocks (fun c => c.withStore f)) := fun h => Station.sound_withBlocks (Blocks.preserves_withStore h)
  unfold Station.applyWant
  split
  · exact st.sound_refl
  · split
    · exact hstore (Store.preserves_of_same id rfl rfl rfl rfl)
    · exact hstore (Store.preserves_withWants _ _)

theorem Station.sound_applyCheck (src station first count : Nat) (st : Station) :
    st.Sound (st.applyCheck src station first count) := by
  unfold Station.applyCheck
  split
  · exact st.sound_refl
  · split
    · exact st.sound_enqueue _
    · split
      · exact st.sound_enqueue _
      · exact Station.sound_withBlocks (Blocks.preserves_sameJobs rfl)

theorem Station.sound_applyAsk (src station topic argument : Nat) (st : Station) :
    st.Sound (st.applyAsk src station topic argument) := by
  unfold Station.applyAsk Station.giveAnswer
  split
  · refine Station.Sound.trans ?_ (Station.sound_enqueue _ _)
    split
    · exact Station.sound_withBlocks (Blocks.preserves_withLink Link.wf_takeOverflow)
    · exact st.sound_refl
  · exact st.sound_refl

theorem Station.sound_blocksEvent {f : Blocks → Blocks} {st : Station} (h : st.blocks.Preserves (f st.blocks)) :
    st.Sound (st.blocksEvent f) := by
  unfold Station.blocksEvent
  split
  · exact (Station.sound_withBlocks h).trans (Station.sound_settle _ _)
  · exact st.sound_refl

/-- Every command but the release of the reset line, by the way it comes in. -/
theorem exec_sound {c : Instr} {s t : State} (h : exec c s = .next t) (hc : ∀ straps, c ≠ .resetRelease straps) :
    s.station.Sound t.station := by
  cases c with
  | resetRelease straps => exact absurd rfl (hc straps)
  | frameStrobe => cases h; exact Station.sound_strobe _
  | compositionComplete =>
    cases h
    show s.station.Sound s.station.composeComplete
    unfold Station.composeComplete
    split
    · exact Station.sound_withBlocks (Blocks.preserves_withBc _ _)
    · exact Station.sound_refl _
  | pageSwitchTarget => cases h; exact Station.sound_strobeWhen _ _
  | slideSwitchVisible => cases h; exact Station.sound_strobeWhen _ _
  | transitionEnd => cases h; exact Station.sound_strobeWhen _ _
  | calibrationPulse low => cases h; exact Station.sound_takeLow low _
  | contend lows => cases h; exact Station.sound_contend lows _
  | endWindow lows =>
    cases h
    exact (Station.sound_takeLows lows _).trans (Station.sound_listen fun _ => rfl)
  | messageVoided low => cases h; exact Station.sound_voidMessage low _
  | sceneReset src =>
    cases h
    refine Station.sound_close (rule := fun st => if src = 0 then st.sceneReset else st) fun u _ => ?_
    split
    · exact u.sound_sceneReset
    · exact u.sound_refl
  | layout src body =>
    cases h
    refine Station.sound_close (rule := fun st => if src = 0 then st.applyLayout body else st) fun u _ => ?_
    split
    · exact u.sound_applyLayout body
    · exact u.sound_refl
  | present src station units => cases h; exact Station.sound_closePassing _ _ _
  | claimSpeaker src =>
    cases h
    refine Station.sound_closeRunning fun u => ?_
    split
    · exact u.sound_claim src
    · exact u.sound_refl
  | switch src body => cases h; exact Station.sound_closeRunning (Station.sound_applySwitch src body)
  | expire src body => cases h; exact Station.sound_closeRunning (Station.sound_applyExpire src body)
  | ready src body => cases h; exact Station.sound_closeRunning (Station.sound_applyReady src body)
  | key src code => cases h; exact Station.sound_closeRunning (Station.sound_applyKey src code)
  | go src page => cases h; exact Station.sound_closeRunning (Station.sound_applyGo src page)
  | wordSet src w v => cases h; exact Station.sound_closeRunning (Station.sound_applyWordSet src w v)
  | guardSet src code allowance prompt =>
    cases h; exact Station.sound_closeRunning (Station.sound_applyGuardSet src code allowance prompt)
  | guardFreeze src => cases h; exact Station.sound_closeRunning (Station.sound_applyGuardFreeze src)
  | slideAppend src body => cases h; exact Station.sound_closeRunning (Station.sound_applySlideAppend src body)
  | slideRemove src index => cases h; exact Station.sound_closeRunning (Station.sound_applySlideRemove src index)
  | slideClear src => cases h; exact Station.sound_closeRunning (Station.sound_applySlideClear src)
  | slidePlay src loop => cases h; exact Station.sound_closeRunning (Station.sound_applySlidePlay src loop)
  | slidePause src => cases h; exact Station.sound_closeRunning (Station.sound_applySlidePause src)
  | slideStep src => cases h; exact Station.sound_closeRunning (Station.sound_applySlideStep src)
  | slideSeek src index => cases h; exact Station.sound_closeRunning (Station.sound_applySlideSeek src index)
  | cueSet src body => cases h; exact Station.sound_closeRunning (Station.sound_applyCueSet src body)
  | cueClear src index => cases h; exact Station.sound_closeRunning (Station.sound_applyCueClear src index)
  | cueHit src body => cases h; exact Station.sound_closeRunning (Station.sound_applyCueHit src body)
  | definePage src body => cases h; exact Station.sound_closeRunning (Station.sound_applyDefinePage src body)
  | defineButton src body => cases h; exact Station.sound_closeRunning (Station.sound_applyDefineButton src body)
  | definePicture src body => cases h; exact Station.sound_closeRunning (Station.sound_applyDefinePicture src body)
  | dropPage src page => cases h; exact Station.sound_closeRunning (Station.sound_applyDropPage src page)
  | want src body => cases h; exact Station.sound_closeRunning (Station.sound_applyWant src body)
  | check src station first count =>
    cases h; exact Station.sound_closeRunning (Station.sound_applyCheck src station first count)
  | ask src station topic argument =>
    cases h
    exact Station.sound_close fun u _ => u.sound_applyAsk src station topic argument
  | report src body => cases h; exact Station.sound_closePassing _ _ _
  | fault src body => cases h; exact Station.sound_closePassing _ _ _
  | answer src body => cases h; exact Station.sound_closePassing _ _ _
  | checkDone src body => cases h; exact Station.sound_closePassing _ _ _
  | segmentArrival bytes => cases h; exact Station.sound_blocksEvent (Blocks.preserves_arrive _ _ _ _)
  | pagePrepareComplete decoded => cases h; exact Station.sound_blocksEvent (Blocks.preserves_pageComplete _ _ _)
  | batchStripComplete decoded => cases h; exact Station.sound_blocksEvent (Blocks.preserves_batchComplete _ _ _ _)
  | checkStripComplete intact => cases h; exact Station.sound_blocksEvent (Blocks.preserves_checkComplete _ _ _)
  | pageTimeoutExpiry => cases h; exact Station.sound_strobeWhen _ _
  | holdExpiry => cases h; exact Station.sound_strobeWhen _ _
  | slideDurationExpiry => cases h; exact Station.sound_strobeWhen _ _
  | prepareLimitExpiry stream => cases h; exact Station.sound_strobeWhen _ _
  | absenceThreshold => cases h; exact Station.sound_strobeWhen _ _
  | forcedCueWatch => cases h; exact Station.sound_strobeWhen _ _
  | resetAsserted => cases h; exact Station.sound_holdReset _
  | idleReached => cases h; exact Station.sound_reachIdle _
  | strayLow low => cases h; exact Station.sound_takeLow low _
  | unknownKindClose kind src =>
    cases h
    dsimp only
    split
    · exact Station.sound_refl _
    · exact Station.sound_closePassing _ _ _

theorem exec_keeps {c : Instr} {s t : State} (h : exec c s = .next t) : s.station.Keeps t.station := by
  by_cases hc : ∃ straps, c = .resetRelease straps
  · obtain ⟨straps, rfl⟩ := hc
    cases h
    exact Station.keeps_atRelease straps _
  · exact (exec_sound h (not_exists.mp hc)).keeps

theorem step_keeps {s t : State} (h : step s = .next t) : s.station.Keeps t.station := by
  cases hp : s.pending with
  | nil =>
    rw [step_nil s hp] at h
    cases h
    exact (Station.sound_refl _).keeps
  | cons c rest =>
    rw [step_cons s c rest hp] at h
    exact exec_keeps (s := { s with pending := rest }) h

/-! ### The invariants -/

/-- Settles O54: the queue's bounds and the timers' roles pass through each part of a command. -/
theorem stepsKeepTheLinkAndRoles : Obligations.StepsKeepTheLinkAndRoles :=
  ⟨fun _ _ hw h => (step_keeps h).blocks.link hw, fun _ _ ht hn h => ⟨(step_keeps h).timers ht, (step_keeps h).number hn⟩⟩

/-- Settles O55, edit by edit of the replica. -/
theorem stepsKeepTheGuardAndTables : Obligations.StepsKeepTheGuardAndTables :=
  ⟨fun _ _ hw h => (step_keeps h).scene.keep Scene.kept_guard hw, fun _ _ hw h => (step_keeps h).scene.keep Scene.kept_shape hw⟩

/-- Settles O56, edit by edit of the replica. -/
theorem stepsKeepTheSlideList : Obligations.StepsKeepTheSlideList :=
  fun _ _ hw h => (step_keeps h).scene.keep Scene.kept_slides hw

/-- Settles O57, edit by edit of the replica. -/
theorem stepsKeepTheShownPage : Obligations.StepsKeepTheShownPage :=
  fun _ _ hp hs h => (step_keeps h).scene.keep Scene.kept_view ⟨hp, hs⟩

/-- Settles O58: each operation of the store keeps the account of its units. -/
theorem stepsKeepTheStoreUnits : Obligations.StepsKeepTheStoreUnits := fun _ _ hw h => (step_keeps h).blocks.store.units hw

/-- Settles O59: each operation of the store sets the pin counts it makes, and an offer stops at 30 jobs. -/
theorem stepsKeepPinsAndJobs : Obligations.StepsKeepPinsAndJobs :=
  fun _ _ hp hj h => ⟨(step_keeps h).blocks.store.pins hp, (step_keeps h).blocks.jobs hj⟩

end Sys2Proof.Machine

/-! Every command by the way it comes in: the queue's front command, the commands a held station does not hear, and the messages
that a station passes over or does not apply. -/

namespace Sys2Proof.Machine

/-! ### Every command is an event of the station -/

/-- Each command is one event of the station: none stops the machine, and none touches the queue of commands. -/
theorem exec_next (c : Instr) (s : State) : ∃ t, exec c s = .next t ∧ t.pending = s.pending := by
  cases c <;> exact ⟨_, rfl, rfl⟩

/-- Settles O1: the step by what stands at the queue's front, the commands because each is an event of the station. -/
theorem stepRunsFrontCommand : Obligations.StepRunsFrontCommand := by
  exact ⟨⟨fun s c rest h => step_cons s c rest h, step_nil⟩, exec_next⟩

/-- An event that leaves the station as it was leaves the machine as it was. -/
theorem State.next_same {s : State} {u : Station} (h : u = s.station) :
    (.next { s with station := u } : Host.Outcome State Fault Refusal) = .next s := by
  rw [h]

/-! ### The release and the assertion of the reset line -/

/-- Settles O3: the release writes every register, and each is the manual's reset value. -/
theorem releaseTakesResetValues : Obligations.ReleaseTakesResetValues := by
  intro n s _
  refine ⟨_, rfl, rfl, rfl, rfl, rfl, rfl, rfl, fun p hp => List.eq_of_mem_replicate hp, rfl, rfl, rfl, rfl, rfl, rfl, rfl, rfl,
    rfl, rfl, rfl, rfl, rfl, rfl, rfl, rfl, rfl, rfl, rfl, fun c hc => ?_, rfl, rfl, rfl, rfl, rfl, rfl, rfl⟩
  rw [List.eq_of_mem_replicate hc]
  rfl

/-- Settles O4: the whole next state is what the rule of the held line writes. -/
theorem assertedLineSilencesOutputs : Obligations.AssertedLineSilencesOutputs := fun _ => rfl

/-- Settles O60: each invariant evaluates on the one state that the release at straps 2 leaves. -/
theorem resetIsWellFormed : Obligations.ResetIsWellFormed := by
  unfold Obligations.ResetIsWellFormed
  decide

/-! ### A held station and one in Strap Fault -/

/-- The station's reset line is asserted, or it is in Strap Fault (R159, R173). -/
abbrev Station.Deaf (st : Station) : Prop := st.lineAsserted = true ∨ st.mode = .strapFault

/-- No other station state needs the end of an event. -/
theorem Station.settle_of_not_running {st : Station} (h : st.mode ≠ .running) (before : Station) : st.settle before = st :=
  if_neg h

theorem Station.strobeWhen_of_strobe {st : Station} (h : st.strobe = st) (due : Bool) : st.strobeWhen due = st := by
  unfold Station.strobeWhen
  rw [h, ite_self]

section Deaf

variable {st : Station} (h : st.Deaf)
include h

theorem Station.frames_of_deaf : (st.mode.frames && !st.lineAsserted) = false := by
  rcases h with hl | hm
  · simp [hl]
  · simp [hm, Mode.frames]

theorem Station.framing_of_deaf : st.framing = false := by
  rcases h with hl | hm
  · simp [Station.framing, hl]
  · simp [Station.framing, hm, Mode.frames]

theorem Station.takeLow_of_deaf (low : Nat) : st.takeLow low = st := if_pos h

theorem Station.takeLows_of_deaf (lows : List Nat) : st.takeLows lows = st := by
  unfold Station.takeLows
  induction lows with
  | nil => rfl
  | cons low lows ih => rw [List.foldl_cons, Station.takeLow_of_deaf h, ih]

theorem Station.enterWindow_of_deaf : st.enterWindow = st := if_neg (by simp [Station.frames_of_deaf h])

theorem Station.inEndWindow_of_deaf : st.inEndWindow = st := if_neg (by simp [Station.frames_of_deaf h])

theorem Station.reachIdle_of_deaf : st.reachIdle = st := if_pos (h.elim .inl (fun hm => .inr (.inl hm)))

theorem Station.contend_of_deaf (lows : List Nat) : st.contend lows = st :=
  if_pos (h.elim .inl (fun hm => .inr (.inl (by simp [hm, Mode.frames]))))

theorem Station.voidMessage_of_deaf (low : Nat) : st.voidMessage low = st := by
  unfold Station.voidMessage
  rw [Station.inEndWindow_of_deaf h, Station.takeLow_of_deaf h]
  split
  · rfl
  · next hl =>
    have hm : st.mode = .strapFault := h.resolve_left hl
    exact Station.settle_of_not_running (by simp [hm]) st

theorem Station.strobe_of_deaf : st.strobe = st := by
  unfold Station.strobe
  rcases h with hl | hm
  · exact if_pos hl
  · rw [hm]
    exact ite_self st

theorem Station.not_runs_of_deaf : ¬ (st.mode = .running ∧ st.lineAsserted = false) := by
  rintro ⟨hm, hl⟩
  rcases h with h | h
  · simp [h] at hl
  · simp [h] at hm

theorem Station.blocksEvent_of_deaf (f : Blocks → Blocks) : st.blocksEvent f = st := if_neg (Station.not_runs_of_deaf h)

theorem Station.composeComplete_of_deaf : st.composeComplete = st := if_neg (Station.not_runs_of_deaf h)

theorem Station.close_of_deaf (src : Nat) (own : Option Message) (rule : Station → Station) : st.close src own rule = st :=
  Station.close_deaf (Station.framing_of_deaf h)

end Deaf

/-- Settles O2: each command but the two of the reset line leaves a deaf station as it is, by the way it comes in. -/
theorem heldOrStrapFaultIsDeaf : Obligations.HeldOrStrapFaultIsDeaf := by
  intro c s h hrelease hassert
  have hpulse : ∀ due, s.station.strobeWhen due = s.station := Station.strobeWhen_of_strobe (Station.strobe_of_deaf h)
  cases c with
  | resetRelease n => exact absurd rfl (hrelease n)
  | resetAsserted => exact absurd rfl hassert
  | frameStrobe => exact State.next_same (Station.strobe_of_deaf h)
  | compositionComplete => exact State.next_same (Station.composeComplete_of_deaf h)
  | pageSwitchTarget => exact State.next_same (hpulse _)
  | slideSwitchVisible => exact State.next_same (hpulse _)
  | transitionEnd => exact State.next_same (hpulse _)
  | pageTimeoutExpiry => exact State.next_same (hpulse _)
  | holdExpiry => exact State.next_same (hpulse _)
  | slideDurationExpiry => exact State.next_same (hpulse _)
  | prepareLimitExpiry => exact State.next_same (hpulse _)
  | absenceThreshold => exact State.next_same (hpulse _)
  | forcedCueWatch => exact State.next_same (hpulse _)
  | calibrationPulse low => exact State.next_same (Station.takeLow_of_deaf h low)
  | strayLow low => exact State.next_same (Station.takeLow_of_deaf h low)
  | contend lows => exact State.next_same (Station.contend_of_deaf h lows)
  | endWindow lows =>
    refine State.next_same ?_
    change (s.station.takeLows lows).enterWindow = _
    rw [Station.takeLows_of_deaf h, Station.enterWindow_of_deaf h]
  | messageVoided low => exact State.next_same (Station.voidMessage_of_deaf h low)
  | idleReached => exact State.next_same (Station.reachIdle_of_deaf h)
  | segmentArrival => exact State.next_same (Station.blocksEvent_of_deaf h _)
  | pagePrepareComplete => exact State.next_same (Station.blocksEvent_of_deaf h _)
  | batchStripComplete => exact State.next_same (Station.blocksEvent_of_deaf h _)
  | checkStripComplete => exact State.next_same (Station.blocksEvent_of_deaf h _)
  | unknownKindClose kind src =>
    refine State.next_same ?_
    change (if knownKind kind && decide (src < 6) then s.station else s.station.close src none id) = _
    rw [Station.close_of_deaf h, ite_self]
  | _ => exact State.next_same (Station.close_of_deaf h _ _ _)

/-! ### Messages that are passed over -/

/-- A message command is the close of a message, under a rule of its own that a station outside Running applies only where the
message is not for Running stations alone (R16, R121, R136, R166). -/
theorem exec_carried {c : Instr} {src : Nat} {own : Option Message} (h : c.carried = some (src, own)) :
    ∃ rule, (∀ s, exec c s = s.event (Station.close src own rule))
      ∧ (c.forRunning = true → ∀ st : Station, st.mode ≠ .running → rule st = st) := by
  cases c <;> simp only [Instr.carried, Option.some.injEq, Prod.mk.injEq, reduceCtorEq] at h <;> obtain ⟨rfl, rfl⟩ := h
  case sceneReset => exact ⟨_, fun _ => rfl, fun hf => absurd hf (by simp [Instr.forRunning])⟩
  case layout => exact ⟨_, fun _ => rfl, fun hf => absurd hf (by simp [Instr.forRunning])⟩
  case ask => exact ⟨_, fun _ => rfl, fun hf => absurd hf (by simp [Instr.forRunning])⟩
  case present => exact ⟨_, fun _ => rfl, fun _ _ _ => rfl⟩
  case report => exact ⟨_, fun _ => rfl, fun _ _ _ => rfl⟩
  case fault => exact ⟨_, fun _ => rfl, fun _ _ _ => rfl⟩
  case answer => exact ⟨_, fun _ => rfl, fun _ _ _ => rfl⟩
  case checkDone => exact ⟨_, fun _ => rfl, fun _ _ _ => rfl⟩
  all_goals exact ⟨_, fun _ => rfl, fun _ _ hm => if_neg hm⟩

theorem exec_unknownKindClose {kind src : Nat} (h : admitted kind = none ∨ 6 ≤ src) (s : State) :
    exec (.unknownKindClose kind src) s = s.event (Station.close src none id) := by
  have hk : (knownKind kind && decide (src < 6)) = false := by
    rcases h with h | h
    · simp [knownKind, h]
    · simp [Nat.not_lt.mpr h]
  change s.event (fun st => if knownKind kind && decide (src < 6) then st else st.close src none id) = _
  simp [hk]

/-- A close settles no head but the station's own, and that only when it was sent whole (R166, R170). -/
theorem Link.closeMessage_other {mine : Bool} {own : Option Message} {l : Link}
    (h : mine = false ∨ own = none ∨ l.sending ≠ .whole) :
    l.closeMessage mine own = { l with rx := .idle, errorMark := false, rxBits := [], sending := .none } := by
  have ho : l.ownHead mine own = false := by
    unfold Link.ownHead
    rcases h with h | h | h <;> simp [h]
  unfold Link.closeMessage
  simp [ho]

/-- Settles O19: each of these commands is the close of a message whose rule changes nothing, so the head alone is settled. -/
theorem passedOverMessages : Obligations.PassedOverMessages := by
  intro s c src own hframing hc hpassed
  have hexec : exec c s = s.event (Station.close src own id) := by
    rcases hpassed with ⟨n, u, rfl⟩ | ⟨b, rfl⟩ | ⟨b, rfl⟩ | ⟨b, rfl⟩ | ⟨b, rfl⟩ | ⟨kind, rfl, hk⟩
    case inr.inr.inr.inr.inr =>
      have hown : own = none := by
        rcases hc with hc | ⟨hown, _⟩
        · simp [Instr.carried] at hc
        · exact hown
      rw [hown]
      exact exec_unknownKindClose hk s
    all_goals
      rcases hc with hc | ⟨_, kind, hc⟩
      · simp only [Instr.carried, Option.some.injEq, Prod.mk.injEq, true_and] at hc
        rw [← hc]
        rfl
      · exact absurd hc (by simp)
  obtain ⟨t, ht, hb⟩ := State.close_passes (src := src) (own := own) (rule := id) hframing fun _ _ => rfl
  refine ⟨t, _, hexec.trans ht, hb, fun hother => ?_, fun m head rest hsrc hown hqueue hwhole => ?_⟩
  · exact Link.closeMessage_other (hother.imp_left (fun hne => by simp [hne]))
  · rw [hown, hsrc, decide_eq_true rfl, Link.closeMessage_own hwhole, hqueue]
    rfl

/-! ### Messages that are not applied -/

/-- A message that its rule ignores leaves the station as its close leaves it, but for the end of the event. -/
theorem State.close_ignored {s : State} {src : Nat} {own : Option Message} {rule : Station → Station}
    (h : s.station.framing = true) (hr : src < 6 → rule (s.station.heard src own) = s.station.heard src own) :
    ∃ t, s.event (Station.close src own rule) = .next t
      ∧ s.Becomes s.station.scene s.station.timers (s.station.closed src own) t := by
  have hpass : (if src < 6 then rule (s.station.heard src own) else s.station.heard src own) = s.station.heard src own := by
    split
    · next hlt => exact hr hlt
    · rfl
  obtain ⟨c, hc, hw⟩ := Station.settle_eq (s.station.heard src own) s.station
  refine ⟨_, State.event_eq _ s, ?_⟩
  rw [Station.close_framing h]
  change s.Becomes _ _ _ { s with
    station := (if src < 6 then rule (s.station.heard src own) else s.station.heard src own).settle s.station }
  rw [hpass, hc]
  exact ⟨rfl, hw⟩

/-- The same for a message that Running stations alone apply, at a station that listens. -/
theorem State.close_ignoredRunning {s : State} {src : Nat} {own : Option Message} {rule : Station → Station}
    (h : s.station.Listens) (hr : rule (s.station.heard src own) = s.station.heard src own) :
    ∃ t, s.event (Station.close src own (Station.whenRunning rule)) = .next t
      ∧ s.Becomes s.station.scene s.station.timers (s.station.closed src own) t :=
  State.close_ignored (Station.framing_of_listens h) fun _ => (Station.whenRunning_of (show (s.station.heard src own).mode = _ from h.1)).trans hr

/-- At a station that frames and is not Running the end of the event has nothing to do: the close is the whole next state. -/
theorem State.close_outsideRunning {s : State} {src : Nat} {own : Option Message} {rule : Station → Station}
    (h : s.station.framing = true) (hm : s.station.mode ≠ .running)
    (hr : rule (s.station.heard src own) = s.station.heard src own) :
    s.event (Station.close src own rule)
      = .next { s with station := { s.station with blocks := s.station.closed src own } } := by
  rw [State.event_eq, Station.close_framing h]
  change Host.Outcome.next { s with
    station := (if src < 6 then rule (s.station.heard src own) else s.station.heard src own).settle s.station } = _
  rw [hr, ite_self, Station.settle_of_not_running (show (s.station.heard src own).mode ≠ _ from hm)]
  rfl

section NotFromTheController

variable {src : Nat} (h : src ≠ 0) (st : Station)
include h

theorem Station.applyKey_of_ne (code : Nat) : st.applyKey src code = st := if_neg (fun hs => h hs.1)
theorem Station.applySlideAppend_of_ne (b : AppendBody) : st.applySlideAppend src b = st := if_pos h
theorem Station.applySlideRemove_of_ne (i : Nat) : st.applySlideRemove src i = st := if_pos h
theorem Station.applySlideClear_of_ne : st.applySlideClear src = st := if_pos h
theorem Station.applySlidePlay_of_ne (loop : Nat) : st.applySlidePlay src loop = st := if_pos h
theorem Station.applySlidePause_of_ne : st.applySlidePause src = st := if_pos h
theorem Station.applySlideStep_of_ne : st.applySlideStep src = st := if_pos h
theorem Station.applySlideSeek_of_ne (i : Nat) : st.applySlideSeek src i = st := if_pos h
theorem Station.applyCueSet_of_ne (b : CueSetBody) : st.applyCueSet src b = st := if_pos h
theorem Station.applyCueClear_of_ne (i : Nat) : st.applyCueClear src i = st := if_pos h

end NotFromTheController

/-- A Key, a Slide message, a Cue Set or a Cue Clear of another source than 0 changes nothing (R24, R84, R97). -/
theorem exec_notFromTheController {s : State} {c : Instr} {src : Nat} (hs : s.station.Listens) (h : src ≠ 0)
    (hc : (∃ code, c = .key src code) ∨ (∃ b, c = .slideAppend src b) ∨ (∃ i, c = .slideRemove src i) ∨ c = .slideClear src
        ∨ (∃ loop, c = .slidePlay src loop) ∨ c = .slidePause src ∨ c = .slideStep src ∨ (∃ i, c = .slideSeek src i)
        ∨ (∃ b, c = .cueSet src b) ∨ (∃ i, c = .cueClear src i)) :
    ∃ t, exec c s = .next t ∧ s.Becomes s.station.scene s.station.timers (s.station.closed src none) t := by
  rcases hc with ⟨code, rfl⟩ | ⟨b, rfl⟩ | ⟨i, rfl⟩ | rfl | ⟨loop, rfl⟩ | rfl | rfl | ⟨i, rfl⟩ | ⟨b, rfl⟩ | ⟨i, rfl⟩
  · exact State.close_ignoredRunning hs (Station.applyKey_of_ne h _ code)
  · exact State.close_ignoredRunning hs (Station.applySlideAppend_of_ne h _ b)
  · exact State.close_ignoredRunning hs (Station.applySlideRemove_of_ne h _ i)
  · exact State.close_ignoredRunning hs (Station.applySlideClear_of_ne h _)
  · exact State.close_ignoredRunning hs (Station.applySlidePlay_of_ne h _ loop)
  · exact State.close_ignoredRunning hs (Station.applySlidePause_of_ne h _)
  · exact State.close_ignoredRunning hs (Station.applySlideStep_of_ne h _)
  · exact State.close_ignoredRunning hs (Station.applySlideSeek_of_ne h _ i)
  · exact State.close_ignoredRunning hs (Station.applyCueSet_of_ne h _ b)
  · exact State.close_ignoredRunning hs (Station.applyCueClear_of_ne h _ i)

theorem readStream_of_gt {n : Nat} (h : 1 < n) : readStream n = none := by
  unfold readStream
  split
  · omega
  · omega
  · rfl

/-- The three ways a Switch is not applied (R58, R95, R188). -/
theorem Station.applySwitch_ignored {src : Nat} {body : SwitchBody} {st : Station}
    (h : 1 < body.stream
        ∨ (body.stream = 0 ∧ (st.scene.speaker ≠ some src ∨ st.scene.pendingPage = none
            ∨ st.scene.pendingPage ≠ some body.index ∨ body.change ≠ st.scene.pageChange))
        ∨ (body.stream = 1 ∧ (st.scene.speaker ≠ some src ∨ st.scene.pendingIndex = none
            ∨ body.change ≠ st.scene.slideChange))) : st.applySwitch src body = st := by
  unfold Station.applySwitch
  rcases h with h | ⟨h, hp⟩ | ⟨h, hp⟩
  · rw [readStream_of_gt h]
  · have hno : st.scene.takesPageSwitch src body.index body.change = false := by
      unfold Scene.takesPageSwitch
      rcases hp with hp | hp | hp | hp
      · simp [hp]
      · simp [hp]
      · simp [hp]
      · simp [Ne.symm hp]
    rw [h]
    exact if_neg (by simp [hno])
  · rw [h]
    change st.applySlideSwitch src body = st
    unfold Station.applySlideSwitch
    split
    · rfl
    · next i hi =>
      split
      · rfl
      · refine if_neg ?_
        rintro ⟨hsp, hch⟩
        rcases hp with hp | hp | hp
        · exact hp hsp
        · simp [hp] at hi
        · exact hp hch.symm

theorem Station.applyReady_ignored {src : Nat} {body : ReadyBody} {st : Station} (h : 1 < body.stream) :
    st.applyReady src body = st := by
  unfold Station.applyReady
  rw [readStream_of_gt h]

/-- Settles O20: in each case the rule of the message changes nothing, and only its close is left. -/
theorem messagesThatAreNotApplied : Obligations.MessagesThatAreNotApplied := by
  refine ⟨fun s c src own hf hc hsrc => ?_, fun s c src own hf hm hc hr => ?_,
    fun s c src hs hsrc hc => exec_notFromTheController hs hsrc hc,
    fun s src body hs h => State.close_ignoredRunning hs (Station.applySwitch_ignored h),
    fun s src body hs h => State.close_ignoredRunning hs (Station.applyReady_ignored h)⟩
  · obtain ⟨rule, hrule, _⟩ := exec_carried hc
    rw [hrule]
    exact State.close_ignored hf fun hlt => absurd hlt (by omega)
  · obtain ⟨rule, hrule, hkeep⟩ := exec_carried hc
    have hmode : s.station.mode ≠ .running := by
      rcases hm with hm | hm <;> simp [hm]
    rw [hrule]
    exact State.close_outsideRunning hf hmode (hkeep hr _ hmode)

/-! ### Scene Reset and Layout -/

/-- Only the controller resets the scene (R180). -/
theorem sceneReset_ignored {s : State} {src : Nat} (hf : s.station.framing = true) (h : src ≠ 0) :
    ∃ t, exec (.sceneReset src) s = .next t
      ∧ s.Becomes s.station.scene s.station.timers (s.station.closed src none) t :=
  State.close_ignored hf fun _ => if_neg h

/-- A message of source 0 whose rule the end of the event adds nothing to. -/
theorem State.close_exactly {s : State} {rule : Station → Station} {u : Station} (hf : s.station.framing = true)
    (hr : rule (s.station.heard 0 none) = u) (hu : u.settle s.station = u) :
    s.event (Station.close 0 none rule) = .next { s with station := u } := by
  rw [State.event_eq, Station.close_framing hf]
  change Host.Outcome.next { s with station := (rule (s.station.heard 0 none)).settle s.station } = _
  rw [hr, hu]

/-- A station that is Running with its store, its Decode Unit and its slide show at their reset values, and no page pending, has
nothing to end an event with. -/
theorem Station.settle_of_reset {st : Station} (before : Station) (hs : st.blocks.store = Store.reset)
    (hd : st.blocks.decode = Decode.reset) (hw : st.scene.show_ = .stopped) (hp : st.scene.pendingPage = none)
    (hi : st.scene.pendingIndex = none) : st.settle before = st := by
  have hb : Blocks.settle st.geometry before.scene st.scene before.blocks st.blocks = st.blocks :=
    Blocks.settle_reset hs hd hw hp hi
  unfold Station.settle
  split
  · unfold Station.withBlocks
    rw [hb]
  · rfl

theorem Blocks.emptied_store (b : Blocks) : b.emptied.store = Store.reset := by
  unfold Blocks.emptied
  split <;> rfl

theorem Blocks.emptied_decode (b : Blocks) : b.emptied.decode = Decode.reset := by
  unfold Blocks.emptied
  split <;> rfl

/-- The emptied blocks while no Check is queued or in progress (R122, R138, R157, R158). -/
theorem Blocks.emptied_of_none {b : Blocks} (h : b.decode.currentCheck = none) :
    b.emptied = { link := b.link.emptied, store := Store.reset, decode := Decode.reset, bc := b.bc.emptied } := by
  unfold Blocks.emptied Blocks.cutShort
  rw [h]
  rfl

/-- The emptied blocks when a Check is cut short: its Check Done alone is in the queue (R139). -/
theorem Blocks.emptied_of_some {b : Blocks} {c : CheckJob} (h : b.decode.currentCheck = some c) :
    b.emptied = { link := { b.link.emptied with queue := [.checkDone (c.report (b.store.unchecked c).length)] }
                  store := Store.reset, decode := Decode.reset, bc := b.bc.emptied } := by
  unfold Blocks.emptied Blocks.cutShort
  rw [h]
  rfl

theorem Station.sceneReset_running {st : Station} (h : st.mode = .running) :
    st.sceneReset = { st with scene := st.scene.emptied, timers := Timers.reset, blocks := st.blocks.emptied } := by
  unfold Station.sceneReset
  cases st
  subst h
  rfl

theorem Station.sceneReset_joining {st : Station} (h : st.mode = .joining) :
    st.sceneReset = (st.withBlocks (fun b => b.withLink Link.emptied)).enqueue st.present := by
  unfold Station.sceneReset
  rw [h]

theorem Station.sceneReset_spare {st : Station} (h : st.mode = .spare) :
    st.sceneReset = st.withBlocks (fun b => b.withLink Link.emptied) := by
  unfold Station.sceneReset
  rw [h]

/-- The link at the close of a message of another station, or of none: Idle, nothing being received. -/
theorem Station.closed_link (src : Nat) (st : Station) : (st.closed src none).link
    = { st.blocks.link with rx := .idle, errorMark := false, rxBits := [], sending := .none } :=
  Link.closeMessage_none _ _

theorem Station.heard_none (src : Nat) (st : Station) : st.heard src none = { st with
    blocks := { st.blocks with
      link := { st.blocks.link with rx := .idle, errorMark := false, rxBits := [], sending := .none } } } := by
  unfold Station.heard Station.closed
  rw [Link.closeMessage_none]

theorem exec_sceneReset (s : State) :
    exec (.sceneReset 0) s = s.event (Station.close 0 none Station.sceneReset) := rfl

/-- Settles O21, by station state: in Running the reset leaves the end of the event nothing to do, in the others there is no end
of the event. -/
theorem sceneResetByStationState : Obligations.SceneResetByStationState := by
  refine ⟨fun s hs => ?_, fun s l hf hl => ⟨fun hm => ?_, fun hm => ?_, fun src hsrc => sceneReset_ignored hf hsrc⟩⟩
  · have hexec := State.close_exactly (Station.framing_of_listens hs) (Station.sceneReset_running (st := s.station.heard 0 none) hs.1)
      (Station.settle_of_reset s.station (Blocks.emptied_store _) (Blocks.emptied_decode _) rfl rfl rfl)
    have hcurrent : (s.station.heard 0 none).blocks.decode.currentCheck = s.station.blocks.decode.currentCheck := rfl
    have hlink : (s.station.heard 0 none).blocks.link = _ := s.station.closed_link 0
    cases hcheck : s.station.blocks.decode.currentCheck with
    | none =>
      rw [Blocks.emptied_of_none (hcurrent.trans hcheck), hlink] at hexec
      exact ⟨[], (exec_sceneReset s).trans hexec, fun _ => rfl, fun c hc => absurd hc (by simp)⟩
    | some c =>
      rw [Blocks.emptied_of_some (hcurrent.trans hcheck), hlink] at hexec
      refine ⟨_, (exec_sceneReset s).trans hexec, fun hc => absurd hc (by simp), fun d hd => ?_⟩
      rw [← Option.some.inj hd]
      rfl
  · have hexec := State.close_exactly hf (Station.sceneReset_joining (st := s.station.heard 0 none) hm)
      (Station.settle_of_not_running (by simp [Station.heard, hm]) _)
    rw [Station.heard_none] at hexec
    rw [hl]
    exact (exec_sceneReset s).trans hexec
  · have hexec := State.close_exactly hf (Station.sceneReset_spare (st := s.station.heard 0 none) hm)
      (Station.settle_of_not_running (by simp [Station.heard, hm]) _)
    rw [Station.heard_none] at hexec
    rw [hl]
    exact (exec_sceneReset s).trans hexec

/-! ### Layout -/

theorem exec_layout (body : LayoutBody) (s : State) :
    exec (.layout 0 body) s = s.event (Station.close 0 none (Station.applyLayout body)) := rfl

theorem layout_ignored {s : State} {src : Nat} (body : LayoutBody) (hf : s.station.framing = true) (h : src ≠ 0) :
    ∃ t, exec (.layout src body) s = .next t
      ∧ s.Becomes s.station.scene s.station.timers (s.station.closed src none) t :=
  State.close_ignored hf fun _ => if_neg h

theorem Station.applyLayout_running {st : Station} (body : LayoutBody) (h : st.mode = .running) :
    st.applyLayout body = st.refuse .layoutRefused { kind := 0x04, src := 0 } none none := by
  unfold Station.applyLayout
  rw [h]
  rfl

theorem Station.applyLayout_joining {st : Station} {body : LayoutBody} (h : st.mode = .joining) :
    st.applyLayout body = if layoutValid body then st.takeLayout (layoutOf body) else st := by
  unfold Station.applyLayout
  rw [h]

theorem Station.applyLayout_spare {st : Station} (body : LayoutBody) (h : st.mode = .spare) : st.applyLayout body = st := by
  unfold Station.applyLayout
  rw [h]

/-- A number is among the owners in station order exactly when a band names it (R177). -/
theorem Stations.mem_insert (n k : Nat) (l : List Nat) : k ∈ Stations.insert n l ↔ k = n ∨ k ∈ l := by
  induction l with
  | nil => simp [Stations.insert]
  | cons m l ih =>
    unfold Stations.insert
    split
    · next h => simp +contextual [h]
    · split
      · simp
      · simp [ih, or_left_comm]

theorem Stations.mem_sort (k : Nat) (l : List Nat) : k ∈ Stations.sort l ↔ k ∈ l := by
  induction l with
  | nil => simp [Stations.sort]
  | cons n l ih =>
    change k ∈ Stations.insert n (Stations.sort l) ↔ _
    rw [Stations.mem_insert, ih, List.mem_cons]

theorem Stations.contains_sort (k : Nat) (l : List Nat) : (Stations.sort l).contains k = l.contains k := by
  rw [Bool.eq_iff_iff, List.contains_iff_mem, List.contains_iff_mem, Stations.mem_sort]

/-! ### The tests of a Layout -/

theorem distinct_iff (l : List Nat) : distinct l = true ↔ l.Nodup := by
  induction l with
  | nil => simp [distinct]
  | cons n l ih => simp [distinct, ih]

theorem bandsRise_iff (height last : Nat) (l : List Band) :
    bandsRise height last l = true
      ↔ (∀ d ∈ l, d.first % 8 = 0 ∧ d.first < height) ∧ (last :: l.map Band.first).Pairwise (fun m n => m < n) := by
  induction l generalizing last with
  | nil => simp [bandsRise]
  | cons b l ih =>
    simp only [bandsRise, Bool.and_eq_true, beq_iff_eq, decide_eq_true_eq, ih, List.map_cons, List.pairwise_cons,
      List.forall_mem_cons]
    constructor
    · rintro ⟨⟨⟨h8, hlt⟩, hh⟩, hall, hb, hp⟩
      exact ⟨⟨⟨h8, hh⟩, hall⟩, ⟨hlt, fun n hn => lt_trans hlt (hb n hn)⟩, hb, hp⟩
    · rintro ⟨⟨⟨h8, hh⟩, hall⟩, ⟨hlt, _⟩, hb, hp⟩
      exact ⟨⟨⟨h8, hlt⟩, hh⟩, hall, hb, hp⟩

/-- The first rows of the bands: 0, then rising, each a multiple of 8 on the screen (R176). -/
theorem bandsStart_iff {height : Nat} (hh : 0 < height) (l : List Band) :
    bandsStart height l = true
      ↔ (∀ d ∈ l, d.first % 8 = 0 ∧ d.first < height) ∧ (l.map Band.first).head? = some 0
        ∧ (l.map Band.first).Pairwise (fun m n => m < n) := by
  cases l with
  | nil => simp [bandsStart]
  | cons b l =>
    simp only [bandsStart, Bool.and_eq_true, beq_iff_eq, bandsRise_iff, List.map_cons, List.head?_cons, Option.some.injEq,
      List.forall_mem_cons]
    constructor
    · rintro ⟨h0, hall, hp⟩
      rw [h0]
      exact ⟨⟨⟨rfl, hh⟩, hall⟩, rfl, hp⟩
    · rintro ⟨⟨_, hall⟩, h0, hp⟩
      rw [h0] at hp
      exact ⟨h0, hall, hp⟩

theorem layoutValid_iff (b : LayoutBody) : layoutValid b = true ↔
    720 ≤ b.width ∧ b.width ≤ 3840 ∧ b.width % 8 = 0 ∧ 480 ≤ b.height ∧ b.height ≤ 2160 ∧ b.height % 8 = 0
      ∧ 1 ≤ b.count ∧ b.count ≤ 4 ∧ b.count = b.bands.length
      ∧ (∀ d ∈ b.bands, 2 ≤ d.owner ∧ d.owner ≤ 5 ∧ d.first % 8 = 0 ∧ d.first < b.height)
      ∧ (b.bands.map Band.owner).Nodup ∧ (b.bands.map Band.first).head? = some 0
      ∧ (b.bands.map Band.first).Pairwise (fun m n => m < n) ∧ 8 ≤ b.prepareLimit ∧ b.prepareLimit ≤ 255 := by
  unfold layoutValid
  simp only [Bool.and_eq_true, decide_eq_true_eq, beq_iff_eq, List.all_eq_true, distinct_iff]
  constructor
  · rintro ⟨⟨⟨⟨⟨⟨⟨⟨⟨⟨⟨⟨⟨hw1, hw2⟩, hw3⟩, hh1⟩, hh2⟩, hh3⟩, hc1⟩, hc2⟩, hc3⟩, howner⟩, hnodup⟩, hstart⟩, hp1⟩, hp2⟩
    obtain ⟨hrow, hhead, hrise⟩ := (bandsStart_iff (by omega) _).mp hstart
    exact ⟨hw1, hw2, hw3, hh1, hh2, hh3, hc1, hc2, hc3,
      fun d hd => ⟨(howner d hd).1, (howner d hd).2, (hrow d hd).1, (hrow d hd).2⟩, hnodup, hhead, hrise, hp1, hp2⟩
  · rintro ⟨hw1, hw2, hw3, hh1, hh2, hh3, hc1, hc2, hc3, hband, hnodup, hhead, hrise, hp1, hp2⟩
    have hstart := (bandsStart_iff (show 0 < b.height by omega) b.bands).mpr
      ⟨fun d hd => (hband d hd).2.2, hhead, hrise⟩
    exact ⟨⟨⟨⟨⟨⟨⟨⟨⟨⟨⟨⟨⟨hw1, hw2⟩, hw3⟩, hh1⟩, hh2⟩, hh3⟩, hc1⟩, hc2⟩, hc3⟩,
      fun d hd => ⟨(hband d hd).1, (hband d hd).2.1⟩⟩, hnodup⟩, hstart⟩, hp1⟩, hp2⟩

/-- Settles O22, by station state and by whether the Layout is valid and names the station. -/
theorem layoutIsTakenOnceInJoining : Obligations.LayoutIsTakenOnceInJoining := by
  refine ⟨fun s body hf => ?_, layoutValid_iff⟩
  have hjoining : s.station.mode = .joining → (s.station.heard 0 none).applyLayout body
      = if layoutValid body then (s.station.heard 0 none).takeLayout (layoutOf body) else s.station.heard 0 none :=
    fun hm => Station.applyLayout_joining hm
  have howners : (layoutOf body).owners.contains s.station.number = (body.bands.map Band.owner).contains s.station.number :=
    Stations.contains_sort _ _
  refine ⟨fun owners ho hm hv hn => ?_, fun hm hv hn => ?_, fun hm hv => ?_, fun hm => ?_,
    fun src hsrc => layout_ignored body hf hsrc, fun hm => ?_⟩
  · have hrule : (s.station.heard 0 none).applyLayout body = _ :=
      (hjoining hm).trans ((if_pos hv).trans (if_pos (howners.trans hn)))
    rw [exec_layout, ho]
    exact State.close_exactly hf hrule (Station.settle_of_reset _ rfl rfl rfl rfl rfl)
  · have hrule : (s.station.heard 0 none).applyLayout body = _ :=
      (hjoining hm).trans ((if_pos hv).trans (if_neg (Bool.eq_false_iff.mp (howners.trans hn))))
    exact State.close_exactly hf hrule (Station.settle_of_not_running (by simp) _)
  · have hrule : (s.station.heard 0 none).applyLayout body = _ := (hjoining hm).trans (if_neg (by simp [hv]))
    exact State.close_outsideRunning hf (by simp [hm]) hrule
  · exact State.close_outsideRunning hf (by simp [hm]) (Station.applyLayout_spare body hm)
  · have hlistens : s.station.Listens := by
      unfold Station.framing at hf
      simp only [Bool.and_eq_true, Bool.not_eq_true', decide_eq_true_eq] at hf
      obtain ⟨⟨hl, _⟩, hrx⟩ := hf
      exact ⟨hm, hl, hrx⟩
    exact State.close_becomes hlistens (by omega)
      ((Station.applyLayout_running (st := s.station.heard 0 none) body hm).trans (Station.refuse_heard _ _ _ _ _ _))

end Sys2Proof.Machine

/-! The Link Interface on the wire: the classes of lows (R160), calibration (R161), what a station receives (R163), contention
(R168) and the test at the end window (R164). -/

namespace Sys2Proof.Machine

/-! ### Measures and classes of lows -/

theorem measure_zero (low : Nat) : measure 0 low = 0 := Nat.div_zero _

theorem le_measure {u n low : Nat} (hu : 0 < u) : n ≤ measure u low ↔ n * u ≤ 256 * low := Nat.le_div_iff_mul_le hu

/-- A low that a station drives for `lu` link units lasts at least so long, and less than one clock period longer (log 46). -/
theorem le_drivenLow (u lu : Nat) : lu * u ≤ 256 * drivenLow u lu ∧ 256 * drivenLow u lu < lu * u + 256 := by
  unfold drivenLow
  omega

theorem drivenLow_le {u lu low : Nat} (h : lu * u ≤ 256 * low) : drivenLow u lu ≤ low := by
  unfold drivenLow
  omega

/-- Where a link unit is at least a clock period, a driven low measures the units it is driven for. -/
theorem measure_drivenLow {u : Nat} (hu : 256 ≤ u) (lu : Nat) : measure u (drivenLow u lu) = lu := by
  obtain ⟨hlo, hhi⟩ := le_drivenLow u lu
  refine Nat.div_eq_of_lt_le hlo ?_
  calc 256 * drivenLow u lu < lu * u + 256 := hhi
    _ ≤ (lu + 1) * u := by rw [Nat.succ_mul]; omega

theorem classOf_bit {lu : Nat} (h : lu ≤ 7) : classOf lu = .bit (decide (lu ≤ 3)) := by
  unfold classOf
  split
  · next h3 => simp [h3]
  · next h3 => rw [decide_eq_false h3]

theorem classOf_not_bit {lu : Nat} (h : 8 ≤ lu) (v : Bool) : classOf lu ≠ .bit v := by
  unfold classOf
  rw [if_neg (by omega), if_neg (by omega)]
  split
  · simp
  · split
    · simp
    · split <;> simp

theorem classOf_calibration (lu : Nat) : classOf lu = .calibration ↔ 240 ≤ lu := by
  unfold classOf
  split_ifs <;> simp <;> omega

/-! ### A low on the wire -/

theorem Link.wireLow_of_not_objecting {l : Link} (h : l.rx ≠ .objecting) (low : Nat) : l.wireLow low = low := if_neg h

/-- A low of 40 lu or more covers the station's own objection. -/
theorem Link.wireLow_of_long {l : Link} {low : Nat} (h : 40 * l.unit256 ≤ 256 * low) : l.wireLow low = low := by
  unfold Link.wireLow
  split
  · exact Nat.max_eq_left (drivenLow_le h)
  · rfl

/-- A calibration pulse, at a station that hears the wire. -/
theorem Station.takeLow_calibrates {st : Station} {low : Nat} (hl : st.lineAsserted = false) (hm : st.mode ≠ .strapFault)
    (h : 240 ≤ measure st.blocks.link.unit256 low) : st.takeLow low = st.calibrate low := by
  have hu : 0 < st.blocks.link.unit256 := by
    rcases Nat.eq_zero_or_pos st.blocks.link.unit256 with h0 | h0
    · rw [h0, measure_zero] at h
      omega
    · exact h0
  have hlong := (le_measure hu).mp h
  unfold Station.takeLow
  rw [Link.wireLow_of_long (by omega)]
  unfold Station.takeWire
  rw [if_neg (by simp [hl, hm]), if_pos ((classOf_calibration _).mpr h)]

/-- Settles O14, by whether the station was calibrated before. -/
theorem calibrationSetsTheUnit : Obligations.CalibrationSetsTheUnit := by
  intro s low l hline hmode hlong hl
  have hexec : exec (.calibrationPulse low) s = .next { s with station := s.station.calibrate low } := by
    rw [← Station.takeLow_calibrates hline hmode hlong]
    rfl
  unfold Station.calibrate at hexec
  rw [hexec, hl]
  refine ⟨fun hm => ?_, fun hm => ?_⟩
  · rw [if_pos hm]
    rfl
  · rw [if_neg hm]
    rfl

/-- A low below 240 lu, at a station that frames and does not object. -/
theorem Station.takeLow_receives {st : Station} {low : Nat} (hl : st.lineAsserted = false) (hf : st.mode.frames = true)
    (hrx : st.blocks.link.rx ≠ .objecting) (h : measure st.blocks.link.unit256 low < 240) :
    st.takeLow low = st.withBlocks (Blocks.receive (classOf (measure st.blocks.link.unit256 low))) := by
  have hs : st.mode ≠ .strapFault := by rintro hm; simp [hm, Mode.frames] at hf
  have hu : st.mode ≠ .uncalibrated := by rintro hm; simp [hm, Mode.frames] at hf
  unfold Station.takeLow
  rw [Link.wireLow_of_not_objecting hrx]
  unfold Station.takeWire
  rw [if_neg (by simp [hl, hs]), if_neg (by rw [classOf_calibration]; omega), if_neg hu]

theorem Blocks.receive_waiting {b : Blocks} (h : b.link.rx = .waiting) (k : LowClass) : b.receive k = b := by
  unfold Blocks.receive
  rw [h]

theorem Blocks.receive_idle_bit {b : Blocks} (h : b.link.rx = .idle) (v : Bool) :
    b.receive (.bit v) = b.withLink (fun l => { l with rx := .receiving, errorMark := false, rxBits := [v] }) := by
  unfold Blocks.receive
  rw [h]

theorem Blocks.receive_idle_other {b : Blocks} {k : LowClass} (h : b.link.rx = .idle) (hk : ∀ v, k ≠ .bit v) :
    b.receive k = b.withLink (fun l => { l with rx := .waiting }) := by
  unfold Blocks.receive
  rw [h]
  cases k with
  | bit v => exact absurd rfl (hk v)
  | framing => rfl
  | objection => rfl
  | calibration => rfl

theorem Blocks.receive_receiving_bit {b : Blocks} (h : b.link.rx = .receiving) (v : Bool) :
    b.receive (.bit v) = b.withLink (fun l => { l with rxBits := l.rxBits ++ [v] }) := by
  unfold Blocks.receive
  rw [h]

theorem Blocks.receive_receiving_other {b : Blocks} {k : LowClass} (h : b.link.rx = .receiving) (hk : ∀ v, k ≠ .bit v) :
    b.receive k = b.withLink (fun l => { l with errorMark := true }) := by
  unfold Blocks.receive
  rw [h]
  cases k with
  | bit v => exact absurd rfl (hk v)
  | framing => rfl
  | objection => rfl
  | calibration => rfl

/-- A low below 240 lu at a station that frames and does not object, as a command. -/
theorem exec_strayLow {s : State} {low : Nat} (hl : s.station.lineAsserted = false) (hf : s.station.mode.frames = true)
    (hrx : s.station.blocks.link.rx ≠ .objecting) (h : measure s.station.blocks.link.unit256 low < 240) :
    exec (.strayLow low) s = .next { s with
      station := s.station.withBlocks (Blocks.receive (classOf (measure s.station.blocks.link.unit256 low))) } := by
  rw [← Station.takeLow_receives hl hf hrx h]
  rfl

/-- An Uncalibrated station takes every shorter low for a stray one (R163). -/
theorem Station.takeLow_uncalibrated {st : Station} {low : Nat} (hl : st.lineAsserted = false) (hm : st.mode = .uncalibrated)
    (hrx : st.blocks.link.rx ≠ .objecting) (h : measure st.blocks.link.unit256 low < 240) :
    st.takeLow low = st.withBlocks (fun b => b.withLink (fun l => { l with rx := .waiting })) := by
  unfold Station.takeLow
  rw [Link.wireLow_of_not_objecting hrx]
  unfold Station.takeWire
  rw [if_neg (by simp [hl, hm]), if_neg (by rw [classOf_calibration]; omega), if_pos hm]

/-- Settles O15: the first low by the receive state and its class, the others by the station state. -/
theorem lowsAreReceivedByClass : Obligations.LowsAreReceivedByClass := by
  refine ⟨fun s low lu after hl hf hlu hlt hafter => ?_, fun s low hl hm hrx hlt => ?_,
    fun s hl hm => ⟨fun hrx => ?_, fun hrx => State.next_same (if_pos (.inr (.inr hrx)))⟩⟩
  · have hexec : s.station.blocks.link.rx ≠ .objecting → exec (.strayLow low) s = .next { s with
        station := s.station.withBlocks (Blocks.receive (classOf lu)) } := fun hrx => by
      rw [hlu]
      exact exec_strayLow hl hf hrx (hlu.symm.trans_lt hlt)
    refine ⟨fun hrx => ?_, fun hrx h7 => ?_, fun hrx h8 => ?_, fun hrx h7 => ?_, fun hrx h8 => ?_⟩
    · rw [hexec (by simp [hrx])]
      exact State.next_same (congrArg (fun b => { s.station with blocks := b }) (Blocks.receive_waiting hrx _))
    · rw [hexec (by simp [hrx]), classOf_bit h7, Station.withBlocks, Blocks.receive_idle_bit hrx, hafter]
      rfl
    · rw [hexec (by simp [hrx]), Station.withBlocks, Blocks.receive_idle_other hrx (classOf_not_bit h8), hafter]
      rfl
    · rw [hexec (by simp [hrx]), classOf_bit h7, Station.withBlocks, Blocks.receive_receiving_bit hrx, hafter]
      rfl
    · rw [hexec (by simp [hrx]), Station.withBlocks, Blocks.receive_receiving_other hrx (classOf_not_bit h8), hafter]
      rfl
  · have hexec : exec (.strayLow low) s = .next { s with station := s.station.takeLow low } := rfl
    rw [hexec, Station.takeLow_uncalibrated hl hm hrx hlt]
    rfl
  · have hexec : exec .idleReached s = .next { s with station := s.station.reachIdle } := rfl
    have hreach : s.station.reachIdle = s.station.withBlocks (fun b => b.withLink (fun l => { l with rx := .idle })) :=
      if_neg (by simp [hl, hm, hrx])
    rw [hexec, hreach]
    rfl

/-! ### Runs of bits -/

/-- The station with a link that has received these bits of a message. -/
def Station.received (bits : List Bool) (st : Station) : Station :=
  st.withBlocks (fun b => b.withLink (fun l => { l with rx := .receiving, rxBits := bits }))

/-- The bit that a low stands for (R160). -/
def readBit (u low : Nat) : Bool := decide (measure u low ≤ 3)

/-- Bits that arrive at a station that is receiving join the bits it has. -/
theorem Station.takeLows_receiving {st : Station} (lows : List Nat) (hl : st.lineAsserted = false)
    (hf : st.mode.frames = true) (hrx : st.blocks.link.rx = .receiving)
    (h : ∀ low ∈ lows, measure st.blocks.link.unit256 low ≤ 7) :
    st.takeLows lows = st.received (st.blocks.link.rxBits ++ lows.map (readBit st.blocks.link.unit256)) := by
  induction lows generalizing st with
  | nil =>
    cases st with
    | mk _ _ _ _ _ _ blocks =>
      cases blocks with
      | mk link _ _ _ =>
        cases link
        subst hrx
        simp [Station.takeLows, Station.received, Station.withBlocks, Blocks.withLink]
  | cons low lows ih =>
    have h7 := h low List.mem_cons_self
    have hlow : st.takeLow low = st.received (st.blocks.link.rxBits ++ [readBit st.blocks.link.unit256 low]) := by
      rw [Station.takeLow_receives hl hf (by simp [hrx]) (by omega), classOf_bit h7, Station.withBlocks,
        Blocks.receive_receiving_bit hrx, Station.received, Station.withBlocks, Blocks.withLink, Blocks.withLink, hrx]
      rfl
    have hcons : st.takeLows (low :: lows) = (st.takeLow low).takeLows lows := rfl
    rw [hcons, hlow, List.map_cons]
    exact (ih (st := st.received _) hl hf rfl (fun x hx => h x (List.mem_cons_of_mem _ hx))).trans
      (congrArg (fun bits => st.received bits) (List.append_cons _ _ _).symm)

/-- Bits that arrive at an Idle station begin a message. -/
theorem Station.takeLows_idle {st : Station} {lows : List Nat} (hne : lows ≠ []) (hl : st.lineAsserted = false)
    (hf : st.mode.frames = true) (hrx : st.blocks.link.rx = .idle)
    (h : ∀ low ∈ lows, measure st.blocks.link.unit256 low ≤ 7) :
    st.takeLows lows = st.withBlocks (fun b => b.withLink (fun l =>
      { l with rx := .receiving, errorMark := false, rxBits := lows.map (readBit st.blocks.link.unit256) })) := by
  obtain ⟨low, lows, rfl⟩ := List.exists_cons_of_ne_nil hne
  have h7 := h low List.mem_cons_self
  have hlow : st.takeLow low = st.withBlocks (fun b => b.withLink (fun l =>
      { l with rx := .receiving, errorMark := false, rxBits := [readBit st.blocks.link.unit256 low] })) := by
    rw [Station.takeLow_receives hl hf (by simp [hrx]) (by omega), classOf_bit h7, Station.withBlocks,
      Blocks.receive_idle_bit hrx]
    rfl
  have hcons : st.takeLows (low :: lows) = (st.takeLow low).takeLows lows := rfl
  rw [hcons, hlow]
  exact Station.takeLows_receiving lows hl hf rfl (fun x hx => h x (List.mem_cons_of_mem _ hx))

/-! ### The end window -/

theorem damaged_iff (bytes : List Byte) : damaged bytes = true ↔
    bytes.length < 4 ∨ 62 < bytes.length
      ∨ checkWordOf (bytes.take (bytes.length - 2)) ≠ getHalf bytes (bytes.length - 2) ∨ get8 bytes 1 % 32 ≠ 0
      ∨ ∃ lengths, admitted (get8 bytes 0) = some lengths ∧ bytes.length - 4 ∉ lengths := by
  unfold damaged
  cases admitted (get8 bytes 0) with
  | none => simp [or_assoc]
  | some lengths => simp [or_assoc]

/-- The test at the entry to End Window (R164). -/
theorem Link.finds_iff (l : Link) : l.finds = true ↔
    l.errorMark = true ∨ l.rxBits.length % 8 ≠ 0 ∨ damaged (bitsBytes l.rxBits) = true := by
  simp [Link.finds, or_assoc]

/-- Settles O17: the lows join the bits received, and the test of the whole message decides between the two states. -/
theorem damagedMessagesMeetAnObjection : Obligations.DamagedMessagesMeetAnObjection := by
  intro s lows bits bytes bad after hl hf hrx hlows hbits hbytes hbad hafter
  have htaken : s.station.takeLows lows = s.station.received bits := by
    rw [Station.takeLows_receiving lows hl hf hrx hlows, hbits]
    rfl
  have hwindow : (s.station.received bits).enterWindow = (s.station.received bits).withBlocks (fun b =>
      b.withLink (fun l => { l with rx := if l.finds then .objecting else .endWindow })) := if_pos (by
    have hframes : (s.station.received bits).mode.frames = true := hf
    have hline : (s.station.received bits).lineAsserted = false := hl
    have hstate : (s.station.received bits).blocks.link.rx = .receiving := rfl
    simp [hframes, hline, hstate])
  have hfinds : (s.station.received bits).blocks.link.finds = true ↔ bad := by
    rw [Link.finds_iff, damaged_iff, hbad, hbytes]
    rfl
  have hexec : exec (.endWindow lows) s = .next { s with station := (s.station.takeLows lows).enterWindow } := rfl
  rw [hexec, htaken, hwindow]
  refine ⟨fun h => ?_, fun h => ?_⟩
  · rw [hafter, Station.withBlocks, Blocks.withLink, if_pos (hfinds.mpr h)]
    rfl
  · rw [hafter, Station.withBlocks, Blocks.withLink, if_neg (fun hc => h (hfinds.mp hc))]
    rfl

/-! ### Contention -/

theorem messageBits_ne_nil (src : Nat) (m : Message) : messageBits src m ≠ [] := by
  simp [messageBits, messageBytes, messageHead, put8, byteBits]

theorem measure_driveOf {u : Nat} (hu : 256 ≤ u) (bit : Bool) : measure u (driveOf u bit) = cellDrive bit :=
  measure_drivenLow hu _

theorem readBit_driveOf {u : Nat} (hu : 256 ≤ u) (bit : Bool) : readBit u (driveOf u bit) = bit := by
  unfold readBit
  rw [measure_driveOf hu]
  cases bit <;> rfl

/-- A cell that no one disturbs carries the sender's bit, and the sender goes on (R168). -/
theorem contention_cons {u : Nat} (hu : 256 ≤ u) (bit : Bool) (bits : List Bool) {lows : List Nat} (h : lows.headD 0 = 0) :
    contention u (bit :: bits) lows
      = (driveOf u bit :: (contention u bits lows.tail).1, (contention u bits lows.tail).2) := by
  rw [contention, h, Nat.zero_max]
  have hwins : ¬ ((bit && decide (4 ≤ measure u (driveOf u bit))) = true) := by
    rw [measure_driveOf hu]
    cases bit <;> decide
  exact if_neg hwins

/-- Undisturbed, the whole message is on the wire. -/
theorem contention_nil {u : Nat} (hu : 256 ≤ u) (bits : List Bool) : contention u bits [] = (bits.map (driveOf u), true) := by
  induction bits with
  | nil => rfl
  | cons bit bits ih => rw [contention_cons hu bit bits rfl, List.tail_nil, ih, List.map_cons]

/-- Disturbed in the cell of a 1, the sender stops there (R168). -/
theorem contention_disturbed {u low : Nat} (hu : 256 ≤ u) (h4 : 4 ≤ measure u low) {bits : List Bool} {k : Nat}
    (hk : bits[k]? = some true) :
    contention u bits (List.replicate k 0 ++ [low]) = ((bits.take k).map (driveOf u) ++ [low], false) := by
  induction k generalizing bits with
  | zero =>
    cases bits with
    | nil => simp at hk
    | cons bit bits =>
      obtain rfl : bit = true := by simpa using hk
      have hlow : max low (driveOf u true) = low :=
        Nat.max_eq_left (drivenLow_le (by
          have hlong := (le_measure (by omega)).mp h4
          have hdrive : cellDrive true = 2 := rfl
          rw [hdrive]
          omega))
      unfold contention
      simp only [List.replicate_zero, List.nil_append, List.headD_cons, List.tail_cons, hlow, Bool.true_and]
      exact if_pos (decide_eq_true h4)
  | succ k ih =>
    cases bits with
    | nil => simp at hk
    | cons bit bits =>
      rw [contention_cons hu bit bits (by simp [List.replicate_succ])]
      have htail : (List.replicate (k + 1) 0 ++ [low]).tail = List.replicate k 0 ++ [low] := by simp [List.replicate_succ]
      rw [htail, ih (by simpa using hk)]
      rfl

section Contend

variable {st : Station} {m : Message} {rest : List Message} (hl : st.lineAsserted = false) (hf : st.mode.frames = true)
  (hs : st.blocks.link.silent = false) (hrx : st.blocks.link.rx = .idle) (hq : st.blocks.link.queue = m :: rest)
include hl hf hs hrx hq

/-- A station that contends receives the lows of the wire as one message's bits, and knows whether it sent its head whole. -/
theorem Station.contend_receives {lows : List Nat} {wire : List Nat × Bool}
    (hwire : contention st.blocks.link.unit256 (messageBits st.number m) lows = wire) (hne : wire.1 ≠ [])
    (hbits : ∀ low ∈ wire.1, measure st.blocks.link.unit256 low ≤ 7) :
    st.contend lows = st.withBlocks (fun b => b.withLink (fun l =>
      { l with rx := .receiving, errorMark := false, rxBits := wire.1.map (readBit st.blocks.link.unit256)
               sending := if wire.2 then .whole else .lost })) := by
  unfold Station.contend
  rw [if_neg (by simp [hl, hf, hs, hrx]), hq]
  dsimp only
  rw [hwire, Station.takeLows_idle hne hl hf hrx hbits]
  exact if_pos rfl

end Contend

/-- Settles O16: the wire carries the head undisturbed, or up to the bit at which it is lost; a station that may not contend
does nothing. -/
theorem contentionSendsOrLosesTheHead : Obligations.ContentionSendsOrLosesTheHead := by
  have hdrive : ∀ {u : Nat}, 256 ≤ u → ∀ bits : List Bool, ∀ low ∈ bits.map (driveOf u), measure u low ≤ 7 := by
    intro u hu bits low hlow
    obtain ⟨bit, _, rfl⟩ := List.mem_map.mp hlow
    rw [measure_driveOf hu]
    cases bit <;> decide
  have hread : ∀ {u : Nat}, 256 ≤ u → ∀ bits : List Bool, (bits.map (driveOf u)).map (readBit u) = bits := by
    intro u hu bits
    rw [List.map_map]
    exact List.map_id'' (fun bit => readBit_driveOf hu bit) bits
  have hexec : ∀ (s : State) lows, exec (.contend lows) s = .next { s with station := s.station.contend lows } := fun _ _ => rfl
  refine ⟨fun s hl hf => ⟨fun m rest hs hrx hq hu => ?_, fun lows h => ?_⟩, fun s m rest k low hl hf hs hrx hq hu hk h4 h7 => ?_⟩
  · rw [hexec, Station.contend_receives hl hf hs hrx hq (contention_nil hu _)
      (by simp [messageBits_ne_nil]) (hdrive hu _), hread hu]
    rfl
  · refine State.next_same ?_
    unfold Station.contend
    split
    · rfl
    · next hc =>
      simp only [not_or, Bool.not_eq_true, ne_eq, not_not] at hc
      obtain ⟨_, _, hsilent, hidle⟩ := hc
      have hq : s.station.blocks.link.queue = [] := by
        rcases h with h | h | h
        · simp [hsilent] at h
        · exact absurd hidle h
        · exact h
      rw [hq]
  · have hlow : readBit s.station.blocks.link.unit256 low = false := decide_eq_false (by
      have hmeasure : measure s.station.blocks.link.unit256 low = 256 * low / s.station.blocks.link.unit256 := rfl
      omega)
    rw [hexec, Station.contend_receives hl hf hs hrx hq (contention_disturbed hu h4 hk) (by simp) (fun x hx => ?_)]
    · rw [List.map_append, hread hu, List.map_singleton, hlow]
      rfl
    · rcases List.mem_append.mp hx with hx | hx
      · exact hdrive hu _ x hx
      · rw [List.mem_singleton.mp hx]
        exact h7

end Sys2Proof.Machine

/-! Requests for a page and the guard that tests them (R49, R71, R72), the activation of a button (R35 to R37), and what the
direction keys, Enter and Go make of them. -/

namespace Sys2Proof.Machine

/-! ### What a message leaves alone -/

/-- Nothing but the scene, the timers and the blocks has moved. -/
def Station.Moves (st u : Station) : Prop := u = { st with scene := u.scene, timers := u.timers, blocks := u.blocks }

theorem Station.moves_iff (st u : Station) : st.Moves u ↔ u.lineAsserted = st.lineAsserted ∧ u.number = st.number
    ∧ u.mode = st.mode ∧ u.layout = st.layout := by
  unfold Station.Moves
  cases u
  simp

theorem Station.moves_refl (st : Station) : st.Moves st := rfl

theorem Station.Moves.trans {st u v : Station} (h : st.Moves u) (k : u.Moves v) : st.Moves v := by
  obtain ⟨hl, hn, hm, hy⟩ := (st.moves_iff u).mp h
  obtain ⟨kl, kn, km, ky⟩ := (u.moves_iff v).mp k
  exact (st.moves_iff v).mpr ⟨kl.trans hl, kn.trans hn, km.trans hm, ky.trans hy⟩

/-- What the rule of a message leaves of a station that has heard it, the command leaves of the machine, but for the end of the
event. -/
theorem State.close_after {s : State} {src : Nat} {own : Option Message} {rule : Station → Station} {u : Station}
    (h : s.station.Listens) (hs : src < 6) (hr : rule (s.station.heard src own) = u)
    (hm : (s.station.heard src own).Moves u) :
    ∃ t, s.event (Station.close src own (Station.whenRunning rule)) = .next t ∧ s.After u t :=
  State.close_whenRunning_becomes h hs (hr.trans hm)

theorem State.Becomes.timers_eq {s t : State} {sc : Scene} {ti : Timers} {b : Blocks} (h : s.Becomes sc ti b t) :
    t.station.timers = ti := by
  rw [h.1]

/-- The end of an event leaves the role sets alone. -/
theorem State.Becomes.roles_eq {s t : State} {sc : Scene} {ti : Timers} {b : Blocks} (h : s.Becomes sc ti b t) :
    t.station.blocks.store.roles = b.store.roles := Store.worked_roles h.2.2.1

/-! ### The beginning of a page change, by block -/

theorem Decode.offer_pageReadySent (change : Half) (k : Strip) (d : Decode) :
    (d.offer change k).pageReadySent = d.pageReadySent := by
  unfold Decode.offer
  split
  · rfl
  · split <;> rfl

section BeginPage

variable (g : Geometry) (superseded : Option Half) (change : Half) (pls : List Placement) (b : Blocks)

theorem Blocks.beginPage_link : (b.beginPage g superseded change pls).link = b.link := by
  rw [Blocks.beginPage_eq]
  cases superseded <;> rfl

theorem Blocks.beginPage_bc : (b.beginPage g superseded change pls).bc = b.bc := by
  rw [Blocks.beginPage_eq]
  cases superseded <;> rfl

theorem Blocks.beginPage_roles :
    (b.beginPage g superseded change pls).store.roles = { b.store.roles with pending := b.store.roleSet g pls } := by
  rw [Blocks.beginPage_eq]
  cases superseded <;> rfl

theorem Blocks.beginPage_exhausted : (b.beginPage g superseded change pls).store.exhausted = false := by
  rw [Blocks.beginPage_eq]
  cases superseded <;> rfl

theorem Blocks.beginPage_pageReadySent : (b.beginPage g superseded change pls).decode.pageReadySent = false := by
  rw [Blocks.beginPage_eq]
  cases superseded <;> rfl

end BeginPage

/-! ### Requests -/

/-- A refusal touches the blocks alone: the speaker queues the Fault (R62). -/
theorem Station.refuse_eq (k : FaultKind) (c : Cause) (p q : Option Nat) (st : Station) : st.refuse k c p q = { st with
    blocks := if st.isSpeaker then st.blocks.enqueue (.fault (k.refusal c p q)) else st.blocks } := by
  unfold Station.refuse
  split <;> rfl

theorem Station.moves_refuse (k : FaultKind) (c : Cause) (p q : Option Nat) (st : Station) : st.Moves (st.refuse k c p q) := by
  rw [Station.refuse_eq]
  rfl

section Request

variable {c : Cause} {passed : Bool} {p : Nat} {body : PageBody} {st : Station}

theorem Station.request_of_none (h : st.scene.completeBody p = none) :
    st.request c passed p = (false, st.refuse .pageUnusable c (some p) none) := by
  unfold Station.request
  rw [h]

/-- A page that the guard lets through: within the allowance, asked for by a guard success, or tested by an open guard that has
no code (R49, R71). -/
theorem Station.request_of_passed (h : st.scene.completeBody p = some body)
    (hg : body.header.guardLevel ≤ st.scene.guard.allowance ∨ passed = true
      ∨ (st.scene.guard.code = none ∧ st.scene.guard.closed = false)) :
    st.request c passed p = (true, st.beginPage p body) := by
  unfold Station.request
  rw [h]
  dsimp only
  split
  · rfl
  · next hno =>
    obtain ⟨hcode, hclosed⟩ := (or_assoc.mpr hg).resolve_left hno
    rw [hclosed, hcode]
    rfl

theorem Station.request_of_closed (h : st.scene.completeBody p = some body)
    (hg : st.scene.guard.allowance < body.header.guardLevel) (hclosed : st.scene.guard.closed = true) :
    st.request c false p = (false, st.refuse .guardClosed c (some p) none) := by
  unfold Station.request
  rw [h]
  dsimp only
  rw [if_neg (by simp [hg]), if_pos hclosed]

/-- The station with a wait for the page, from the page that it shows (R72). -/
def Station.waiting (p : Nat) (st : Station) : Station :=
  st.withScene (Scene.setWait (some { target := p, origin := st.scene.shown }))

theorem Station.request_of_waiting (h : st.scene.completeBody p = some body)
    (hg : st.scene.guard.allowance < body.header.guardLevel) (hclosed : st.scene.guard.closed = false)
    (hcode : st.scene.guard.code.isSome = true) : st.request c false p = (st.waiting p).requestPrompt c := by
  unfold Station.request
  rw [h]
  dsimp only
  rw [if_neg (by simp [hg]), if_neg (by simp [hclosed]), if_neg (by simpa using Option.isSome_iff_ne_none.mp hcode)]
  rfl

theorem Station.requestPrompt_of_usable (h : st.scene.completeBody st.scene.guard.prompt = some body)
    (hg : body.header.guardLevel ≤ st.scene.guard.allowance) :
    st.requestPrompt c = (true, st.beginPage st.scene.guard.prompt body) := by
  unfold Station.requestPrompt
  rw [h]
  exact if_neg (by omega)

theorem Station.requestPrompt_of_unusable
    (h : st.scene.completeBody st.scene.guard.prompt = none
      ∨ ∃ body, st.scene.completeBody st.scene.guard.prompt = some body
        ∧ st.scene.guard.allowance < body.header.guardLevel) :
    st.requestPrompt c
      = (false, (st.withScene (Scene.setWait none)).refuse .pageUnusable c (some st.scene.guard.prompt) none) := by
  unfold Station.requestPrompt
  rcases h with h | ⟨body, h, hg⟩
  · rw [h]
  · rw [h]
    exact if_pos hg

end Request

theorem Station.moves_setWait_refuse (c : Cause) (p : Nat) (w : Option Wait) (st : Station) :
    st.Moves ((st.withScene (Scene.setWait w)).refuse .pageUnusable c (some p) none) := by
  rw [Station.refuse_eq]
  rfl

/-- A request moves the scene, the timers and the blocks alone. -/
theorem Station.moves_request (c : Cause) (passed : Bool) (p : Nat) (st : Station) :
    st.Moves (st.request c passed p).2 := by
  unfold Station.request
  split
  · exact Station.moves_refuse _ _ _ _ _
  · split
    · rfl
    · split
      · exact Station.moves_refuse _ _ _ _ _
      · split
        · rfl
        · unfold Station.requestPrompt
          split
          · exact Station.moves_setWait_refuse _ _ _ _
          · split
            · exact Station.moves_setWait_refuse _ _ _ _
            · rfl

/-! ### Activations -/

/-- Steps 1 to 4 of an activation: the button Activated, its effects applied, its Report queued (R35, R36). -/
def Station.activated (i : Nat) (b : Button) (st : Station) : Station :=
  (st.withScene (Scene.activate i b.effects)).reportActivation b

/-- The Report of an activation touches the queue alone (R36). -/
theorem Station.reportActivation_eq (b : Button) (st : Station) : st.reportActivation b = { st with
    blocks := match b.report with
      | none => st.blocks
      | some code => if st.isSpeaker then st.blocks.enqueue (.report (st.scene.activationReport b.id code)) else st.blocks } := by
  unfold Station.reportActivation
  cases b.report with
  | none => rfl
  | some code =>
    dsimp only
    split <;> rfl

section Activate

variable {c : Cause} {i : Nat} {b : Button} {st u : Station} (hb : st.scene.buttonOf i = some b)
include hb

theorem Station.activate_of_stays (hg : b.goPage = none) : st.activate c i = (false, (st.activated i b).startHold) := by
  unfold Station.activate
  rw [hb]
  dsimp only
  rw [hg]
  rfl

theorem Station.activate_of_begun {q : Nat} (hg : b.goPage = some q)
    (hr : (st.activated i b).request c false q = (true, u)) : st.activate c i = (true, u) := by
  unfold Station.activate
  rw [hb]
  dsimp only
  rw [hg]
  change (if ((st.activated i b).request c false q).1 = true then (st.activated i b).request c false q
    else (false, ((st.activated i b).request c false q).2.startHold)) = _
  rw [hr]
  rfl

theorem Station.activate_of_refused {q : Nat} (hg : b.goPage = some q)
    (hr : (st.activated i b).request c false q = (false, u)) : st.activate c i = (false, u.startHold) := by
  unfold Station.activate
  rw [hb]
  dsimp only
  rw [hg]
  change (if ((st.activated i b).request c false q).1 = true then (st.activated i b).request c false q
    else (false, ((st.activated i b).request c false q).2.startHold)) = _
  rw [hr]
  rfl

end Activate

theorem Station.moves_startHold (st : Station) : st.Moves st.startHold := by
  unfold Station.startHold
  split <;> rfl

theorem Station.moves_activated (i : Nat) (b : Button) (st : Station) : st.Moves (st.activated i b) := by
  unfold Station.activated
  rw [Station.reportActivation_eq]
  rfl

theorem Station.moves_activate (c : Cause) (i : Nat) (st : Station) : st.Moves (st.activate c i).2 := by
  unfold Station.activate
  split
  · exact st.moves_refl
  · next b _ =>
    dsimp only
    split
    · exact (st.moves_activated i b).trans (Station.moves_startHold _)
    · next q _ =>
      have hr := (st.moves_activated i b).trans (Station.moves_request c false q _)
      split
      · exact hr
      · exact hr.trans (Station.moves_startHold _)

/-! ### The Enter key -/

/-- The station after steps 1 and 2 of a Key (R25). -/
def Station.keyed (st : Station) : Station := { st with scene := st.scene.keyed }

theorem Station.pressKey_eq {c : Cause} {a : KeyAction} {st : Station} {r : Bool × Station}
    (h : st.keyed.keyAction c st.scene.chosenButton a = r) : st.pressKey c a = r.2.restartTimeout r.1 := by
  have hkeyed : st.withScene (fun sc => sc.raiseActivity.closeActivation) = st.keyed :=
    congrArg (fun sc => ({ st with scene := sc } : Station)) st.scene.raiseActivity_closeActivation
  unfold Station.pressKey
  dsimp only
  rw [hkeyed, h]

/-- The Enter key does to the machine what Enter does to the station that has heard it, and the restart of the page timeout. -/
theorem enterKey_becomes {s : State} {r : Bool × Station} {sc : Scene} {ti : Timers} {b : Blocks} (hs : s.station.Listens)
    (hshown : s.station.scene.shown.isSome = true)
    (hr : (s.station.heard 0 none).keyed.enter { kind := 0x18, src := 0 } = r)
    (hu : r.2.restartTimeout r.1 = { s.station with scene := sc, timers := ti, blocks := b }) :
    ∃ t, exec (.key 0 0x14) s = .next t ∧ s.Becomes sc ti b t := by
  rw [exec_key]
  refine State.close_whenRunning_becomes hs (by decide) ?_
  rw [Station.applyKey_of_shown _ (st := s.station.heard 0 none) hshown]
  exact (Station.pressKey_eq (a := .enter) (st := s.station.heard 0 none) hr).trans hu

theorem Station.enter_of_plain {c : Cause} {i : Nat} {st : Station} (hw : st.scene.servedWait = none)
    (hi : st.scene.numberedButton = some i ∨ (st.scene.numberedButton = none ∧ st.scene.selectedButton = some i)) :
    st.enter c = st.activate c i := by
  unfold Station.enter
  rw [hw]
  dsimp only
  unfold Station.enterPlain
  rcases hi with hi | ⟨hn, hi⟩
  · rw [hi]
  · rw [hn]
    dsimp only
    unfold Station.enterSelected
    rw [hi]

theorem Station.enter_of_guard {c : Cause} {w : Wait} {st : Station} (hw : st.scene.servedWait = some w) :
    st.enter c = st.enterGuard c w := by
  unfold Station.enter
  rw [hw]

theorem Station.enterSelected_of_some {c : Cause} {i : Nat} {st : Station} (h : st.scene.selectedButton = some i) :
    st.enterSelected c = st.activate c i := by
  unfold Station.enterSelected
  rw [h]

theorem Station.enterSelected_of_none {c : Cause} {st : Station} (h : st.scene.selectedButton = none) :
    st.enterSelected c = (false, st) := by
  unfold Station.enterSelected
  rw [h]

theorem Station.enterGuard_of_empty (c : Cause) (w : Wait) {st : Station} (h : st.scene.entry = []) :
    st.enterGuard c w = st.enterSelected c := by
  unfold Station.enterGuard
  rw [h]
  rfl

/-- The timers of a station that has activated a button and begun no page change (R25, R37, R39, R40). -/
def Timers.activated (speaker : Bool) (sc : Scene) (t : Timers) : Timers :=
  if speaker then { t with hold := some { tag := sc.activity, remaining := 8 } }.keyed true sc else t

theorem Timers.activated_speaker (sc : Scene) (t : Timers) :
    (t.activated true sc).hold = some { tag := sc.activity, remaining := 8 }
      ∧ t.activated true sc = { t with hold := (t.activated true sc).hold, pageTimeout := (t.keyed true sc).pageTimeout } := by
  unfold Timers.activated Timers.keyed
  cases sc.pageTimer <;> exact ⟨rfl, rfl⟩

theorem Station.startHold_restartTimeout (st : Station) :
    st.startHold.restartTimeout false = { st with timers := st.timers.activated st.isSpeaker st.scene } := by
  rw [Station.restartTimeout_false]
  have hkeep : st.startHold.isSpeaker = st.isSpeaker := by
    unfold Station.startHold
    split <;> rfl
  rw [hkeep]
  unfold Station.startHold Timers.activated
  cases st.isSpeaker <;> rfl

/-- Settles O25: a direction key edits the replica alone, by the move from the button chosen before the Key. -/
theorem directionKeysMoveTheSelection : Obligations.DirectionKeysMoveTheSelection := by
  intro s code d k hs hshown hcode hk
  have hread : readKey code = .move d := by
    simp only [List.mem_cons, Prod.mk.injEq, List.not_mem_nil, or_false] at hcode
    rcases hcode with ⟨rfl, rfl⟩ | ⟨rfl, rfl⟩ | ⟨rfl, rfl⟩ | ⟨rfl, rfl⟩ <;> rfl
  obtain ⟨t, ht, hb⟩ := key_becomes (f := fun sc => sc.move s.station.scene.chosenButton d) hs hshown
    (Scene.move_speaker _ _ _) (fun c st => by rw [hread]; rfl)
  rw [hk]
  refine ⟨t, _, ht, hb, Scene.move_frame _ _ _, fun ho => ?_, fun o ho => ⟨fun q hq => ?_, fun hq => ?_⟩⟩
  · rw [ho]
    rfl
  · rw [ho]
    unfold Scene.move
    dsimp only
    rw [hq]
  · rw [ho]
    unfold Scene.move
    dsimp only
    rw [hq]

/-! ### What Enter leaves of the machine -/

/-- What an activation keeps of the replica (R35). -/
theorem Scene.activate_keeps (i : Nat) (l : List WordEffect) (sc : Scene) :
    (sc.activate i l).activity = sc.activity ∧ (sc.activate i l).guard = sc.guard ∧ (sc.activate i l).shown = sc.shown
      ∧ (sc.activate i l).pageChange = sc.pageChange ∧ (sc.activate i l).pages = sc.pages := by
  rw [Scene.activate_frame]
  exact ⟨rfl, rfl, rfl, rfl, rfl⟩

theorem Scene.completeBody_congr {sc d : Scene} (h : d.pages = sc.pages) (p : Nat) : d.completeBody p = sc.completeBody p := by
  unfold Scene.completeBody
  rw [h]

/-- The timers after an activation without a page change, by role (R25, R37, R39, R40). -/
theorem Timers.activated_by_role (speaker : Bool) (sc : Scene) (t : Timers) :
    (speaker = true → (t.activated speaker sc).hold = some { tag := sc.activity, remaining := 8 }
        ∧ t.activated speaker sc
          = { t with hold := (t.activated speaker sc).hold, pageTimeout := (t.keyed true sc).pageTimeout })
      ∧ (speaker = false → t.activated speaker sc = t) := by
  refine ⟨?_, ?_⟩
  · rintro rfl
    exact Timers.activated_speaker sc t
  · rintro rfl
    rfl

section EnterKey

variable {s : State} {d : Scene} {bl : Blocks} (hs : s.station.Listens) (hshown : s.station.scene.shown.isSome = true)
  (hd : d.speaker = s.station.scene.speaker)
include hs hshown hd

/-- Enter that activates a button and begins no page change: the hold and the page timeout start in the speaker. -/
theorem enterKey_held
    (hr : (s.station.heard 0 none).keyed.enter { kind := 0x18, src := 0 }
      = (false, ({ s.station with scene := d, blocks := bl } : Station).startHold)) :
    ∃ t, exec (.key 0 0x14) s = .next t ∧ s.Becomes d (s.station.timers.activated s.station.isSpeaker d) bl t := by
  have hsp : ({ s.station with scene := d, blocks := bl } : Station).isSpeaker = s.station.isSpeaker :=
    Station.isSpeaker_congr hd rfl
  refine enterKey_becomes hs hshown hr ?_
  rw [← hsp]
  exact Station.startHold_restartTimeout _

/-- Enter that begins a change to a page: the change's timers start, and no other. -/
theorem enterKey_begins {q : Nat} {body : PageBody}
    (hr : (s.station.heard 0 none).keyed.enter { kind := 0x18, src := 0 }
      = (true, ({ s.station with scene := d, blocks := bl } : Station).beginPage q body)) :
    ∃ t, exec (.key 0 0x14) s = .next t
      ∧ s.Becomes (d.beginPage q) (s.station.timers.beginPage s.station.isSpeaker s.station.prepareLimit (d.pageChange + 1))
          (bl.beginPage s.station.geometry (d.pendingPage.map (fun _ => d.pageChange)) (d.pageChange + 1)
            (pagePlacements q body)) t := by
  have hsp : ({ s.station with scene := d, blocks := bl } : Station).isSpeaker = s.station.isSpeaker :=
    Station.isSpeaker_congr hd rfl
  refine enterKey_becomes hs hshown hr ?_
  rw [← hsp]
  unfold Station.restartTimeout
  rw [if_neg (by simp)]
  rfl

end EnterKey

/-- The store and the compositor are no part of an activation's Report (R36). -/
theorem Station.activated_blocks (i : Nat) (b : Button) (st : Station) :
    (st.activated i b).blocks.store = st.blocks.store ∧ (st.activated i b).blocks.bc = st.blocks.bc := by
  unfold Station.activated Station.reportActivation
  split
  · exact ⟨rfl, rfl⟩
  · split <;> exact ⟨rfl, rfl⟩

theorem Station.activated_scene (i : Nat) (b : Button) (st : Station) :
    (st.activated i b).scene = st.scene.activate i b.effects := by
  unfold Station.activated
  rw [Station.reportActivation_eq]
  rfl

theorem Station.activated_timers (i : Nat) (b : Button) (st : Station) : (st.activated i b).timers = st.timers := by
  unfold Station.activated
  rw [Station.reportActivation_eq]
  rfl

/-- The raising of the activity number by the Key and then by the change (R25, R50). -/
theorem Half.add_one_add_one (a : Half) : a + 1 + 1 = a + 2 := BitVec.add_assoc a 1 1

/-- Settles O26: Enter activates the button, and the request for its go page has the outcomes of R49, R71 and R72. -/
theorem enterActivatesAButton : Obligations.EnterActivatesAButton := by
  intro s i b k sc g rep begun kept refused hs hshown hk hg hbutton hb hsc hrep hbegun hkept hrefused
  obtain ⟨h, hh⟩ : ∃ h, h = (s.station.heard 0 none).keyed := ⟨_, rfl⟩
  have hscene : h.scene = k := by rw [hh, hk]; rfl
  have hb' : h.scene.buttonOf i = some b := by rw [hscene]; exact hb
  have henter : h.enter { kind := 0x18, src := 0 } = h.activate { kind := 0x18, src := 0 } i := by
    rw [← hscene] at hbutton
    rcases hbutton with ⟨hw, hi⟩ | ⟨hw, he, hi⟩
    · exact Station.enter_of_plain hw hi
    · obtain ⟨w, hw⟩ := Option.isSome_iff_exists.mp hw
      rw [Station.enter_of_guard hw, Station.enterGuard_of_empty _ _ he, Station.enterSelected_of_some hi]
  have hactivate : sc = k.activate i b.effects := hsc
  obtain ⟨ha, hgu, hsh, hpc, hpg⟩ := k.activate_keeps i b.effects
  have hsp : sc.speaker = s.station.scene.speaker := by
    rw [hactivate, Scene.activate_speaker, hk]
    rfl
  have hactivity : sc.activity = s.station.scene.activity + 1 := by rw [hactivate, ha, hk]; rfl
  have hguard : sc.guard = g := by rw [hactivate, hgu, hk, hg]; rfl
  have hchange : sc.pageChange = s.station.scene.pageChange := by rw [hactivate, hpc, hk]; rfl
  have hwas : sc.shown = s.station.scene.shown := by rw [hactivate, hsh, hk]; rfl
  have hbody : ∀ q, sc.completeBody q = s.station.scene.completeBody q := fun q =>
    Scene.completeBody_congr (by rw [hactivate, hpg, hk]; rfl) q
  have hspeaks : ({ s.station with scene := sc, blocks := rep } : Station).isSpeaker = s.station.isSpeaker :=
    Station.isSpeaker_congr hsp rfl
  have hactivated : h.activated i b = { s.station with scene := sc, blocks := rep } := by
    have hsame : (h.withScene (Scene.activate i b.effects)).isSpeaker = s.station.isSpeaker :=
      Station.isSpeaker_congr (u := h.withScene (Scene.activate i b.effects))
        ((Scene.activate_speaker i b.effects h.scene).trans (by rw [hscene, hk]; rfl)) (by rw [hh]; rfl)
    unfold Station.activated
    rw [Station.reportActivation_eq, hsame, hrep, hactivate, ← hscene, hh]
    rfl
  have hstore : rep.store = s.station.blocks.store ∧ rep.bc = s.station.blocks.bc := by
    have hsame := h.activated_blocks i b
    rw [hactivated, hh] at hsame
    exact hsame
  have hstays : ∀ (d : Scene) (bl : Blocks), d.speaker = s.station.scene.speaker → d.activity = sc.activity →
      d.pageTimer = sc.pageTimer →
      h.activate { kind := 0x18, src := 0 } i = (false, ({ s.station with scene := d, blocks := bl } : Station).startHold) →
      ∃ t ti, exec (.key 0 0x14) s = .next t ∧ s.Becomes d ti bl t ∧ kept ti := by
    intro d bl hd hda htimer hr
    obtain ⟨t, ht, hbecomes⟩ := enterKey_held hs hshown hd (hh ▸ henter.trans hr)
    have hroles := Timers.activated_by_role s.station.isSpeaker d s.station.timers
    have htimeout : (s.station.timers.keyed true d).pageTimeout = (s.station.timers.keyed true sc).pageTimeout := by
      unfold Timers.keyed
      rw [htimer]
    rw [hda, hactivity, htimeout] at hroles
    exact ⟨t, _, ht, hbecomes, (hkept _).mpr hroles⟩
  have hbegins : ∀ (d : Scene) (q : Nat) (body : PageBody), d.speaker = s.station.scene.speaker →
      d.activity = sc.activity → d.pageChange = sc.pageChange →
      h.activate { kind := 0x18, src := 0 } i = (true, ({ s.station with scene := d, blocks := rep } : Station).beginPage q body) →
      ∃ t bl, exec (.key 0 0x14) s = .next t
        ∧ s.Becomes { d with
            pageChange := s.station.scene.pageChange + 1, pendingPage := some q, pageReady := []
            activity := s.station.scene.activity + 2 } begun bl t
        ∧ bl.link = rep.link ∧ bl.bc = s.station.blocks.bc
        ∧ bl.store.roles = { s.station.blocks.store.roles with
            pending := s.station.blocks.store.roleSet s.station.geometry (pagePlacements q body) } := by
    intro d q body hd hda hdc hr
    obtain ⟨t, ht, hbecomes⟩ := enterKey_begins hs hshown hd (hh ▸ henter.trans hr)
    refine ⟨t, rep.beginPage s.station.geometry (d.pendingPage.map (fun _ => d.pageChange)) (d.pageChange + 1)
      (pagePlacements q body), ht, ?_, Blocks.beginPage_link _ _ _ _ _, (Blocks.beginPage_bc _ _ _ _ _).trans hstore.2, ?_⟩
    · rw [hbegun, ← Half.add_one_add_one, ← hactivity, ← hda, ← hchange, ← hdc]
      exact hbecomes
    · rw [Blocks.beginPage_roles, hstore.1]
  refine ⟨fun hgo => ?_, fun q body hgo hq hpass => ?_, fun q hgo hq => ?_, fun q body hgo hq hlt => ?_⟩
  · exact hstays sc rep hsp rfl rfl ((Station.activate_of_stays hb' hgo).trans (by rw [hactivated]))
  · rw [← hguard] at hpass
    refine hbegins sc q body hsp rfl rfl (Station.activate_of_begun hb' hgo ?_)
    rw [hactivated]
    exact Station.request_of_passed ((hbody q).trans hq) (hpass.imp_right .inr)
  · refine hstays sc _ hsp rfl rfl (Station.activate_of_refused hb' hgo ?_)
    rw [hactivated, Station.request_of_none ((hbody q).trans hq), Station.refuse_eq, hspeaks, hrefused]
  · rw [← hguard] at hlt ⊢
    refine ⟨fun hclosed => ?_, fun pr hclosed hcode hpr hpl => ?_, fun hclosed hcode hpr => ?_⟩
    · refine hstays sc _ hsp rfl rfl (Station.activate_of_refused hb' hgo ?_)
      rw [hactivated, Station.request_of_closed ((hbody q).trans hq) hlt hclosed, Station.refuse_eq, hspeaks, hrefused]
    · have hr : h.activate { kind := 0x18, src := 0 } i = _ := Station.activate_of_begun hb' hgo (by
        rw [hactivated, Station.request_of_waiting ((hbody q).trans hq) hlt hclosed hcode]
        exact Station.requestPrompt_of_usable ((hbody _).trans hpr) hpl)
      obtain ⟨t, bl, ht, hbecomes, hlink, _, hroles⟩ := hbegins
        (sc.setWait (some { target := q, origin := sc.shown })) sc.guard.prompt pr hsp rfl rfl hr
      rw [← hwas]
      exact ⟨t, bl, ht, hbecomes, hlink, by rw [hroles]⟩
    · have hno : h.activate { kind := 0x18, src := 0 } i = _ := Station.activate_of_refused hb' hgo (by
        rw [hactivated, Station.request_of_waiting ((hbody q).trans hq) hlt hclosed hcode]
        exact Station.requestPrompt_of_unusable (hpr.imp (hbody _).trans (fun ⟨pr, hpr, hpl⟩ => ⟨pr, (hbody _).trans hpr, hpl⟩)))
      refine hstays (sc.setWait none) _ hsp rfl rfl (hno.trans ?_)
      rw [Station.refuse_eq, hrefused, ← hspeaks]
      rfl

end Sys2Proof.Machine

/-! Go (R48), the guard's Enter and its settings (R69, R70, R73 to R76), and the action of an Expire for the shown page (R41 to
R43). -/

namespace Sys2Proof.Machine

/-! ### Go -/

theorem exec_go (src p : Nat) (s : State) :
    exec (.go src p) s = s.event (Station.close src none (Station.whenRunning (Station.applyGo src p))) := rfl

theorem Station.applyGo_of_le {p : Nat} (h : p ≤ 63) (st : Station) :
    st.applyGo 0 p = (st.request { kind := 0x1A, src := 0 } false p).2 := by
  unfold Station.applyGo
  rw [if_neg (by simp), if_neg (by omega)]
  rfl

theorem Station.applyGo_of_gt {p : Nat} (h : 63 < p) (st : Station) :
    st.applyGo 0 p = st.refuse .pageUnusable { kind := 0x1A, src := 0 } (some p) none := by
  unfold Station.applyGo
  rw [if_neg (by simp), if_pos h]
  rfl

/-- A Go that is refused leaves the Fault that the refusal names. -/
theorem go_refused {s : State} {p : Nat} {k : FaultKind} {q : Nat} (hs : s.station.Listens)
    (hr : (s.station.heard 0 none).applyGo 0 p
      = (s.station.heard 0 none).refuse k { kind := 0x1A, src := 0 } (some q) none) :
    ∃ t, exec (.go 0 p) s = .next t
      ∧ s.Becomes s.station.scene s.station.timers (s.station.refusal k 0x1A (some q) none 0) t := by
  rw [exec_go]
  exact State.close_whenRunning_becomes hs (by decide) (hr.trans (Station.refuse_heard k 0x1A 0 (some q) none s.station))

/-- A page above 63 is no record of the table (R3). -/
theorem go_unusable {s : State} {p : Nat} (hs : s.station.Listens) (h : 63 < p ∨ s.station.scene.completeBody p = none) :
    ∃ t, exec (.go 0 p) s = .next t
      ∧ s.Becomes s.station.scene s.station.timers (s.station.refusal .pageUnusable 0x1A (some p) none 0) t := by
  refine go_refused hs ?_
  by_cases hp : 63 < p
  · exact Station.applyGo_of_gt hp _
  · have hnone : (s.station.heard 0 none).scene.completeBody p = none := h.resolve_left hp
    rw [Station.applyGo_of_le (by omega), Station.request_of_none hnone]

/-- Settles O29: the refused Gos by the test that refuses them, the waiting ones by whether the prompt page can be shown. -/
theorem goThatIsRefusedOrWaits : Obligations.GoThatIsRefusedOrWaits := by
  refine ⟨fun s p hs => ⟨go_unusable hs, fun pg hp hpg hlt hclosed => ?_, fun src hsrc => ?_⟩,
    fun s p pg g hs hp hpg hg hlt hclosed hcode => ?_⟩
  · refine go_refused hs ?_
    rw [Station.applyGo_of_le hp, Station.request_of_closed (st := s.station.heard 0 none) hpg hlt hclosed]
  · exact State.close_ignoredRunning hs (if_pos hsrc)
  · subst hg
    have hwaits : (s.station.heard 0 none).applyGo 0 p
        = (((s.station.heard 0 none).waiting p).requestPrompt { kind := 0x1A, src := 0 }).2 := by
      rw [Station.applyGo_of_le hp, Station.request_of_waiting (st := s.station.heard 0 none) hpg hlt hclosed hcode]
    refine ⟨fun pr hpr hpl => ?_, fun hpr => ?_⟩
    · have hrule := hwaits.trans (congrArg Prod.snd (Station.requestPrompt_of_usable (c := { kind := 0x1A, src := 0 })
        (st := (s.station.heard 0 none).waiting p) hpr hpl))
      obtain ⟨t, ht, hb⟩ := State.close_after hs (by decide) hrule rfl
      refine ⟨t, ht, hb.scene_eq, ?_⟩
      rw [hb.roles_eq]
      exact congrArg Roles.pending (Blocks.beginPage_roles _ _ _ _ _)
    · have hrule := hwaits.trans (congrArg Prod.snd (Station.requestPrompt_of_unusable (c := { kind := 0x1A, src := 0 })
        (st := (s.station.heard 0 none).waiting p) hpr))
      rw [Station.refuse_eq] at hrule
      exact State.close_whenRunning_becomes hs (by decide) hrule

/-! ### The guard's settings -/

theorem exec_guardSet (src : Nat) (code : Half) (allowance prompt : Nat) (s : State) :
    exec (.guardSet src code allowance prompt) s
      = s.event (Station.close src none (Station.whenRunning (Station.applyGuardSet src code allowance prompt))) := rfl

/-- The code that a Guard Set's field stands for: absent, or four digits (R69). -/
theorem readCode_of_digits {code : Half} (h : code = 0xFFFF ∨ ∀ d ∈ codeDigits code, d ≤ 9) :
    readCode code = some (if code = 0xFFFF then none else some (codeDigits code)) := by
  unfold readCode
  split
  · rfl
  · next hne =>
    have hall : (codeDigits code).all (fun d => decide (d ≤ 9)) = true :=
      List.all_eq_true.mpr fun d hd => decide_eq_true (h.resolve_left hne d hd)
    rw [if_pos hall]

theorem readCode_of_not_digits {code : Half} (hne : code ≠ 0xFFFF) (h : ∃ d ∈ codeDigits code, 9 < d) :
    readCode code = none := by
  obtain ⟨d, hd, hgt⟩ := h
  unfold readCode
  rw [if_neg hne, if_neg]
  intro hall
  have := of_decide_eq_true (List.all_eq_true.mp hall d hd)
  omega

section GuardSet

variable {src : Nat} {code : Half} {allowance prompt : Nat} {st : Station} (hsrc : src ≤ 1)
include hsrc

theorem Station.applyGuardSet_frozen (h : st.scene.guard.frozen = true) :
    st.applyGuardSet src code allowance prompt = st.refuse .guardFrozen { kind := 0x20, src := src } none none := by
  unfold Station.applyGuardSet
  rw [if_neg (by omega), if_pos h]
  rfl

theorem Station.applyGuardSet_outOfRange (h : st.scene.guard.frozen = false)
    (hr : (code ≠ 0xFFFF ∧ ∃ d ∈ codeDigits code, 9 < d) ∨ 7 < allowance ∨ 63 < prompt) :
    st.applyGuardSet src code allowance prompt = st.refuse .badDefinition { kind := 0x20, src := src } none none := by
  unfold Station.applyGuardSet
  rw [if_neg (by omega), if_neg (by simp [h])]
  split
  · rfl
  · next digits hdigits =>
    rcases hr with ⟨hne, hd⟩ | hr
    · rw [readCode_of_not_digits hne hd] at hdigits
      exact absurd hdigits (by simp)
    · rw [if_pos hr]
      rfl

theorem Station.applyGuardSet_taken (h : st.scene.guard.frozen = false)
    (hc : code = 0xFFFF ∨ ∀ d ∈ codeDigits code, d ≤ 9) (ha : allowance ≤ 7) (hp : prompt ≤ 63) :
    st.applyGuardSet src code allowance prompt = st.withScene (fun sc => { sc with
      guard := { sc.guard with
        code := if code = 0xFFFF then none else some (codeDigits code), allowance := allowance, prompt := prompt } }) := by
  unfold Station.applyGuardSet
  rw [if_neg (by omega), if_neg (by simp [h]), readCode_of_digits hc]
  exact if_neg (by omega)

end GuardSet

/-- Settles O31: Guard Set by the order of its tests, Guard Freeze by its source. -/
theorem guardIsSetAndFrozen : Obligations.GuardIsSetAndFrozen := by
  refine ⟨fun s src code allowance prompt outOfRange hs hsrc hrange =>
    ⟨fun hf => ?_, fun hf hout => ?_, fun hf hin => ?_, fun other hother => ?_⟩, fun s src hs => ⟨?_, fun hsrc => ?_⟩⟩
  · exact State.close_whenRunning_becomes hs (by omega)
      ((Station.applyGuardSet_frozen (st := s.station.heard src none) hsrc hf).trans (Station.refuse_heard _ _ _ _ _ _))
  · exact State.close_whenRunning_becomes hs (by omega)
      ((Station.applyGuardSet_outOfRange (st := s.station.heard src none) hsrc hf (hrange.mp hout)).trans
        (Station.refuse_heard _ _ _ _ _ _))
  · rw [hrange, not_or, not_or, not_and, not_lt, not_lt] at hin
    obtain ⟨hcode, ha, hp⟩ := hin
    refine State.close_whenRunning_becomes hs (by omega)
      (Station.applyGuardSet_taken (st := s.station.heard src none) hsrc hf ?_ ha hp)
    refine or_iff_not_imp_left.mpr fun hne d hd => ?_
    exact Nat.le_of_not_lt fun hgt => hcode hne ⟨d, hd, hgt⟩
  · exact State.close_ignoredRunning hs (if_pos hother)
  · exact State.close_whenRunning_becomes hs (by decide) (if_pos rfl)
  · exact State.close_ignoredRunning hs (if_neg hsrc)

/-! ### The guard's Enter -/

section EnterGuard

variable {c : Cause} {w : Wait} {st : Station}

theorem Station.enterGuard_of_few (h1 : 1 ≤ st.scene.entry.length) (h4 : st.scene.entry.length < 4) :
    st.enterGuard c w = (false, st) := by
  have hne : st.scene.entry.isEmpty = false := by
    rw [List.isEmpty_eq_false_iff, ← List.length_pos_iff]
    exact h1
  unfold Station.enterGuard
  rw [hne, if_neg (by simp), if_pos h4]

variable (h4 : st.scene.entry.length = 4)
include h4

theorem Station.enterGuard_of_full : st.enterGuard c w
    = if st.scene.guard.passes st.scene.entry then (st.withScene Scene.guardSuccess).request c true w.target
      else st.refuseCode c w := by
  have hne : st.scene.entry.isEmpty = false := by
    rw [List.isEmpty_eq_false_iff, ← List.length_pos_iff, h4]
    decide
  unfold Station.enterGuard
  rw [hne, if_neg (by simp), if_neg (by omega)]

theorem Station.enterGuard_of_passes (h : st.scene.guard.code = none ∨ st.scene.guard.code = some st.scene.entry) :
    st.enterGuard c w = (st.withScene Scene.guardSuccess).request c true w.target := by
  rw [Station.enterGuard_of_full h4, if_pos]
  unfold Guard.passes
  rcases h with h | h
  · rw [h]
  · rw [h]
    exact decide_eq_true rfl

theorem Station.enterGuard_of_wrong {code : List Nat} (h : st.scene.guard.code = some code) (hne : code ≠ st.scene.entry) :
    st.enterGuard c w = st.refuseCode c w := by
  rw [Station.enterGuard_of_full h4, if_neg]
  unfold Guard.passes
  rw [h]
  simp [Ne.symm hne]

end EnterGuard

/-- The Report of a wrong code touches the queue alone (R75). -/
theorem Station.reportRefused_eq (target : Nat) (st : Station) : st.reportRefused target = { st with
    blocks := if st.isSpeaker then st.blocks.enqueue (.report (st.scene.refusedReport target)) else st.blocks } := by
  unfold Station.reportRefused
  split <;> rfl

section RefuseCode

variable {c : Cause} {w : Wait} {st : Station}

theorem Station.refuseCode_of_left (h : 2 ≤ st.scene.guard.attempts) :
    st.refuseCode c w = (false, (st.withScene Scene.spendAttempt).reportRefused w.target) := by
  rw [Station.refuseCode_eq]
  exact if_neg (by
    change ¬ st.scene.guard.attempts - 1 = 0
    omega)

theorem Station.refuseCode_of_last (h : st.scene.guard.attempts = 1) :
    st.refuseCode c w = (((st.withScene Scene.spendAttempt).reportRefused w.target).withScene Scene.closeGuard).returnToOrigin
      c w := by
  rw [Station.refuseCode_eq]
  exact if_pos (by
    change st.scene.guard.attempts - 1 = 0
    omega)

end RefuseCode

/-- Enter that begins no page change restarts the page timeout, as every such Key does (R25). -/
theorem enterKey_stays {s : State} {d : Scene} {bl : Blocks} (hs : s.station.Listens)
    (hshown : s.station.scene.shown.isSome = true) (hd : d.speaker = s.station.scene.speaker)
    (hr : (s.station.heard 0 none).keyed.enter { kind := 0x18, src := 0 }
      = (false, { s.station with scene := d, blocks := bl })) :
    ∃ t, exec (.key 0 0x14) s = .next t ∧ s.Becomes d (s.station.timers.keyed s.station.isSpeaker d) bl t := by
  have hsp : ({ s.station with scene := d, blocks := bl } : Station).isSpeaker = s.station.isSpeaker :=
    Station.isSpeaker_congr hd rfl
  refine enterKey_becomes hs hshown hr ?_
  rw [Station.restartTimeout_false, hsp]

/-- Settles O30, by the digits entered, by whether they are the code, and by the attempts left. -/
theorem guardComparesFourDigits : Obligations.GuardComparesFourDigits := by
  intro s w k rep fail begun hs hshown hk hprompt hwait hrep hfail hbegun
  obtain ⟨h, hh⟩ : ∃ h, h = (s.station.heard 0 none).keyed := ⟨_, rfl⟩
  have hscene : h.scene = k := by rw [hh, hk]; rfl
  have hstation : h = { s.station with scene := k, blocks := s.station.closed 0 none } := by rw [hh, hk]; rfl
  have hsp : k.speaker = s.station.scene.speaker := by rw [hk]; rfl
  have henter : h.enter { kind := 0x18, src := 0 } = h.enterGuard { kind := 0x18, src := 0 } w := by
    refine Station.enter_of_guard ?_
    rw [hscene]
    unfold Scene.servedWait
    rw [if_pos hprompt, hwait]
  have hspeaks : ∀ (d : Scene) (bl : Blocks), d.speaker = s.station.scene.speaker →
      ({ s.station with scene := d, blocks := bl } : Station).isSpeaker = s.station.isSpeaker :=
    fun d bl hd => Station.isSpeaker_congr hd rfl
  have hreported : ∀ left, k.guard.attempts - 1 = left → (h.withScene Scene.spendAttempt).reportRefused w.target
      = { s.station with scene := k.spendAttempt, blocks := rep left } := by
    intro left hleft
    rw [Station.reportRefused_eq, hstation, hrep, ← hleft]
    unfold Station.withScene Scene.refusedReport
    rw [hspeaks _ _ (show k.spendAttempt.speaker = _ from hsp)]
    change ({ s.station with scene := k.spendAttempt, blocks := _ } : Station) = _
    rw [show k.spendAttempt.shown = some k.guard.prompt from hprompt]
    rfl
  have hstay : ∀ (d : Scene) (bl : Blocks), d.speaker = s.station.scene.speaker →
      h.enterGuard { kind := 0x18, src := 0 } w = (false, { s.station with scene := d, blocks := bl }) →
      ∃ t, exec (.key 0 0x14) s = .next t ∧ s.Becomes d (s.station.timers.keyed s.station.isSpeaker d) bl t :=
    fun d bl hd hr => enterKey_stays hs hshown hd (hh ▸ henter.trans hr)
  have hbegin : ∀ (d : Scene) (bl : Blocks) (q : Nat) (body : PageBody), d.speaker = s.station.scene.speaker →
      d.pageChange = k.pageChange → h.enterGuard { kind := 0x18, src := 0 } w
        = (true, ({ s.station with scene := d, blocks := bl } : Station).beginPage q body) →
      ∃ t, exec (.key 0 0x14) s = .next t ∧ s.Becomes (d.beginPage q) begun
        (bl.beginPage s.station.geometry (d.pendingPage.map (fun _ => d.pageChange)) (d.pageChange + 1)
          (pagePlacements q body)) t := by
    intro d bl q body hd hc hr
    have hentered := enterKey_begins hs hshown hd (hh ▸ henter.trans hr)
    rw [hbegun, ← hc]
    exact hentered
  have hrefuse : ∀ (f : FaultKind) (p : Nat) (d : Scene) (bl : Blocks), d.speaker = s.station.scene.speaker →
      ({ s.station with scene := d, blocks := bl } : Station).refuse f { kind := 0x18, src := 0 } (some p) none
        = { s.station with
            scene := d
            blocks := if s.station.isSpeaker then bl.enqueue (.fault (f.refusal { kind := 0x18, src := 0 } (some p) none))
              else bl } := fun f p d bl hd => by rw [Station.refuse_eq, hspeaks d bl hd]
  refine ⟨fun hfew => ?_, fun pg h4 hcode hpg => ?_, fun h4 hcode hpg => ?_, fun code h4 hcode hne hleft => ?_,
    fun code h4 hcode hne hlast => ?_⟩
  · refine hstay k _ hsp ((?_ : _ = (false, h)).trans (by rw [hstation]))
    rw [← hscene] at hfew
    rcases hfew with ⟨h1, h4⟩ | ⟨he, hsel⟩
    · exact Station.enterGuard_of_few h1 h4
    · rw [Station.enterGuard_of_empty _ _ he, Station.enterSelected_of_none hsel]
  · rw [← hscene] at h4 hcode
    obtain ⟨t, ht, hb⟩ := hbegin k.guardSuccess (s.station.closed 0 none) w.target pg hsp rfl (by
      rw [Station.enterGuard_of_passes h4 hcode, hstation]
      exact Station.request_of_passed hpg (.inr (.inl rfl)))
    exact ⟨t, ht, hb.scene_eq, hb.timers_eq⟩
  · rw [← hscene] at h4 hcode
    obtain ⟨t, ht, hb⟩ := hstay k.guardSuccess (s.station.refusal .pageUnusable 0x18 (some w.target) none 0) hsp (by
      rw [Station.enterGuard_of_passes h4 hcode, hstation]
      exact (Station.request_of_none hpg).trans (by exact congrArg (Prod.mk false) (hrefuse _ _ k.guardSuccess _ hsp)))
    exact ⟨t, _, ht, rfl, hb⟩
  · rw [← hscene] at h4 hcode hne hleft
    obtain ⟨t, ht, hb⟩ := hstay k.spendAttempt (rep (k.guard.attempts - 1)) hsp (by
      rw [Station.enterGuard_of_wrong h4 hcode hne, Station.refuseCode_of_left hleft, hreported _ rfl])
    exact ⟨t, _, ht, rfl, hb⟩
  · have hfailSpeaker : fail.speaker = s.station.scene.speaker := by rw [hfail]; exact hsp
    have hfailed : (({ s.station with scene := k.spendAttempt, blocks := rep 0 } : Station).withScene Scene.closeGuard)
        = { s.station with scene := fail, blocks := rep 0 } := by
      unfold Station.withScene Scene.closeGuard Scene.spendAttempt
      rw [hfail, hlast]
    have hclosing : h.enterGuard { kind := 0x18, src := 0 } w
        = ({ s.station with scene := fail, blocks := rep 0 } : Station).returnToOrigin { kind := 0x18, src := 0 } w := by
      rw [← hscene] at h4 hcode hne
      rw [Station.enterGuard_of_wrong h4 hcode hne, Station.refuseCode_of_last (hscene ▸ hlast), hreported 0 (by rw [hlast]),
        hfailed]
    have hguard : fail.guard = { k.guard with attempts := 0, closed := true, wait := none } := by rw [hfail]
    have hpages : ∀ o, fail.completeBody o = k.completeBody o := Scene.completeBody_congr (by rw [hfail])
    have hreturn : ∀ o, w.origin = some o → h.enterGuard { kind := 0x18, src := 0 } w
        = ({ s.station with scene := fail, blocks := rep 0 } : Station).request { kind := 0x18, src := 0 } false o :=
      fun o ho => by
        rw [hclosing]
        unfold Station.returnToOrigin
        rw [ho]
    refine ⟨fun ho => ?_, fun o ho hpg => ?_, fun o pg ho hpg hlt => ?_, fun o pg ho hpg hle => ?_⟩
    · refine hstay fail _ hfailSpeaker ?_
      rw [hclosing]
      unfold Station.returnToOrigin
      rw [ho]
    · refine hstay fail _ hfailSpeaker ((hreturn o ho).trans ?_)
      rw [Station.request_of_none ((hpages o).trans hpg), hrefuse _ _ _ _ hfailSpeaker]
    · refine hstay fail _ hfailSpeaker ((hreturn o ho).trans ?_)
      rw [Station.request_of_closed ((hpages o).trans hpg) (by rw [hguard]; exact hlt) (by rw [hguard]),
        hrefuse _ _ _ _ hfailSpeaker]
    · obtain ⟨t, ht, hb⟩ := hbegin fail (rep 0) o pg hfailSpeaker (by rw [hfail]) ((hreturn o ho).trans
        (Station.request_of_passed ((hpages o).trans hpg) (.inl (by rw [hguard]; exact hle))))
      refine ⟨t, _, ht, ?_, Blocks.beginPage_link s.station.geometry (fail.pendingPage.map (fun _ => fail.pageChange))
        (fail.pageChange + 1) (pagePlacements o pg) (rep 0)⟩
      have hcounts : k.pageChange = fail.pageChange ∧ k.activity = fail.activity := by rw [hfail]; exact ⟨rfl, rfl⟩
      rw [hcounts.1, hcounts.2]
      exact hb

/-! ### Expire -/

theorem exec_expire (src : Nat) (b : ExpireBody) (s : State) :
    exec (.expire src b) s
      = s.event (Station.close src (some (.expire b)) (Station.whenRunning (Station.applyExpire src b))) := rfl

section ValidExpire

variable {src : Nat} {st : Station} (hsp : st.scene.speaker = some src)
include hsp

theorem Station.applyExpire_timeout (hs : st.scene.shown.isSome = true) :
    st.applyExpire src { timer := 0, tag := st.scene.activity } = st.takeTimeout { kind := 0x0C, src := src } := by
  unfold Station.applyExpire
  rw [if_neg (not_not.mpr hsp)]
  exact if_pos ⟨rfl, hs⟩

theorem Station.applyExpire_hold (ha : st.scene.activatedButton.isSome = true) :
    st.applyExpire src { timer := 1, tag := st.scene.activity } = st.withScene Scene.closeActivation := by
  unfold Station.applyExpire
  rw [if_neg (not_not.mpr hsp)]
  exact if_pos ⟨rfl, ha⟩

theorem Station.applyExpire_duration (hp : st.scene.show_ = .playing) (hh : st.scene.held = false) :
    st.applyExpire src { timer := 2, tag := st.scene.slideChange } = st.advanceShow := by
  unfold Station.applyExpire
  rw [if_neg (not_not.mpr hsp)]
  exact if_pos ⟨rfl, hp, hh⟩

end ValidExpire

/-- Settles O35: the valid Expire by whether its button is enabled, the stale one by the test that it fails. -/
theorem holdExpireOrStaleExpire : Obligations.HoldExpireOrStaleExpire := by
  refine ⟨fun s src i l own hs hsrc hsp ha hl hown => ?_, fun s src body hs hstale => State.close_ignoredRunning hs ?_⟩
  · have hclose : s.station.scene.closeActivation = { s.station.scene with
        live := markOnly (if l.enabled then some i else s.station.scene.defaultChoice) .selected 0 s.station.scene.live } := by
      cases he : l.enabled with
      | true => exact Scene.closeActivation_of_enabled ha ((enabledAt_of_getElem? hl).trans he)
      | false => exact Scene.closeActivation_of_disabled ha ((enabledAt_of_getElem? hl).trans he)
    rw [exec_expire, ← hown]
    refine State.close_whenRunning_becomes hs hsrc ?_
    have hrule : (s.station.heard src own).applyExpire src { timer := 1, tag := s.station.scene.activity } = _ :=
      Station.applyExpire_hold (st := s.station.heard src own) hsp (Option.isSome_iff_exists.mpr ⟨i, ha⟩)
    rw [hrule, ← hclose]
    rfl
  · unfold Station.applyExpire
    split
    · rfl
    · next hsp =>
      have hstale := hstale.resolve_left hsp
      split
      · next h0 =>
        rw [if_neg]
        rintro ⟨htag, hshown⟩
        rcases hstale with hbig | ⟨_, ht⟩ | ⟨h1, _⟩ | ⟨h2, _⟩
        · omega
        · rcases ht with ht | ht
          · exact ht htag
          · rw [show (s.station.heard src _).scene.shown = _ from ht] at hshown
            exact absurd hshown (by simp)
        · omega
        · omega
      · next h1 =>
        rw [if_neg]
        rintro ⟨htag, hactive⟩
        rcases hstale with hbig | ⟨h0, _⟩ | ⟨_, ht⟩ | ⟨h2, _⟩
        · omega
        · omega
        · rcases ht with ht | ht
          · exact ht htag
          · rw [show (s.station.heard src _).scene.activatedButton = _ from ht] at hactive
            exact absurd hactive (by simp)
        · omega
      · next h2 =>
        rw [if_neg]
        rintro ⟨htag, hplaying, hheld⟩
        rcases hstale with hbig | ⟨h0, _⟩ | ⟨h1, _⟩ | ⟨_, ht⟩
        · omega
        · omega
        · omega
        · rcases ht with ht | ht | ht
          · exact ht htag
          · exact ht hplaying
          · rw [show (s.station.heard src _).scene.held = _ from ht] at hheld
            exact absurd hheld (by simp)
      · rfl

theorem Station.enqueueAll_eq (ms : List Message) (st : Station) :
    st.enqueueAll ms = { st with blocks := (st.enqueueAll ms).blocks } := by
  induction ms generalizing st with
  | nil => rfl
  | cons m ms ih => exact ih (st.enqueue m)

theorem Station.moves_hitTagged (cues : List Cue) (tag : Option Nat) (i : Nat) (st : Station) :
    st.Moves (st.hitTagged cues tag i) := by
  unfold Station.hitTagged
  split
  · rfl
  · split
    · rw [Station.enqueueAll_eq]
      rfl
    · rfl

theorem Station.moves_beginSlide (i : Nat) (st : Station) : st.Moves (st.beginSlide i) := by
  unfold Station.beginSlide
  split
  · rfl
  · exact Station.Moves.trans (u := ((st.withScene _).withTimers _).withBlocks _) rfl (Station.moves_hitTagged _ _ _ _)

theorem Station.moves_enterSelected (c : Cause) (st : Station) : st.Moves (st.enterSelected c).2 := by
  unfold Station.enterSelected
  split
  · rfl
  · exact Station.moves_activate _ _ _

theorem Station.moves_timeoutAction (c : Cause) (a : OnTimeout) (st : Station) : st.Moves (st.timeoutAction c a) := by
  cases a with
  | none => rfl
  | go q => exact Station.moves_request _ _ _ _
  | activateSelected => exact Station.moves_enterSelected _ _

/-- The next entry of a show that an Expire advances, or its end (R90). -/
theorem Station.advanceShow_of_some {st : Station} {j : Nat} (h : st.scene.nextIndex st.scene.current = some j) :
    st.advanceShow = st.beginSlide j := by
  unfold Station.advanceShow
  rw [h]

theorem Station.advanceShow_of_none {st : Station} (h : st.scene.nextIndex st.scene.current = none) :
    st.advanceShow = { st with
      scene := { st.scene with show_ := .paused }
      timers := if st.isSpeaker then { st.timers with remaining := none } else st.timers } := by
  unfold Station.advanceShow
  rw [h]
  dsimp only
  split <;> rfl

/-- Settles O36: the on-timeout action by its kind and the outcomes of a request, the advance by the next entry. -/
theorem timeoutAndDurationExpiresAct : Obligations.TimeoutAndDurationExpiresAct := by
  refine ⟨fun s src pg h g refused hs hsrc hsp hpg hh hg hrefused => ?_, fun s src h hs hsrc hsp hplay hheld hh =>
    ⟨fun j hj => ?_, fun hj => ?_⟩⟩
  · have hscene : h.scene = s.station.scene := by rw [hh]; rfl
    have hspeaks : h.isSpeaker = s.station.isSpeaker := by rw [hh]; rfl
    have hrefuse : ∀ (f : FaultKind) (p : Nat) (u : Station), u.isSpeaker = s.station.isSpeaker →
        u.refuse f { kind := 0x0C, src := src } (some p) none = refused f p u := fun f p u hu => by
      rw [hrefused, ← hu]
      rfl
    have hshown : s.station.scene.shown.isSome = true := by
      unfold Scene.shownBody at hpg
      cases hsh : s.station.scene.shown with
      | none => simp [hsh] at hpg
      | some p => rfl
    have hrule : (s.station.heard src (some (.expire { timer := 0, tag := s.station.scene.activity }))).applyExpire src
        { timer := 0, tag := s.station.scene.activity } = h.timeoutAction { kind := 0x0C, src := src } pg.header.onTimeout := by
      rw [← hscene] at hsp hshown hpg ⊢
      rw [hscene, ← hh, ← hscene, Station.applyExpire_timeout hsp hshown]
      unfold Station.takeTimeout
      rw [hpg]
    obtain ⟨t, ht, hb⟩ := State.close_after hs hsrc hrule (hh ▸ Station.moves_timeoutAction _ _ _)
    have hgo : ∀ q, pg.header.onTimeout = .go q → h.timeoutAction { kind := 0x0C, src := src } pg.header.onTimeout
        = (h.request { kind := 0x0C, src := src } false q).2 := fun q hq => by rw [hq]; rfl
    subst hg
    have hexec : exec (.expire src { timer := 0, tag := h.scene.activity }) s = .next t := by
      rw [hscene]
      exact ht
    rw [← hscene]
    refine ⟨t, _, hexec, hb, fun hn => by rw [hn]; rfl, fun q body hq hbody hpass => ?_, fun q hq hbody => ?_,
      fun q body hq hbody hlt => ⟨fun hclosed => ?_, fun pr hclosed hcode hpr hpl => ?_, fun hclosed hcode hpr => ?_⟩,
      fun hact hsel => ?_, fun i hact hsel => ?_⟩
    · rw [hgo q hq, Station.request_of_passed hbody (hpass.imp_right .inr)]
    · rw [hgo q hq, Station.request_of_none hbody, hrefuse _ _ _ hspeaks]
    · rw [hgo q hq, Station.request_of_closed hbody hlt hclosed, hrefuse _ _ _ hspeaks]
    · rw [hgo q hq, Station.request_of_waiting hbody hlt hclosed hcode,
        Station.requestPrompt_of_usable (st := h.waiting q) hpr hpl]
      rfl
    · rw [hgo q hq, Station.request_of_waiting hbody hlt hclosed hcode,
        Station.requestPrompt_of_unusable (st := h.waiting q) hpr]
      exact hrefuse _ _ ((h.waiting q).withScene (Scene.setWait none)) hspeaks
    · rw [hact]
      exact congrArg Prod.snd (Station.enterSelected_of_none hsel)
    · rw [hact]
      exact congrArg Prod.snd (Station.enterSelected_of_some hsel)
  · have hrule : (s.station.heard src (some (.expire { timer := 2, tag := s.station.scene.slideChange }))).applyExpire src
        { timer := 2, tag := s.station.scene.slideChange } = h.beginSlide j := by
      rw [hh]
      exact (Station.applyExpire_duration (st := s.station.heard src _) hsp hplay hheld).trans
        (Station.advanceShow_of_some hj)
    exact State.close_after hs hsrc hrule (hh ▸ Station.moves_beginSlide _ _)
  · subst hh
    exact State.close_whenRunning_becomes hs hsrc ((Station.applyExpire_duration (st := s.station.heard src _) hsp hplay
      hheld).trans (Station.advanceShow_of_none (st := s.station.heard src _) hj))

end Sys2Proof.Machine

/-! The end of an event as a run of small acts (R54, R93, R116 to R120, R124 to R137): what every act keeps, the whole end of the
event keeps. With it, what the end of an event does in Link Silent, and which jobs it leaves. -/

namespace Sys2Proof.Machine

/-! ### The acts -/

/-- One act of the work that ends an event. -/
inductive Blocks.Acts (sc : Scene) (b : Blocks) : Blocks → Prop
  /-- The Want list is changed. -/
  | wants (f : List WantRange → List WantRange) : Acts sc b (b.withStore (Store.withWants f))
  /-- The room-wait list and the exhaustion mark are changed. -/
  | room (l : List RoomWait) (x : Bool) : Acts sc b (b.withStore (fun s => { s with roomWait := l, exhausted := x }))
  /-- A message is queued. -/
  | queue {m : Message} (h : m.endsEvent = true) : Acts sc b (b.enqueue m)
  /-- A strip of the pending or of the shown page is offered as a job. -/
  | offer {k : Strip} (h : k ∈ b.store.roles.pending.strips ∨ k ∈ b.store.roles.shown.strips) :
      Acts sc b (b.withDecode (Decode.offer sc.pageChange k))
  /-- The Decode Unit moves on, without a new job and without a removed batch. -/
  | decode {f : Decode → Decode} (hj : ∀ j ∈ (f b.decode).pageJobs, j ∈ b.decode.pageJobs)
      (hr : ∀ q i, (f b.decode).running = some (.batch q i true) → b.decode.running = some (.batch q i true)) :
      Acts sc b (b.withDecode f)
  /-- An Open entry is evicted. -/
  | dropOpened {working : Option Strip} {e : Opened} (h : e ∈ b.store.openCandidates working) :
      Acts sc b (b.withStore (Store.dropOpened e.id))
  /-- A Packed entry is evicted. -/
  | evictPacked {working : Option Strip} {e : Packed} (h : e ∈ b.store.packedCandidates working) :
      Acts sc b (b.evictPacked e.id)
  /-- The Open entry of a Held strip is made, in Decoding. -/
  | open_ {e : Opened} (hh : b.store.isHeld e.id = true) (hn : b.store.findOpened e.id = none) (hr : e.ready = false) :
      Acts sc b (b.withStore (Store.setOpened e))
  /-- The back surface is written. -/
  | back (f : Surface → Surface) : Acts sc b (b.withBc (fun c => { c with back := f c.back }))
  /-- A Want is queued from the list. -/
  | want {w : WantBody} {l : List WantRange} (hs : b.link.silent = false)
      (h : takeWant b.store.outstanding b.store.wants = some (w, l)) :
      Acts sc b ((b.enqueue (.want w)).withStore
        (fun s => { s with wants := l, outstanding := Stations.insert w.asset s.outstanding }))

/-- Acts in a row. -/
def Blocks.Ends (sc : Scene) : Blocks → Blocks → Prop := Relation.ReflTransGen (Blocks.Acts sc)

theorem Blocks.ends_refl (sc : Scene) (b : Blocks) : Blocks.Ends sc b b := Relation.ReflTransGen.refl

theorem Blocks.Ends.trans {sc : Scene} {b c d : Blocks} (h : Blocks.Ends sc b c) (k : Blocks.Ends sc c d) :
    Blocks.Ends sc b d := Relation.ReflTransGen.trans h k

theorem Blocks.Acts.ends {sc : Scene} {b c : Blocks} (h : Blocks.Acts sc b c) : Blocks.Ends sc b c :=
  Relation.ReflTransGen.single h

/-- What every act keeps, a run of acts keeps. -/
theorem Blocks.Ends.keep {sc : Scene} {P : Blocks → Prop} (hstep : ∀ b c, P b → Blocks.Acts sc b c → P c) {b c : Blocks}
    (hb : P b) (h : Blocks.Ends sc b c) : P c := by
  induction h with
  | refl => exact hb
  | tail _ hact ih => exact hstep _ _ ih hact

section Ends

variable {sc : Scene}

theorem Blocks.ends_withWants (f : List WantRange → List WantRange) (b : Blocks) :
    Blocks.Ends sc b (b.withStore (Store.withWants f)) := (Blocks.Acts.wants f).ends

theorem Blocks.ends_decode {f : Decode → Decode} {b : Blocks} (hj : ∀ j ∈ (f b.decode).pageJobs, j ∈ b.decode.pageJobs)
    (hr : ∀ q i, (f b.decode).running = some (.batch q i true) → b.decode.running = some (.batch q i true)) :
    Blocks.Ends sc b (b.withDecode f) := (Blocks.Acts.decode hj hr).ends

/-- A change of the Decode Unit that leaves its jobs and its running work. -/
theorem Blocks.ends_sameWork {f : Decode → Decode} {b : Blocks} (hj : (f b.decode).pageJobs = b.decode.pageJobs)
    (hr : (f b.decode).running = b.decode.running) : Blocks.Ends sc b (b.withDecode f) :=
  Blocks.ends_decode (fun _ h => hj ▸ h) (fun _ _ h => hr ▸ h)

/-- A change of the Decode Unit that leaves its jobs and takes work in hand that is not a removed batch. -/
theorem Blocks.ends_run {f : Decode → Decode} {b : Blocks} (hj : (f b.decode).pageJobs = b.decode.pageJobs)
    (hr : ∀ q i, (f b.decode).running ≠ some (.batch q i true)) : Blocks.Ends sc b (b.withDecode f) :=
  Blocks.ends_decode (fun _ h => hj ▸ h) (fun q i h => absurd h (hr q i))

theorem Blocks.ends_queue {m : Message} (h : m.endsEvent = true) (b : Blocks) : Blocks.Ends sc b (b.enqueue m) :=
  (Blocks.Acts.queue h).ends

/-! ### Room -/

theorem Blocks.ends_evictNext {working : Option Strip} {b c : Blocks} (h : b.evictNext working = some c) :
    Blocks.Ends sc b c := by
  unfold Blocks.evictNext at h
  split at h
  · next e he =>
    obtain rfl := Option.some.inj h
    exact (Blocks.Acts.dropOpened (earliestShown_mem he)).ends
  · split at h
    · next e he =>
      obtain rfl := Option.some.inj h
      exact (Blocks.Acts.evictPacked (earliestArrived_mem he)).ends
    · exact absurd h (by simp)

theorem Blocks.ends_evictUntil (working : Option Strip) (u n : Nat) (b : Blocks) :
    Blocks.Ends sc b (b.evictUntil working u n) := by
  induction n generalizing b with
  | zero => exact Blocks.ends_refl sc b
  | succ n ih =>
    unfold Blocks.evictUntil
    split
    · exact Blocks.ends_refl sc b
    · split
      · exact Blocks.ends_refl sc b
      · next c h => exact (Blocks.ends_evictNext h).trans (ih c)

theorem Blocks.ends_findRoom {working : Option Strip} {u : Nat} {b c : Blocks} (h : b.findRoom working u = some c) :
    Blocks.Ends sc b c := by
  unfold Blocks.findRoom at h
  split at h
  · obtain rfl := Option.some.inj h
    exact Blocks.ends_refl sc b
  · split at h
    · exact absurd h (by simp)
    · obtain rfl := Option.some.inj h
      exact Blocks.ends_evictUntil _ _ _ _

theorem Store.waitForRoom_eq (k : Strip) (inOpen : Bool) (s : Store) :
    s.waitForRoom k inOpen = { s with roomWait := (s.waitForRoom k inOpen).roomWait } := by
  unfold Store.waitForRoom
  split <;> rfl

theorem Blocks.ends_refuseRoom (k : Strip) (inOpen : Bool) (u : Nat) (b : Blocks) :
    Blocks.Ends sc b (b.refuseRoom k inOpen u) := by
  have hwait : Blocks.Ends sc b (b.withStore (Store.waitForRoom k inOpen)) := by
    unfold Blocks.withStore
    rw [Store.waitForRoom_eq]
    exact (Blocks.Acts.room _ b.store.exhausted).ends
  unfold Blocks.refuseRoom
  dsimp only
  split
  · exact hwait
  · exact hwait.trans ((Blocks.ends_queue rfl _).trans (Blocks.Acts.room _ true).ends)

/-- Evictions leave the directory's entries of the strip that is worked on as they are. -/
theorem Blocks.evictNext_working {k : Strip} {b c : Blocks} (h : b.evictNext (some k) = some c) :
    c.store.findPacked k = b.store.findPacked k ∧ (b.store.findOpened k = none → c.store.findOpened k = none) := by
  unfold Blocks.evictNext at h
  split at h
  · next e he =>
    obtain rfl := Option.some.inj h
    refine ⟨rfl, fun hn => ?_⟩
    by_cases hk : e.id = k
    · rw [hk]
      exact Store.findOpened_dropOpened_same k b.store
    · exact (Store.findOpened_dropOpened_other hk b.store).trans hn
  · split at h
    · next e he =>
      obtain rfl := Option.some.inj h
      have hmem := earliestArrived_mem he
      unfold Store.packedCandidates at hmem
      simp only [List.mem_filter, Bool.and_eq_true, decide_eq_true_eq] at hmem
      have hne : e.id ≠ k := fun hk => hmem.2.2 (by rw [hk])
      have hskip : (b.evictPacked e.id).store.findPacked k = (b.store.skip e.id).findPacked k
          ∧ (b.evictPacked e.id).store.findOpened k = b.store.findOpened k := by
        unfold Blocks.evictPacked
        dsimp only
        split <;> exact ⟨rfl, rfl⟩
      refine ⟨hskip.1.trans ?_, fun hn => hskip.2.trans hn⟩
      have hid : (b.store.packedOrNew e.id).id ≠ k := by
        rw [Store.packedOrNew_id]
        exact hne
      exact Store.findPacked_setPacked_other
        (e := { b.store.packedOrNew e.id with state := .skipped, units := 0, data := [], checkWord := 0 }) hid b.store
    · exact absurd h (by simp)

theorem Blocks.evictUntil_working {k : Strip} (u n : Nat) (b : Blocks) :
    (b.evictUntil (some k) u n).store.findPacked k = b.store.findPacked k
      ∧ (b.store.findOpened k = none → (b.evictUntil (some k) u n).store.findOpened k = none) := by
  induction n generalizing b with
  | zero => exact ⟨rfl, id⟩
  | succ n ih =>
    unfold Blocks.evictUntil
    split
    · exact ⟨rfl, id⟩
    · split
      · exact ⟨rfl, id⟩
      · next c h =>
        obtain ⟨hp, ho⟩ := Blocks.evictNext_working h
        obtain ⟨ihp, iho⟩ := ih c
        exact ⟨ihp.trans hp, fun hn => iho (ho hn)⟩

theorem Blocks.findRoom_working {k : Strip} {u : Nat} {b c : Blocks} (h : b.findRoom (some k) u = some c) :
    c.store.findPacked k = b.store.findPacked k ∧ (b.store.findOpened k = none → c.store.findOpened k = none) := by
  unfold Blocks.findRoom at h
  split at h
  · obtain rfl := Option.some.inj h
    exact ⟨rfl, id⟩
  · split at h
    · exact absurd h (by simp)
    · obtain rfl := Option.some.inj h
      exact Blocks.evictUntil_working _ _ _

theorem Store.isHeld_congr {s t : Store} {k : Strip} (h : t.findPacked k = s.findPacked k) : t.isHeld k = s.isHeld k := by
  unfold Store.isHeld
  rw [h]

/-! ### The choice of jobs -/

theorem Blocks.ends_startPage (j : PageJob) (b : Blocks) : Blocks.Ends sc b (b.startPage j) := by
  unfold Blocks.startPage
  split
  · exact Blocks.ends_refl sc b
  · next h =>
    simp only [Bool.or_eq_true, Bool.not_eq_true', not_or, Bool.not_eq_false, Bool.not_eq_true, Option.isSome_eq_false_iff,
      Option.isNone_iff_eq_none] at h
    obtain ⟨hheld, hnone⟩ := h
    split
    · exact Blocks.ends_refuseRoom _ _ _ _
    · next c hc =>
      obtain ⟨hp, ho⟩ := Blocks.findRoom_working hc
      refine (Blocks.ends_findRoom hc).trans ((Blocks.Acts.open_ ?_ (ho hnone) rfl).ends.trans
        (Blocks.ends_run rfl (fun q i => by simp)))
      exact (Store.isHeld_congr hp).trans hheld

theorem Blocks.ends_beginBatch (q : Batch) (b : Blocks) : Blocks.Ends sc b (b.beginBatch q) := by
  unfold Blocks.beginBatch
  split
  · exact Blocks.ends_refl sc b
  · exact (Blocks.Acts.back
      (fun _ => { content := some q.content, whole := false, firstFailing := none, strips := [] })).ends

theorem Blocks.ends_writeBack (q : Batch) (i : Nat) (rows : SurfaceRows) (b : Blocks) :
    Blocks.Ends sc b (b.writeBack q i rows) := by
  unfold Blocks.writeBack
  split
  · exact Blocks.ends_refl sc b
  · exact (Blocks.Acts.back (fun s => { s with strips := s.strips ++ [_] })).ends

theorem Blocks.ends_completeBatch (q : Batch) (b : Blocks) : Blocks.Ends sc b (b.completeBatch q) := by
  have hback : Blocks.Ends sc b
      (b.withBc (fun c => { c with back := { c.back with whole := true, firstFailing := q.firstFailing } })) :=
    (Blocks.Acts.back (fun s => { s with whole := true, firstFailing := q.firstFailing })).ends
  unfold Blocks.completeBatch
  dsimp only
  split
  · exact hback
  · exact hback.trans (Blocks.ends_sameWork rfl rfl)

theorem Blocks.ends_advanceBatch (n : Nat) (q : Batch) (b : Blocks) : Blocks.Ends sc b (b.advanceBatch sc n q) := by
  induction n generalizing q b with
  | zero => exact Blocks.ends_sameWork rfl rfl
  | succ n ih =>
    unfold Blocks.advanceBatch
    split
    · split
      · exact (b.ends_beginBatch q).trans (Blocks.ends_completeBatch q _)
      · exact Blocks.ends_sameWork rfl rfl
    · next k _ =>
      dsimp only
      split
      · exact (b.ends_beginBatch q).trans (Blocks.ends_run rfl (fun q i => by simp))
      · have h := (b.ends_beginBatch q).trans (Blocks.ends_writeBack (sc := sc) q k.index .filled (b.beginBatch q))
        split
        · exact h.trans (Blocks.ends_sameWork rfl rfl)
        · exact h.trans (ih _ _)

theorem Blocks.ends_takeCheck (c : CheckJob) (b : Blocks) : Blocks.Ends sc b (b.takeCheck c) := by
  unfold Blocks.takeCheck
  split
  · exact Blocks.ends_queue rfl b
  · exact Blocks.ends_run rfl (fun q i => by simp)

theorem Blocks.ends_chooseOne {b c : Blocks} (h : b.chooseOne sc = some c) : Blocks.Ends sc b c := by
  obtain ⟨-, ⟨j, rest, hj, rfl⟩ | ⟨-, q, -, rfl⟩ | ⟨-, -, q, -, -, rfl⟩ | ⟨-, -, -, k, -, rfl⟩⟩ := Blocks.chooseOne_cases h
  · refine (Blocks.ends_decode (fun n hn => ?_) (fun q i h => h)).trans (Blocks.ends_startPage j _)
    rw [hj]
    exact List.mem_cons_of_mem _ hn
  · exact (Blocks.ends_sameWork rfl rfl).trans (Blocks.ends_advanceBatch _ _ _)
  · exact (Blocks.ends_sameWork rfl rfl).trans (Blocks.ends_advanceBatch _ _ _)
  · exact (Blocks.ends_sameWork rfl rfl).trans (Blocks.ends_takeCheck _ _)

theorem Blocks.ends_chooseJobs (n : Nat) (b : Blocks) : Blocks.Ends sc b (b.chooseJobs sc n) := by
  induction n generalizing b with
  | zero => exact Blocks.ends_refl sc b
  | succ n ih =>
    unfold Blocks.chooseJobs
    split
    · exact Blocks.ends_refl sc b
    · next c h => exact (Blocks.ends_chooseOne h).trans (ih c)

/-! ### The refill, the retry and the prefetch -/

theorem Blocks.ends_offerAll {l : List Strip} {b : Blocks}
    (h : ∀ k ∈ l, k ∈ b.store.roles.pending.strips ∨ k ∈ b.store.roles.shown.strips) :
    Blocks.Ends sc b (b.withDecode (Decode.offerAll sc.pageChange l)) := by
  induction l generalizing b with
  | nil => exact Blocks.ends_refl sc b
  | cons k l ih =>
    have hk : Blocks.Ends sc b (b.withDecode (Decode.offer sc.pageChange k)) :=
      (Blocks.Acts.offer (h k List.mem_cons_self)).ends
    exact hk.trans (ih (b := b.withDecode (Decode.offer sc.pageChange k)) (fun x hx => h x (List.mem_cons_of_mem _ hx)))

theorem Blocks.mem_refillable {b : Blocks} {k : Strip} (h : k ∈ b.refillable) :
    k ∈ b.store.roles.pending.strips ∨ k ∈ b.store.roles.shown.strips :=
  List.mem_append.mp (List.mem_of_mem_filter h)

theorem Blocks.ends_refill (b : Blocks) : Blocks.Ends sc b (b.refill sc.pageChange) := by
  have hoff : Blocks.Ends sc b
      (b.withDecode (fun d => { d.offerAll sc.pageChange b.refillable with deferred := true })) :=
    (Blocks.ends_offerAll fun k => Blocks.mem_refillable).trans
      (Blocks.ends_sameWork (f := fun d => { d with deferred := true }) rfl rfl)
  unfold Blocks.refill
  split
  · dsimp only
    split
    · exact hoff.trans (Blocks.ends_sameWork rfl rfl)
    · exact hoff
  · exact Blocks.ends_refl sc b

theorem Blocks.ends_retryWait (g : Geometry) (b : Blocks) (w : RoomWait) :
    Blocks.Ends sc b (b.retryWait g sc.pageChange w) := by
  unfold Blocks.retryWait
  split
  · exact Blocks.ends_refl sc b
  · split
    · split
      · exact b.ends_withWants _
      · split
        · next h =>
          simp only [Bool.or_eq_true, List.contains_iff_mem] at h
          exact (Blocks.Acts.offer h).ends
        · exact Blocks.ends_refl sc b
    · split
      · exact b.ends_withWants _
      · exact Blocks.ends_refl sc b

theorem Blocks.ends_retryRoom (g : Geometry) (b before : Blocks) :
    Blocks.Ends sc b (b.retryRoom g sc.pageChange before) := by
  have hall : ∀ (l : List RoomWait) (c : Blocks), Blocks.Ends sc c (l.foldl (Blocks.retryWait g sc.pageChange) c) := by
    intro l
    induction l with
    | nil => exact fun c => Blocks.ends_refl sc c
    | cons w l ih => exact fun c => (Blocks.ends_retryWait g c w).trans (ih _)
  unfold Blocks.retryRoom
  split
  · exact Blocks.Ends.trans (Blocks.Acts.room [] b.store.exhausted).ends (hall _ _)
  · exact Blocks.ends_refl sc b

theorem Blocks.ends_wantBatch (q : Batch) (b : Blocks) : Blocks.Ends sc b (b.withStore (Store.wantBatch q)) := by
  unfold Blocks.withStore Store.wantBatch
  split
  · exact b.ends_withWants _
  · exact b.ends_withWants _

theorem Blocks.ends_prefetch (g : Geometry) (b : Blocks) : Blocks.Ends sc b (b.prefetch g sc) := by
  unfold Blocks.prefetch
  split
  · exact Blocks.ends_refl sc b
  · split
    · exact Blocks.ends_refl sc b
    · exact (Blocks.ends_sameWork rfl rfl).trans (Blocks.ends_wantBatch _ _)

/-! ### Readiness, Wants, and the whole end of an event -/

theorem Blocks.ends_pageReadiness (b : Blocks) : Blocks.Ends sc b (b.pageReadiness sc) := by
  unfold Blocks.pageReadiness
  split
  · exact Blocks.ends_refl sc b
  · split
    · exact (Blocks.ends_queue rfl b).trans (Blocks.ends_sameWork rfl rfl)
    · exact Blocks.ends_refl sc b

theorem Blocks.ends_slideReadiness (b : Blocks) : Blocks.Ends sc b (b.slideReadiness sc) := by
  unfold Blocks.slideReadiness
  split
  · exact Blocks.ends_refl sc b
  · split
    · exact (Blocks.ends_queue rfl b).trans (Blocks.ends_sameWork rfl rfl)
    · exact Blocks.ends_refl sc b

theorem Blocks.ends_queueWant (b : Blocks) : Blocks.Ends sc b b.queueWant := by
  unfold Blocks.queueWant
  split
  · exact Blocks.ends_refl sc b
  · next h =>
    split
    · exact Blocks.ends_refl sc b
    · next w l hw =>
      have hs : b.link.silent = false := by
        cases hsilent : b.link.silent with
        | false => rfl
        | true => exact absurd (by rw [hsilent]; rfl) h
      exact (Blocks.Acts.want hs hw).ends

theorem Blocks.ends_queueWants (b : Blocks) : Blocks.Ends sc b b.queueWants :=
  b.ends_queueWant.trans ((Blocks.ends_queueWant _).trans ((Blocks.ends_queueWant _).trans (Blocks.ends_queueWant _)))

theorem Blocks.settle_ends (g : Geometry) (scBefore : Scene) (before b : Blocks) :
    Blocks.Ends sc b (Blocks.settle g scBefore sc before b) := by
  have hchosen := (b.ends_retryRoom (sc := sc) g before).trans
    ((Blocks.ends_chooseJobs chooseBound _).trans ((Blocks.ends_refill _).trans (Blocks.ends_chooseJobs chooseBound _)))
  unfold Blocks.settle
  dsimp only
  refine hchosen.trans (Blocks.Ends.trans ?_ ((Blocks.ends_pageReadiness _).trans
    ((Blocks.ends_slideReadiness _).trans (Blocks.ends_queueWants _))))
  split
  · exact (Blocks.ends_prefetch g _).trans (Blocks.ends_chooseJobs chooseBound _)
  · exact Blocks.ends_refl sc _

end Ends

/-! ### What the acts keep -/

theorem Blocks.evictPacked_link (k : Strip) (b : Blocks) : (b.evictPacked k).link = b.link := by
  unfold Blocks.evictPacked
  dsimp only
  split <;> rfl

theorem Link.enqueue_silent {l : Link} (h : l.silent = true) (m : Message) : l.enqueue m = l := if_pos h

/-- In Link Silent no message is queued and no Want becomes outstanding (R171). -/
theorem Blocks.Ends.silent {sc : Scene} {b c : Blocks} (h : Blocks.Ends sc b c) (hs : b.link.silent = true) :
    c.link = b.link ∧ c.store.outstanding = b.store.outstanding := by
  refine h.keep (P := fun d => d.link = b.link ∧ d.store.outstanding = b.store.outstanding) ?_ ⟨rfl, rfl⟩
  rintro d e ⟨hl, ho⟩ hact
  cases hact with
  | queue hm => exact ⟨(Link.enqueue_silent (hl ▸ hs) _).trans hl, ho⟩
  | want hno hw =>
    rw [hl, hs] at hno
    exact absurd hno (by simp)
  | @evictPacked working e he =>
    refine ⟨(d.evictPacked_link e.id).trans hl, Eq.trans ?_ ho⟩
    unfold Blocks.evictPacked
    dsimp only
    split <;> rfl
  | _ => exact ⟨hl, ho⟩

theorem Blocks.evictPacked_roles (k : Strip) (b : Blocks) : (b.evictPacked k).store.roles = b.store.roles := by
  unfold Blocks.evictPacked
  dsimp only
  split <;> rfl

theorem Blocks.evictPacked_decode (k : Strip) (b : Blocks) :
    (b.evictPacked k).decode = { b.decode with pageJobs := b.decode.pageJobs.filter (fun j => j.id != k) } := by
  unfold Blocks.evictPacked
  dsimp only
  split <;> rfl

theorem Decode.mem_offer {change : Half} {k : Strip} {d : Decode} {j : PageJob} (h : j ∈ (d.offer change k).pageJobs) :
    j ∈ d.pageJobs ∨ j = { id := k, tag := change } := by
  unfold Decode.offer at h
  split at h
  · exact .inl h
  · split at h
    · rcases List.mem_append.mp h with h | h
      · exact .inl h
      · exact .inr (List.mem_singleton.mp h)
    · exact .inl h

/-- The jobs after the end of an event: those of before, and strips of the pending and of the shown page (R118, R125). -/
theorem Blocks.Ends.jobs {sc : Scene} {b c : Blocks} (h : Blocks.Ends sc b c) :
    c.store.roles = b.store.roles ∧ ∀ j ∈ c.decode.pageJobs, j ∈ b.decode.pageJobs
      ∨ (j.id ∈ b.store.roles.pending.strips ∨ j.id ∈ b.store.roles.shown.strips) := by
  refine h.keep (P := fun d => d.store.roles = b.store.roles ∧ ∀ j ∈ d.decode.pageJobs, j ∈ b.decode.pageJobs
      ∨ (j.id ∈ b.store.roles.pending.strips ∨ j.id ∈ b.store.roles.shown.strips)) ?_ ⟨rfl, fun j hj => .inl hj⟩
  rintro d e ⟨hr, hj⟩ hact
  cases hact with
  | offer hk =>
    refine ⟨hr, fun j hmem => ?_⟩
    rcases Decode.mem_offer hmem with hmem | rfl
    · exact hj j hmem
    · exact .inr (hr ▸ hk)
  | decode hsub _ => exact ⟨hr, fun j hmem => hj j (hsub j hmem)⟩
  | @evictPacked working x hx =>
    refine ⟨(d.evictPacked_roles x.id).trans hr, fun j hmem => hj j ?_⟩
    rw [Blocks.evictPacked_decode] at hmem
    exact List.mem_of_mem_filter hmem
  | _ => exact ⟨hr, hj⟩

/-! ### A station's end of an event -/

theorem Station.settle_ends (st before : Station) : Blocks.Ends st.scene st.blocks (st.settle before).blocks := by
  unfold Station.settle
  split
  · exact Blocks.settle_ends _ _ _ _
  · exact Blocks.ends_refl _ _

/-! ### The voiding of a message -/

/-- A station whose message is voided waits for the next, nothing being received or sent (R165). -/
def Link.voided (l : Link) : Link := { l with rx := .waiting, errorMark := false, rxBits := [], sending := .none }

theorem Blocks.void_of_not_whole {b : Blocks} (h : b.link.sending ≠ .whole) : b.void = b.withLink Link.voided := by
  unfold Blocks.void
  exact if_neg h

theorem Blocks.void_of_whole {b : Blocks} (h : b.link.sending = .whole) : b.void = (b.withLink Link.voided).objected := by
  unfold Blocks.void
  exact if_pos h

theorem Blocks.objected_of_lt {b : Blocks} (h : b.link.objections < 15) :
    b.objected = b.withLink (fun l => { l with objections := l.objections + 1 }) := by
  unfold Blocks.objected
  exact if_neg (by
    change ¬ 16 ≤ b.link.objections + 1
    omega)

theorem Blocks.objected_of_le {b : Blocks} (h : 15 ≤ b.link.objections) : b.objected = b.goSilent := by
  unfold Blocks.objected
  exact if_pos (by
    change 16 ≤ b.link.objections + 1
    omega)

/-- The low of an objecting station that the others lengthen (R164). -/
theorem Link.wireLow_of_objecting {l : Link} (h : l.rx = .objecting) (low : Nat) :
    l.wireLow low = max low (drivenLow l.unit256 40) := if_pos h

theorem measure_max (u a b : Nat) : measure u (max a b) = max (measure u a) (measure u b) := by
  unfold measure
  rcases Nat.le_total a b with h | h
  · rw [Nat.max_eq_right h, Nat.max_eq_right (Nat.div_le_div_right (Nat.mul_le_mul_left 256 h))]
  · rw [Nat.max_eq_left h, Nat.max_eq_left (Nat.div_le_div_right (Nat.mul_le_mul_left 256 h))]

/-- An objecting station's own low never makes a calibration pulse of another's (R164). -/
theorem Link.measure_wireLow_lt {l : Link} {low : Nat} (hlow : measure l.unit256 low < 240)
    (hu : l.rx = .objecting → 256 ≤ l.unit256) : measure l.unit256 (l.wireLow low) < 240 := by
  by_cases h : l.rx = .objecting
  · rw [Link.wireLow_of_objecting h, measure_max, measure_drivenLow (hu h)]
    omega
  · rw [Link.wireLow_of_not_objecting h]
    exact hlow

/-- The station in the end window, objecting or not. -/
theorem Station.inEndWindow_rx {st : Station} (hl : st.lineAsserted = false) (hf : st.mode.frames = true) :
    ∃ r, (r = .endWindow ∨ r = .objecting) ∧ (r = .objecting → st.blocks.link.rx = .objecting)
      ∧ st.inEndWindow = st.withBlocks (fun b => b.withLink (fun l => { l with rx := r })) := by
  unfold Station.inEndWindow
  by_cases h : st.blocks.link.rx = .objecting
  · refine ⟨.objecting, .inr rfl, fun _ => h, ?_⟩
    rw [if_neg (by simp [h])]
    unfold Station.withBlocks Blocks.withLink
    rw [← h]
  · exact ⟨.endWindow, .inl rfl, fun hr => absurd hr (by simp), if_pos (by simp [hl, hf, h])⟩

/-- A low that begins in the end window voids the message (R165). -/
theorem Station.inEndWindow_takeLow {st : Station} {low : Nat} (hl : st.lineAsserted = false) (hf : st.mode.frames = true)
    (hlow : measure st.blocks.link.unit256 low < 240)
    (hu : st.blocks.link.rx = .objecting → 256 ≤ st.blocks.link.unit256) :
    st.inEndWindow.takeLow low = st.withBlocks Blocks.void := by
  obtain ⟨r, hr, hobj, hin⟩ := Station.inEndWindow_rx hl hf
  have hs : st.mode ≠ .strapFault := by rintro hm; simp [hm, Mode.frames] at hf
  have hc : st.mode ≠ .uncalibrated := by rintro hm; simp [hm, Mode.frames] at hf
  have hwire := Link.measure_wireLow_lt (l := { st.blocks.link with rx := r }) hlow (fun h => hu (hobj h))
  rw [hin]
  unfold Station.takeLow Station.takeWire
  rw [if_neg (by simp [hl, hs]), if_neg (by rw [classOf_calibration]; exact Nat.not_le.mpr hwire),
    if_neg (show ¬ (st.withBlocks _).mode = .uncalibrated from hc)]
  change st.withBlocks (fun b => (b.withLink (fun l => { l with rx := r })).receive _) = _
  unfold Station.withBlocks Blocks.receive
  rcases hr with rfl | rfl <;> rfl

/-- Settles O18: the low that voids, by whether the head was sent whole and how many objections it has met. -/
theorem voidedMessagesCountAgainstTheHead : Obligations.VoidedMessagesCountAgainstTheHead := by
  refine ⟨fun l low hrx hu => ?_, fun s low l hl hf hlow hu hlink => ?_⟩
  · have hm : ∀ x, measure l.unit256 x = 256 * x / l.unit256 := fun _ => rfl
    have hwire : 256 * l.wireLow low / l.unit256 = max (256 * low / l.unit256) 40 := by
      rw [← hm, ← hm, Link.wireLow_of_objecting hrx, measure_max, measure_drivenLow hu]
    refine ⟨?_, fun hle => ?_, fun hlt => ?_⟩
    · rw [Link.wireLow_of_objecting hrx]
      exact Nat.le_max_left _ _
    · rw [hwire]
      exact Nat.max_eq_right hle
    · refine Link.wireLow_of_long ?_
      exact (le_measure (by omega)).mp (le_of_lt hlt)
  · have hexec : exec (.messageVoided low) s
        = .next { s with station := (s.station.withBlocks Blocks.void).settle s.station } := by
      have hrule : s.station.voidMessage low = (s.station.withBlocks Blocks.void).settle s.station := by
        unfold Station.voidMessage
        rw [if_neg (by simp [hl]), Station.inEndWindow_takeLow hl hf hlow hu]
      rw [← hrule]
      rfl
    obtain ⟨c, hc, hw⟩ := Station.settle_eq (s.station.withBlocks Blocks.void) s.station
    have hends := Station.settle_ends (s.station.withBlocks Blocks.void) s.station
    rw [hc] at hexec hends
    refine ⟨_, s.station.blocks.void, hexec, ⟨rfl, hw⟩, fun hsend => ?_, fun hsend hlt => ?_, fun hsend hle => ?_⟩
    · rw [Blocks.void_of_not_whole hsend, hlink]
      rfl
    · rw [Blocks.void_of_whole hsend, Blocks.objected_of_lt (b := s.station.blocks.withLink Link.voided) hlt, hlink]
      rfl
    · have hvoid : s.station.blocks.void = (s.station.blocks.withLink Link.voided).goSilent :=
        (Blocks.void_of_whole hsend).trans (Blocks.objected_of_le (b := s.station.blocks.withLink Link.voided) hle)
      have hsilent := hends.silent (by
        change s.station.blocks.void.link.silent = true
        rw [hvoid]
        rfl)
      change c.link = s.station.blocks.void.link ∧ c.store.outstanding = s.station.blocks.void.store.outstanding at hsilent
      rw [hvoid] at hsilent ⊢
      rw [hlink]
      exact ⟨rfl, hsilent⟩

end Sys2Proof.Machine

/-! SUPPORT. How a page change is closed: the Readys that join its set (R55, R56) and the Claim that takes it over (R65, R66,
R101). -/

namespace Sys2Proof.Machine

/-! ### The Switch that closes a change -/

theorem Scene.allIn_iff (sc : Scene) (ready : List Nat) : sc.allIn ready = true ↔ ∀ o ∈ sc.owners, o ∈ ready := by
  simp [Scene.allIn]

theorem Scene.allIn_false {sc : Scene} {ready : List Nat} (h : ∃ o ∈ sc.owners, o ∉ ready) : sc.allIn ready = false := by
  refine Bool.eq_false_iff.mpr fun hall => ?_
  obtain ⟨o, ho, hne⟩ := h
  exact hne ((Scene.allIn_iff _ _).mp hall o ho)

/-- The full Switch of a page change: queued, the mark set, the prepare limit stopped (R56). -/
theorem Station.queuePageSwitch_full (p : Nat) (st : Station) :
    st.queuePageSwitch false p = { st with
      timers := { st.timers with pageMark := true, pagePrepare := none }
      blocks := st.blocks.enqueue (.switch { stream := 0, index := p, change := st.scene.pageChange
                                             target := st.blocks.bc.frame + 2, partialFlag := 0 }) } := rfl

/-- The partial one has Fault (Prepare Overdue) behind it (R57). -/
theorem Station.queuePageSwitch_partial (p : Nat) (st : Station) :
    st.queuePageSwitch true p = { st with
      timers := { st.timers with pageMark := true, pagePrepare := none }
      blocks := (st.blocks.enqueue (.switch { stream := 0, index := p, change := st.scene.pageChange
                                              target := st.blocks.bc.frame + 2, partialFlag := 1 })).enqueue
        (.fault (overdueFault .page st.scene.pageChange (st.scene.missing st.scene.pageReady))) } := rfl

theorem Station.queueSlideSwitch_full (i : Nat) (st : Station) :
    st.queueSlideSwitch false i = { st with
      timers := { st.timers with slideMark := true, slidePrepare := none }
      blocks := st.blocks.enqueue (.switch { stream := 1, index := i, change := st.scene.slideChange
                                             target := st.blocks.bc.frame + 2, partialFlag := 0 }) } := rfl

theorem Station.queueSlideSwitch_partial (i : Nat) (st : Station) :
    st.queueSlideSwitch true i = { st with
      timers := { st.timers with slideMark := true, slidePrepare := none }
      blocks := (st.blocks.enqueue (.switch { stream := 1, index := i, change := st.scene.slideChange
                                              target := st.blocks.bc.frame + 2, partialFlag := 1 })).enqueue
        (.fault (overdueFault .slide st.scene.slideChange (st.scene.missing st.scene.slideReady))) } := rfl

theorem Station.queuePageSwitch_mark (isPartial : Bool) (p : Nat) (st : Station) :
    (st.queuePageSwitch isPartial p).timers.pageMark = true := by cases isPartial <;> rfl

theorem Station.queueSlideSwitch_mark (isPartial : Bool) (i : Nat) (st : Station) :
    (st.queueSlideSwitch isPartial i).timers.slideMark = true := by cases isPartial <;> rfl

/-! ### A Ready of the page stream -/

theorem exec_ready (src : Nat) (body : ReadyBody) (s : State) :
    exec (.ready src body) s
      = s.event (Station.close src (some (.ready body)) (Station.whenRunning (Station.applyReady src body))) := rfl

theorem Station.applyReady_page {src p : Nat} {st : Station} (ho : st.scene.owners.contains src = true)
    (hp : st.scene.pendingPage = some p) :
    st.applyReady src { stream := 0, index := p, change := st.scene.pageChange } = st.takePageReady src p := by
  change st.applyPageReady src _ = _
  unfold Station.applyPageReady Scene.takesPageReady
  rw [if_pos (by simp [hp, List.contains_iff_mem.mp ho])]

/-- The tests that a Ready of the page stream must pass (R55). -/
theorem Station.applyReady_page_ignored {src : Nat} {body : ReadyBody} {st : Station} (hs : body.stream = 0)
    (h : st.scene.owners.contains src = false ∨ st.scene.pendingPage = none ∨ st.scene.pendingPage ≠ some body.index
      ∨ body.change ≠ st.scene.pageChange) : st.applyReady src body = st := by
  have hno : st.scene.takesPageReady src body.index body.change = false := by
    unfold Scene.takesPageReady
    rcases h with h | h | h | h
    · rw [h]
      rfl
    · simp [h]
    · simp [h]
    · simp [Ne.symm h]
  unfold Station.applyReady
  rw [hs]
  exact if_neg (by simp [hno])

section TakePageReady

variable {src p : Nat} {st : Station}

theorem Station.takePageReady_again (h : st.scene.pageReady.contains src = true) : st.takePageReady src p = st := if_pos h

/-- A Ready that does not complete the set, or that no speaker with its mark clear hears, joins the set alone. -/
theorem Station.takePageReady_joins (h : st.scene.pageReady.contains src = false)
    (hno : st.isSpeaker = false ∨ st.timers.pageMark = true
      ∨ ∃ o ∈ st.scene.owners, o ∉ Stations.insert src st.scene.pageReady) :
    st.takePageReady src p
      = { st with scene := { st.scene with pageReady := Stations.insert src st.scene.pageReady } } := by
  have hne : ¬ st.scene.pageReady.contains src = true := by rw [h]; simp
  refine (if_neg hne).trans (if_neg ?_)
  intro hclose
  simp only [Bool.and_eq_true, Bool.not_eq_true'] at hclose
  obtain ⟨⟨hsp, hmark⟩, hall⟩ := hclose
  rcases hno with hno | hno | hno
  · exact absurd (hno.symm.trans hsp) (by simp)
  · exact absurd (hno.symm.trans hmark) (by simp)
  · exact absurd ((Scene.allIn_false hno).symm.trans hall) (by simp)

/-- The last owner's Ready closes the change (R56). -/
theorem Station.takePageReady_closes (h : st.scene.pageReady.contains src = false) (hsp : st.isSpeaker = true)
    (hmark : st.timers.pageMark = false) (hall : ∀ o ∈ st.scene.owners, o ∈ Stations.insert src st.scene.pageReady) :
    st.takePageReady src p = Station.queuePageSwitch false p
      { st with scene := { st.scene with pageReady := Stations.insert src st.scene.pageReady } } := by
  have hne : ¬ st.scene.pageReady.contains src = true := by rw [h]; simp
  have hin := (Scene.allIn_iff st.scene _).mpr hall
  refine (if_neg hne).trans (if_pos ?_)
  change (st.isSpeaker && !st.timers.pageMark && st.scene.allIn (Stations.insert src st.scene.pageReady)) = true
  rw [hsp, hmark, hin]
  rfl

end TakePageReady

/-- Settles O32: the Ready taken again, the one that joins the set, the one that completes it, and the four that are ignored. -/
theorem pageReadyClosesTheChange : Obligations.PageReadyClosesTheChange := by
  refine ⟨fun s src p own sc hs hsrc hown hsc ho hp => ?_, fun s src body hs hstream h => ?_⟩
  · have hrule : (s.station.heard src (some (.ready { stream := 0, index := p, change := s.station.scene.pageChange }))).applyReady
        src { stream := 0, index := p, change := s.station.scene.pageChange } = _ :=
      Station.applyReady_page (st := s.station.heard src _) ho hp
    subst hown hsc
    refine ⟨fun hin => ?_, fun hout hno => ?_, fun hout hsp hmark hall => ?_⟩
    · exact State.close_ignoredRunning hs (hrule.trans (Station.takePageReady_again (st := s.station.heard src _) hin))
    · exact State.close_whenRunning_becomes hs hsrc
        (hrule.trans (Station.takePageReady_joins (st := s.station.heard src _) hout hno))
    · exact State.close_whenRunning_becomes hs hsrc
        (hrule.trans (Station.takePageReady_closes (st := s.station.heard src _) hout hsp hmark hall))
  · exact State.close_ignoredRunning hs (Station.applyReady_page_ignored (st := s.station.heard src _) hstream h)

/-! ### A Claim -/

theorem exec_claimSpeaker (src : Nat) (s : State) :
    exec (.claimSpeaker src) s = s.event (Station.close src (some .claim)
      (Station.whenRunning (fun st => if st.scene.owners.contains src then st.claim src else st))) := rfl

/-- The claimant as it takes up the timers, its queue cleared of Claims and nothing closed yet (R65, R66). -/
def Station.takesUp (src : Nat) (st : Station) : Station :=
  { st with
    scene := { st.scene with speaker := some src }
    timers := st.timers.takeUp { st.scene with speaker := some src }
    blocks := st.blocks.withLink Link.dropClaims }

theorem Station.claim_of_own {src : Nat} {st : Station} (h : src = st.number) :
    st.claim src = (st.takesUp src).claimPage.claimSlide := if_pos h

theorem Station.claim_of_other {src : Nat} {st : Station} (h : src ≠ st.number) :
    st.claim src = { st with
      scene := { st.scene with speaker := some src }
      timers := { Timers.reset with
        absence := if st.scene.pendingPage.isSome || (st.scene.pendingIndex.isSome && !st.scene.held) then some 0 else none }
      blocks := st.blocks.withLink Link.dropClaims } := if_neg h

/-- What the claimant's closing of its changes touches: the two marks, the two prepare limits and the queue. -/
def Station.Closes (st u : Station) : Prop :=
  u = { st with
    timers := { st.timers with
      pageMark := u.timers.pageMark, slideMark := u.timers.slideMark
      pagePrepare := u.timers.pagePrepare, slidePrepare := u.timers.slidePrepare }
    blocks := { st.blocks with link := u.blocks.link } }
  ∧ (st.timers.pagePrepare = none → u.timers.pagePrepare = none)
  ∧ (st.timers.slidePrepare = none → u.timers.slidePrepare = none)
  ∧ (st.timers.pageMark = true → u.timers.pageMark = true)

theorem Station.closes_refl (st : Station) : st.Closes st := ⟨rfl, id, id, id⟩

theorem Station.Closes.trans {st u v : Station} (h : st.Closes u) (k : u.Closes v) : st.Closes v := by
  obtain ⟨hu, hp, hs, hm⟩ := h
  obtain ⟨hv, kp, ks, km⟩ := k
  refine ⟨?_, kp ∘ hp, ks ∘ hs, km ∘ hm⟩
  rw [hv, hu]

theorem Station.closes_queuePageSwitch (isPartial : Bool) (p : Nat) (st : Station) :
    st.Closes (st.queuePageSwitch isPartial p) := by
  cases isPartial <;> exact ⟨rfl, fun _ => rfl, id, fun _ => rfl⟩

theorem Station.closes_queueSlideSwitch (isPartial : Bool) (i : Nat) (st : Station) :
    st.Closes (st.queueSlideSwitch isPartial i) := by
  cases isPartial <;> exact ⟨rfl, id, fun _ => rfl, id⟩

section ClaimPage

variable {st : Station}

theorem Station.claimPage_of_none (h : st.scene.pendingPage = none) : st.claimPage = st := by
  unfold Station.claimPage
  rw [h]

theorem Station.claimPage_of_some {p : Nat} (h : st.scene.pendingPage = some p) :
    st.claimPage = st.queuePageSwitch (!st.scene.allIn st.scene.pageReady) p := by
  unfold Station.claimPage
  rw [h]

theorem Station.closes_claimPage (st : Station) : st.Closes st.claimPage := by
  cases h : st.scene.pendingPage with
  | none =>
    rw [Station.claimPage_of_none h]
    exact st.closes_refl
  | some p =>
    rw [Station.claimPage_of_some h]
    exact Station.closes_queuePageSwitch _ _ _

theorem Station.claimSlide_of_rest (h : st.scene.pendingIndex = none ∨ st.scene.held = true) : st.claimSlide = st := by
  unfold Station.claimSlide
  split
  · rfl
  · next i hi => exact if_pos (h.resolve_left (by simp [hi]))

theorem Station.claimSlide_of_some {i : Nat} (h : st.scene.pendingIndex = some i) (hheld : st.scene.held = false) :
    st.claimSlide = st.queueSlideSwitch (!st.scene.allIn st.scene.slideReady) i := by
  unfold Station.claimSlide
  rw [h]
  exact if_neg (by simp [hheld])

theorem Station.closes_claimSlide (st : Station) : st.Closes st.claimSlide := by
  cases h : st.scene.pendingIndex with
  | none =>
    rw [Station.claimSlide_of_rest (.inl h)]
    exact st.closes_refl
  | some i =>
    cases hheld : st.scene.held with
    | true =>
      rw [Station.claimSlide_of_rest (.inr hheld)]
      exact st.closes_refl
    | false =>
      rw [Station.claimSlide_of_some h hheld]
      exact Station.closes_queueSlideSwitch _ _ _

end ClaimPage

theorem Timers.takeUp_slideDuration_none {sc : Scene} (h : sc.show_ ≠ .playing ∨ sc.pendingIndex.isSome = true)
    (t : Timers) : (t.takeUp sc).slideDuration = none := by
  refine if_neg ?_
  rintro ⟨hplay, hnone⟩
  rcases h with h | h
  · exact h hplay
  · simp [hnone] at h

theorem Timers.takeUp_slideDuration_some {sc : Scene} {e : Slide} (hplay : sc.show_ = .playing)
    (hnone : sc.pendingIndex = none) (he : sc.slides[sc.current]? = some e) (t : Timers) :
    (t.takeUp sc).slideDuration
      = if e.duration = 0 then none else some { tag := sc.slideChange, remaining := e.duration } := by
  refine (if_pos ⟨hplay, hnone⟩).trans ?_
  rw [he]
  rfl

/-- Settles O37: the Claim of another owner, the own Claim, which closes the page change and then the slide change, and the
Claim of no owner. -/
theorem claimMakesTheSpeaker : Obligations.ClaimMakesTheSpeaker := by
  intro s src b hs hsrc hb
  have hclaim : s.station.scene.owners.contains src = true →
      (if (s.station.heard src (some .claim)).scene.owners.contains src then (s.station.heard src (some .claim)).claim src
        else s.station.heard src (some .claim)) = (s.station.heard src (some .claim)).claim src := fun ho => if_pos ho
  refine ⟨fun ho hne => ?_, fun ho heq => ?_, fun ho => ?_⟩
  · rw [exec_claimSpeaker, hb]
    exact State.close_whenRunning_becomes hs hsrc
      ((hclaim ho).trans (Station.claim_of_other (st := s.station.heard src (some .claim)) hne))
  · generalize hn : (s.station.heard src (some .claim)).takesUp src = n
    have hscene : n.scene = { s.station.scene with speaker := some src } := by rw [← hn]; rfl
    have hblocks : n.blocks = b := by rw [← hn, hb]; rfl
    have hframe : b.bc.frame = s.station.blocks.bc.frame := by rw [hb]; rfl
    have htimers : n.timers = s.station.timers.takeUp { s.station.scene with speaker := some src } := by rw [← hn]; rfl
    obtain ⟨hu, hpp, hsp, -⟩ := (n.closes_claimPage).trans n.claimPage.closes_claimSlide
    have hpageFrame := n.closes_claimPage.1
    have hmark := n.claimPage.closes_claimSlide.2.2.2
    generalize hud : n.claimPage.claimSlide = u at hu hpp hsp hmark
    have hmoves : (s.station.heard src (some .claim)).Moves u := by
      rw [Station.moves_iff, hu, ← hn]
      exact ⟨rfl, rfl, rfl, rfl⟩
    have hrule := (hclaim ho).trans (Station.claim_of_own (st := s.station.heard src (some .claim)) heq)
    rw [hn, hud] at hrule
    obtain ⟨t, ht, hafter⟩ := State.close_after hs hsrc hrule hmoves
    have huscene : u.scene = { s.station.scene with speaker := some src } := by rw [hu]; exact hscene
    have hbecomes : s.Becomes { s.station.scene with speaker := some src } u.timers u.blocks t := huscene ▸ hafter
    have hpageScene : n.claimPage.scene = { s.station.scene with speaker := some src } := by rw [hpageFrame]; exact hscene
    have hpageBc : n.claimPage.blocks.bc = b.bc := by rw [hpageFrame, ← hblocks]
    have hrest : s.station.scene.pendingIndex = none ∨ s.station.scene.held = true → u = n.claimPage := fun h => by
      rw [← hud]
      exact Station.claimSlide_of_rest (by rw [hpageScene]; exact h)
    have hslide : ∀ i, s.station.scene.pendingIndex = some i → s.station.scene.held = false →
        u = n.claimPage.queueSlideSwitch (!s.station.scene.allIn s.station.scene.slideReady) i := fun i hi hheld => by
      rw [← hud, Station.claimSlide_of_some (by rw [hpageScene]; exact hi) (by rw [hpageScene]; exact hheld), hpageScene]
      rfl
    have hnone : s.station.scene.pendingPage = none → n.claimPage = n := fun h =>
      Station.claimPage_of_none (by rw [hscene]; exact h)
    have hsome : ∀ p, s.station.scene.pendingPage = some p →
        n.claimPage = n.queuePageSwitch (!s.station.scene.allIn s.station.scene.pageReady) p := fun p h => by
      rw [Station.claimPage_of_some (by rw [hscene]; exact h), hscene]
      rfl
    have hfull : ∀ r, (∀ o ∈ s.station.scene.owners, o ∈ r) → (!s.station.scene.allIn r) = false := fun r h => by
      rw [(Scene.allIn_iff _ _).mpr h]
      rfl
    have hpart : ∀ r, (∃ o ∈ s.station.scene.owners, o ∉ r) → (!s.station.scene.allIn r) = true := fun r h => by
      rw [Scene.allIn_false h]
      rfl
    refine ⟨t, u.timers, u.blocks, ht, hbecomes, ?_, ?_, ?_, ?_, hpp (by rw [htimers]; rfl), hsp (by rw [htimers]; rfl), ?_,
      fun h => ?_, fun e hplay hidx he => ?_, fun hp hi => ?_, fun p hp hi => ⟨?_, fun hall => ?_, fun hex => ?_⟩,
      fun i hp hi hheld => ⟨?_, fun hall => ?_, fun hex => ?_⟩, fun p i hp hi hheld hpall hsall => ⟨?_, ?_, ?_⟩⟩
    · rw [hu, htimers]; rfl
    · rw [hu, htimers]; rfl
    · rw [hu, htimers]; rfl
    · rw [hu, htimers]; rfl
    · rw [hu, htimers]; rfl
    · rw [hu, htimers]
      exact Timers.takeUp_slideDuration_none (sc := { s.station.scene with speaker := some src }) h s.station.timers
    · rw [hu, htimers]
      exact Timers.takeUp_slideDuration_some (sc := { s.station.scene with speaker := some src }) hplay hidx he
        s.station.timers
    · rw [hrest hi, hnone hp, hblocks]
    · rw [hrest hi, hsome p hp]
      exact Station.queuePageSwitch_mark _ _ _
    · rw [hrest hi, hsome p hp, hfull _ hall, Station.queuePageSwitch_full, hscene, hblocks, hframe]
    · rw [hrest hi, hsome p hp, hpart _ hex, Station.queuePageSwitch_partial, hscene, hblocks, hframe]
      rfl
    · rw [hslide i hi hheld]
      exact Station.queueSlideSwitch_mark _ _ _
    · rw [hslide i hi hheld, hfull _ hall, Station.queueSlideSwitch_full, hnone hp, hscene, hblocks, hframe]
    · rw [hslide i hi hheld, hpart _ hex, Station.queueSlideSwitch_partial, hnone hp, hscene, hblocks, hframe]
      rfl
    · refine hmark ?_
      rw [hsome p hp]
      exact Station.queuePageSwitch_mark _ _ _
    · rw [hslide i hi hheld]
      exact Station.queueSlideSwitch_mark _ _ _
    · rw [hslide i hi hheld, hfull _ hsall, Station.queueSlideSwitch_full, hpageScene, hpageBc, hframe, hsome p hp,
        hfull _ hpall, Station.queuePageSwitch_full, hscene, hblocks, hframe]
  · exact State.close_ignoredRunning hs (if_neg (by rw [show (s.station.heard src _).scene.owners.contains src = _ from ho]; simp))

end Sys2Proof.Machine

/-! SUPPORT. An applied page Switch: the page as it is shown (R58), and what is handed over with it (R115, R128, R143). -/

namespace Sys2Proof.Machine

/-! ### The page as it is entered -/

/-- Where the target names a button, it is the one Selected. -/
theorem firstIndex_markOnly {t i : Nat} {live : List Live} (hi : i ≤ t) (ht : t < i + live.length) :
    firstIndex (fun l => l.state == .selected) i (markOnly (some t) .selected i live) = some t := by
  induction live generalizing i with
  | nil => exact absurd ht (by simp; omega)
  | cons l ls ih =>
    unfold markOnly firstIndex
    by_cases h : t = i
    · subst h
      simp
    · rw [if_neg (by simp [h])]
      exact ih (by omega) (by simp at ht; omega)

/-- Records whose states are those of a marked list are marked themselves. -/
theorem eq_markOnly_of_states {target : Option Nat} {state : ButtonState} {live m : List Live}
    (h : live.map Live.state = (markOnly target state 0 m).map Live.state) : live = markOnly target state 0 live := by
  have hk : ∀ k : Nat, live[k]?.map Live.state = ((markOnly target state 0 m)[k]?).map Live.state := fun k => by
    rw [← List.getElem?_map, h, List.getElem?_map]
  have hlen : live.length = m.length := by simpa [markOnly_length] using congrArg List.length h
  refine List.ext_getElem? fun k => ?_
  rw [markOnly_getElem?]
  have hk := hk k
  rw [markOnly_getElem?] at hk
  cases hl : live[k]? with
  | none => rfl
  | some l =>
    obtain ⟨hklt, -⟩ := List.getElem?_eq_some_iff.mp hl
    rw [hl, List.getElem?_eq_getElem (hlen ▸ hklt)] at hk
    obtain ⟨e, st⟩ := l
    simpa using hk

theorem markOnly_none_normal {state : ButtonState} {i : Nat} {live : List Live} :
    ∀ l ∈ markOnly none state i live, l.state = .normal := by
  induction live generalizing i with
  | nil => simp [markOnly]
  | cons l ls ih =>
    intro x hx
    rcases List.mem_cons.mp hx with rfl | hx
    · simp
    · exact ih x hx

theorem Scene.reselect_of_none {sc : Scene} (h : sc.selectedButton = none) : sc.reselect = sc := by
  unfold Scene.reselect
  rw [h]

theorem Scene.selectedButton_of_normal {sc : Scene} (h : ∀ l ∈ sc.live, l.state = .normal) : sc.selectedButton = none := by
  cases hs : sc.selectedButton with
  | none => rfl
  | some j =>
    obtain ⟨k, l, -, hl, hsel⟩ := firstIndex_some hs
    have := h l (List.mem_of_getElem? hl)
    simp [this] at hsel

/-- The shown page's buttons as a page switch finds them: each enabled by the words, none chosen (R58 step 5). -/
def PageBody.fresh (words : List Half) (pg : PageBody) : List Live :=
  pg.buttons.map (fun b => { enabled := enabledBy words b, state := .normal })

theorem PageBody.fresh_enabled (words : List Half) (pg : PageBody) :
    (pg.fresh words).map Live.enabled = pg.buttons.map (enabledBy words) := by
  simp [PageBody.fresh, Function.comp_def]

section Enter

variable {sc : Scene} {p : Nat} {pg : PageBody} (hpg : sc.completeBody p = some pg)
include hpg

theorem Scene.showPage_shownBody : (sc.showPage p).shownBody = some pg := Scene.body_of_completeBody hpg

/-- The page entered: the default choice Selected among the fresh buttons. -/
theorem Scene.enterPage_eq :
    (sc.showPage p).enterPage = ({ sc.showPage p with live := pg.fresh sc.words } : Scene).selectDefault := by
  unfold Scene.enterPage
  rw [Scene.showPage_shownBody hpg]
  rfl

/-- The replica after an applied page Switch, but for the buttons' records: those of the entry effect (R58). -/
theorem Scene.switchPage_eq :
    sc.switchPage p = { sc with
      shown := some p
      leaving := if sc.shown = some p then none else sc.shown
      pendingPage := none, pageReady := [], entry := [], activity := sc.activity + 1
      guard := if p = sc.guard.prompt then sc.guard else { sc.guard with wait := none }
      words := match pg.header.entryEffect with
        | none => sc.words
        | some e => applyEffect sc.entry sc.words e
      live := ((sc.showPage p).enterPage.entryEffect).live } := by
  have hbody : (sc.showPage p).enterPage.shownBody = some pg := Scene.showPage_shownBody hpg
  have heff : (sc.showPage p).enterPage.entryEffect = { (sc.showPage p).enterPage with
      words := match pg.header.entryEffect with
        | none => sc.words
        | some e => applyEffect sc.entry sc.words e
      live := ((sc.showPage p).enterPage.entryEffect).live } := by
    have hdef : (sc.showPage p).enterPage.entryEffect = match pg.header.entryEffect with
        | none => (sc.showPage p).enterPage
        | some e => (sc.showPage p).enterPage.runEffects [e] := by
      unfold Scene.entryEffect
      rw [hbody]
      rfl
    cases he : pg.header.entryEffect with
    | none => rw [hdef, he]; rfl
    | some e =>
      rw [hdef, he]
      exact Scene.runEffects_frame _ [e]
  unfold Scene.switchPage
  rw [heff]
  rfl

end Enter

section EntryEffect

variable {sc : Scene} {p : Nat} {pg : PageBody} (hpg : sc.completeBody p = some pg)
include hpg

theorem Scene.entryEffect_of_none (he : pg.header.entryEffect = none) :
    (sc.showPage p).enterPage.entryEffect = (sc.showPage p).enterPage := by
  have hbody : (sc.showPage p).enterPage.shownBody = some pg := Scene.showPage_shownBody hpg
  unfold Scene.entryEffect
  rw [hbody, Option.bind_some, he]

theorem Scene.entryEffect_of_some {e : WordEffect} (he : pg.header.entryEffect = some e) :
    (sc.showPage p).enterPage.entryEffect
      = ({ (sc.showPage p).enterPage with words := applyEffect sc.entry sc.words e } : Scene).recompute := by
  have hbody : (sc.showPage p).enterPage.shownBody = some pg := Scene.showPage_shownBody hpg
  unfold Scene.entryEffect
  rw [hbody, Option.bind_some, he]
  rfl

theorem Scene.enterPage_length : (sc.showPage p).enterPage.live.length = pg.buttons.length := by
  rw [Scene.enterPage_eq hpg, Scene.selectDefault_length]
  exact List.length_map ..

/-- The buttons of the page shown are enabled as the words of after the entry effect say (R18, R58). -/
theorem Scene.switchPage_enabled :
    (sc.switchPage p).live.map Live.enabled = pg.buttons.map (enabledBy (sc.switchPage p).words) := by
  rw [Scene.switchPage_eq hpg]
  change ((sc.showPage p).enterPage.entryEffect).live.map Live.enabled = _
  cases he : pg.header.entryEffect with
  | none =>
    rw [Scene.entryEffect_of_none hpg he, Scene.enterPage_eq hpg, Scene.selectDefault_enabled]
    exact PageBody.fresh_enabled _ _
  | some e =>
    rw [Scene.entryEffect_of_some hpg he]
    exact Scene.recompute_enabled
      (sc := { (sc.showPage p).enterPage with words := applyEffect sc.entry sc.words e })
      (Scene.showPage_shownBody hpg) (Scene.enterPage_length hpg)

/-- The page entered, with the words of after its entry effect and the buttons not decided again yet. -/
def Scene.affected (p : Nat) (e : WordEffect) (sc : Scene) : Scene :=
  { (sc.showPage p).enterPage with words := applyEffect sc.entry sc.words e }

/-- The page entered before a choice is made: its default choice is the one that is Selected. -/
def Scene.entered (p : Nat) (pg : PageBody) (sc : Scene) : Scene := { sc.showPage p with live := pg.fresh sc.words }

theorem Scene.affected_live (e : WordEffect) :
    (sc.affected p e).live = markOnly (sc.entered p pg).defaultChoice .selected 0 (pg.fresh sc.words) :=
  congrArg Scene.live (Scene.enterPage_eq hpg)

/-- With no button to select, the entry effect leaves every button Normal. -/
theorem Scene.affected_normal {e : WordEffect} (hd : (sc.entered p pg).defaultChoice = none) :
    ∀ l ∈ (sc.affected p e).recompute.live, l.state = .normal := by
  have hlive := Scene.affected_live hpg e
  rw [hd] at hlive
  have hstate := Scene.decideEnabled_state (sc := sc.affected p e) (Scene.showPage_shownBody hpg)
    (Scene.enterPage_length hpg)
  have hnormal : ∀ l ∈ (sc.affected p e).decideEnabled.live, l.state = .normal := fun l hl => by
    have hmem : l.state ∈ (sc.affected p e).live.map Live.state := hstate ▸ List.mem_map_of_mem hl
    obtain ⟨m, hm, hms⟩ := List.mem_map.mp hmem
    exact hms.symm.trans (markOnly_none_normal m (hlive ▸ hm))
  have hkeep : (sc.affected p e).recompute = (sc.affected p e).decideEnabled :=
    Scene.reselect_of_none (Scene.selectedButton_of_normal hnormal)
  rw [hkeep]
  exact hnormal

section Chosen

variable {e : WordEffect} {i : Nat} {b : Button} (hd : (sc.entered p pg).defaultChoice = some i)
  (hb : pg.buttons[i]? = some b)
include hd hb

theorem Scene.affected_selected : (sc.affected p e).selectedButton = some i := by
  obtain ⟨hi, -⟩ := List.getElem?_eq_some_iff.mp hb
  unfold Scene.selectedButton
  rw [Scene.affected_live hpg e, hd]
  exact firstIndex_markOnly (Nat.zero_le _) (by simpa [PageBody.fresh] using hi)

/-- The default choice stays Selected where the entry effect leaves its button enabled (R20). -/
theorem Scene.affected_keeps (he : enabledBy (applyEffect sc.entry sc.words e) b = true) :
    (sc.affected p e).recompute.live = markOnly (some i) .selected 0 (sc.affected p e).recompute.live := by
  refine eq_markOnly_of_states (m := pg.fresh sc.words) ?_
  have hstate := Scene.recompute_of_enabled (sc := sc.affected p e) (Scene.showPage_shownBody hpg)
    (Scene.enterPage_length hpg) (Scene.affected_selected hpg hd hb) hb he
  rw [hstate, Scene.affected_live hpg e, hd]

/-- It gives way to the default choice by the new words where the effect disables it (R20). -/
theorem Scene.affected_gives (he : enabledBy (applyEffect sc.entry sc.words e) b = false) :
    (sc.affected p e).recompute.live
      = markOnly (sc.affected p e).recompute.defaultChoice .selected 0 (sc.affected p e).recompute.live :=
  Scene.recompute_of_disabled (sc := sc.affected p e) (Scene.showPage_shownBody hpg)
    (Scene.enterPage_length hpg) (Scene.affected_selected hpg hd hb) hb he

end Chosen

theorem Scene.switchPage_shownBody : (sc.switchPage p).shownBody = some pg := by
  rw [Scene.switchPage_eq hpg]
  exact Scene.showPage_shownBody hpg

end EntryEffect

/-! ### The Switch applied -/

theorem exec_switch (src : Nat) (body : SwitchBody) (s : State) :
    exec (.switch src body) s
      = s.event (Station.close src (some (.switch body)) (Station.whenRunning (Station.applySwitch src body))) := rfl

theorem Station.applySwitch_page {src p : Nat} {target : Long} {flag : Nat} {st : Station}
    (hsp : st.scene.speaker = some src) (hp : st.scene.pendingPage = some p) :
    st.applySwitch src { stream := 0, index := p, change := st.scene.pageChange, target := target, partialFlag := flag }
      = st.switchPage p target := by
  change st.applyPageSwitch src _ = _
  unfold Station.applyPageSwitch Scene.takesPageSwitch
  rw [if_pos (by simp [hsp, hp])]

/-- Settles O33: the page entered, and its buttons by the entry effect's words. -/
theorem pageSwitchShowsThePage : Obligations.PageSwitchShowsThePage := by
  intro s src p target flag pg own hs hsrc hsp hp hpg hown
  subst hown
  have hlive : (s.station.scene.switchPage p).live = ((s.station.scene.showPage p).enterPage.entryEffect).live := rfl
  have hsc := Scene.switchPage_eq hpg
  have hti : s.station.timers.pageSwitched s.station.isSpeaker (s.station.scene.switchPage p)
      = if s.station.isSpeaker then
          { s.station.timers with pageTimeout := (s.station.scene.switchPage p).pageTimer, pagePrepare := none }
        else { s.station.timers with
          absence := if s.station.scene.pendingIndex.isSome && !s.station.scene.held then some 0 else none } := by
    have habs : (s.station.scene.switchPage p).absenceStart
        = if s.station.scene.pendingIndex.isSome && !s.station.scene.held then some 0 else none := by
      rw [hsc]
      rfl
    unfold Timers.pageSwitched
    rw [habs]
  obtain ⟨t, ht, hb⟩ := State.close_whenRunning_becomes hs hsrc
    (Station.applySwitch_page (st := s.station.heard src _) (target := target) (flag := flag) hsp hp)
  refine ⟨t, s.station.scene.switchPage p, _, ht, hti ▸ hb, hlive ▸ hsc, Scene.switchPage_enabled hpg, fun he => ?_,
    fun e k he hk => ?_, ?_⟩
  · change ((s.station.scene.showPage p).enterPage.entryEffect).live
      = markOnly ((s.station.scene.showPage p).enterPage.entryEffect).defaultChoice .selected 0
        ((s.station.scene.showPage p).enterPage.entryEffect).live
    rw [Scene.entryEffect_of_none hpg he, Scene.enterPage_eq hpg]
    exact Scene.selectDefault_live _
  · have heff := Scene.entryEffect_of_some hpg he
    have hchoice : k.defaultChoice = (s.station.scene.entered p pg).defaultChoice := by
      rw [hk, hsc]
      rfl
    have hwords : (s.station.scene.switchPage p).words = applyEffect s.station.scene.entry s.station.scene.words e := by
      rw [hsc, he]
    have hdefault : (s.station.scene.switchPage p).defaultChoice
        = (s.station.scene.showPage p).enterPage.entryEffect.defaultChoice := rfl
    rw [hchoice, hwords, hlive, hdefault, heff]
    exact ⟨fun hd => Scene.affected_normal hpg hd, fun i b hd hb he => Scene.affected_keeps hpg hd hb he,
      fun i b hd hb he => Scene.affected_gives hpg hd hb he⟩
  · have hact : (s.station.scene.switchPage p).activity = s.station.scene.activity + 1 := by rw [hsc]
    unfold Scene.pageTimer
    rw [Scene.switchPage_shownBody hpg, hact]

end Sys2Proof.Machine

/-! SUPPORT. The end of an event at a station that rests: a job in progress and no room for a Want (R120, R124, R125). -/

namespace Sys2Proof.Machine

/-! ### A close with its end of event -/

theorem State.close_settles {s : State} {src : Nat} {own : Option Message} {rule : Station → Station} {u : Station}
    (h : s.station.Listens) (hs : src < 6) (hr : rule (s.station.heard src own) = u) :
    s.event (Station.close src own (Station.whenRunning rule))
      = .next { s with station := u.settle s.station } := by
  have hrun : (s.station.heard src own).whenRunning rule = u :=
    (Station.whenRunning_of (show (s.station.heard src own).mode = _ from h.1)).trans hr
  rw [State.event_eq, Station.close_framing (Station.framing_of_listens h), if_pos hs]
  exact congrArg (fun v : Station => Host.Outcome.next { s with station := v.settle s.station }) hrun

theorem Station.settle_running {st : Station} (h : st.mode = .running) (before : Station) :
    (st.settle before).blocks = Blocks.settle st.geometry before.scene st.scene before.blocks st.blocks := by
  unfold Station.settle
  rw [if_pos h]
  rfl

/-! ### A station that rests -/

/-- A refill adds no job to thirty (R125). -/
theorem Blocks.refill_resting {change : Half} {b : Blocks} (h : b.decode.deferred = false ∨ 30 ≤ b.decode.pageJobs.length) :
    b.refill change = b := by
  rcases h with h | h
  · exact Blocks.refill_clear h
  · unfold Blocks.refill
    rw [if_neg]
    simp only [Bool.and_eq_true, decide_eq_true_eq, not_and, Nat.not_lt]
    exact fun _ => h

/-- No Want can be queued (R120). -/
def Link.Full (l : Link) : Prop := l.silent = true ∨ 4 ≤ l.queue.length

theorem Link.Full.enqueue {l : Link} (h : l.Full) (m : Message) : (l.enqueue m).Full := by
  unfold Link.enqueue
  split
  · exact h
  · split
    · exact h
    · exact h.imp_right fun hq => by simp; omega

/-- What the end of an event leaves of a station that rests. -/
structure Blocks.Rests (b c : Blocks) : Prop where
  store : c.store = b.store
  jobs : c.decode.pageJobs = b.decode.pageJobs
  running : c.decode.running = b.decode.running
  full : b.link.Full → c.link.Full

theorem Blocks.rests_refl (b : Blocks) : b.Rests b := ⟨rfl, rfl, rfl, id⟩

theorem Blocks.Rests.trans {b c d : Blocks} (h : b.Rests c) (k : c.Rests d) : b.Rests d :=
  ⟨k.store.trans h.store, k.jobs.trans h.jobs, k.running.trans h.running, k.full ∘ h.full⟩

theorem Blocks.rests_pageReadiness (sc : Scene) (b : Blocks) : b.Rests (b.pageReadiness sc) := by
  unfold Blocks.pageReadiness
  split
  · exact b.rests_refl
  · split
    · exact ⟨rfl, rfl, rfl, fun h => h.enqueue _⟩
    · exact b.rests_refl

theorem Blocks.rests_slideReadiness (sc : Scene) (b : Blocks) : b.Rests (b.slideReadiness sc) := by
  unfold Blocks.slideReadiness
  split
  · exact b.rests_refl
  · split
    · exact ⟨rfl, rfl, rfl, fun h => h.enqueue _⟩
    · exact b.rests_refl

/-- With a job in progress and no retry, refill, prefetch or Want to be done, only a Ready can be queued. -/
theorem Blocks.settle_rests {g : Geometry} {scBefore sc : Scene} {before b : Blocks} {r : Running}
    (hr : b.decode.running = some r) (hw : b.store.roomWait = [])
    (hd : b.decode.deferred = false ∨ 30 ≤ b.decode.pageJobs.length)
    (hp : prefetchDue scBefore sc before b = false) (hfull : b.link.Full) :
    b.Rests (Blocks.settle g scBefore sc before b) := by
  have hready := (Blocks.rests_pageReadiness sc b).trans (Blocks.rests_slideReadiness sc _)
  have hsettle : Blocks.settle g scBefore sc before b = (b.pageReadiness sc).slideReadiness sc := by
    unfold Blocks.settle
    dsimp only
    rw [Blocks.retryRoom_empty hw, Blocks.chooseJobs_busy hr, Blocks.refill_resting hd, Blocks.chooseJobs_busy hr, hp]
    exact Blocks.queueWants_full (hready.full hfull)
  rw [hsettle]
  exact hready

/-- An event that changes neither the slide show, nor what the back surface is held by, nor the batch, brings no prefetch test
(R134). -/
theorem prefetchDue_none {scBefore sc : Scene} {before b : Blocks}
    (hs : sc.slides = scBefore.slides) (hv : sc.show_ = scBefore.show_) (hl : sc.loop = scBefore.loop)
    (hc : sc.current = scBefore.current) (hi : sc.pendingIndex = scBefore.pendingIndex)
    (hb : b.bc.backFree = before.bc.backFree) (hh : b.decode.hasBatch = before.decode.hasBatch) :
    prefetchDue scBefore sc before b = false := by
  unfold prefetchDue
  simp [hs, hv, hl, hc, hi, hb, hh]

/-! ### The head that a close settles -/

theorem Link.closeMessage_silent (mine : Bool) (m : Option Message) (l : Link) :
    (l.closeMessage mine m).silent = l.silent := by
  unfold Link.closeMessage
  dsimp only
  split <;> rfl

/-- At most the head leaves the queue (R170). -/
theorem Link.closeMessage_queue (mine : Bool) (m : Option Message) (l : Link) :
    (l.closeMessage mine m).queue.length ≤ l.queue.length
      ∧ l.queue.length ≤ (l.closeMessage mine m).queue.length + 1 := by
  unfold Link.closeMessage
  dsimp only
  split
  · simp
    omega
  · simp

theorem Station.closed_full {st : Station} (h : st.Quiet) (src : Nat) (own : Option Message) :
    (st.closed src own).link.Full := by
  have hs := Link.closeMessage_silent (decide (src = st.number)) own st.blocks.link
  have hq := Link.closeMessage_queue (decide (src = st.number)) own st.blocks.link
  rcases h.2.2.2 with h | h
  · exact .inl (hs.trans h)
  · refine .inr ?_
    change 4 ≤ (st.blocks.link.closeMessage _ own).queue.length
    omega

/-! ### A late switch (R59) -/

section NoteLate

variable (stream : Stream) (change : Half) (target : Long) (b : Blocks)

theorem Blocks.noteLate_link :
    (b.noteLate stream change target).link = if isLate b.bc.frame target then
      b.link.enqueue (.fault (lateFault stream change target b.bc.frame)) else b.link := by
  unfold Blocks.noteLate
  split <;> rfl

theorem Blocks.noteLate_store : (b.noteLate stream change target).store = b.store := by
  unfold Blocks.noteLate
  split <;> rfl

theorem Blocks.noteLate_decode : (b.noteLate stream change target).decode = b.decode := by
  unfold Blocks.noteLate
  split <;> rfl

theorem Blocks.noteLate_bc :
    (b.noteLate stream change target).bc = { b.bc with
      lateCount := if isLate b.bc.frame target then raiseLate b.bc.lateCount else b.bc.lateCount } := by
  unfold Blocks.noteLate
  split <;> rfl

end NoteLate

/-! ### A page switch handed over (R143) -/

/-- The display page after the catch-up of R143. -/
def Compositor.caughtUp (c : Compositor) : Option Nat :=
  match c.pageSwitch with
  | none => c.displayPage
  | some e => some e.page

theorem Blocks.catchUp_link (b : Blocks) : b.catchUp.link = b.link := by
  unfold Blocks.catchUp
  split <;> rfl

theorem Blocks.catchUp_decode (b : Blocks) : b.catchUp.decode = b.decode := by
  unfold Blocks.catchUp
  split <;> rfl

/-- The catch-up: a held page switch takes effect and leaves, its buttons with it. -/
theorem Blocks.catchUp_bc (b : Blocks) :
    b.catchUp.bc = { b.bc with
      displayPage := b.bc.caughtUp
      heldButtons := b.catchUp.bc.heldButtons
      pageSwitch := none } := by
  unfold Blocks.catchUp Compositor.caughtUp
  cases h : b.bc.pageSwitch with
  | none =>
    change b.bc = { b.bc with pageSwitch := none }
    rw [← h]
  | some e => rfl

/-- With the switch the shown page's set becomes the display role's (R115). -/
theorem Blocks.catchUp_store (b : Blocks) :
    b.catchUp.store = if b.bc.pageSwitch.isSome then b.store.setRoles (fun r => { r with display := r.shown })
      else b.store := by
  unfold Blocks.catchUp
  cases b.bc.pageSwitch <;> rfl

section HandPage

variable (page : Nat) (change : Half) (target : Long) (live : List Live) (b : Blocks)

theorem Blocks.handPage_link :
    (b.handPage page change target live).link = if isLate b.bc.frame target then
      b.link.enqueue (.fault (lateFault .page change target b.bc.frame)) else b.link := by
  refine (Blocks.noteLate_link _ _ _ _).trans ?_
  rw [Blocks.withBc_bc, Blocks.withBc_link, Blocks.catchUp_link, Blocks.catchUp_bc]

theorem Blocks.handPage_store : (b.handPage page change target live).store = b.catchUp.store :=
  Blocks.noteLate_store _ _ _ _

theorem Blocks.handPage_decode : (b.handPage page change target live).decode = b.decode :=
  (Blocks.noteLate_decode _ _ _ _).trans b.catchUp_decode

theorem Blocks.handPage_bc :
    (b.handPage page change target live).bc = { b.bc with
      displayPage := b.bc.caughtUp
      heldButtons := if b.bc.caughtUp.isSome ∧ b.bc.caughtUp ≠ some page then some live else none
      pageSwitch := some { page := page, change := change, target := target, late := isLate b.bc.frame target }
      overrunReported := false
      lateCount := if isLate b.bc.frame target then raiseLate b.bc.lateCount else b.bc.lateCount } := by
  refine (Blocks.noteLate_bc _ _ _ _).trans ?_
  rw [Blocks.withBc_bc, Blocks.catchUp_bc]

end HandPage

/-- A Fault of a late switch stands in the queue of a link that had room for it (R59). -/
theorem Link.mem_enqueue {l : Link} {m : Message} (hs : l.silent = false) (hq : l.queue.length < 8) :
    m ∈ (l.enqueue m).queue := by
  unfold Link.enqueue
  rw [if_neg (by simp [hs]), if_neg (show ¬ Config.queueLimit ≤ l.queue.length from Nat.not_le.mpr hq)]
  simp

theorem Link.Grows.mem {l m : Link} (h : l.Grows m) {x : Message} (hx : x ∈ l.queue) : x ∈ m.queue := by
  obtain ⟨-, ⟨added, hq, -⟩, -⟩ := h
  rw [hq]
  exact List.mem_append_left _ hx

/-! ### The page switch applied -/

section Shifted

variable (page : Nat) (change : Half) (target : Long) (live : List Live) (b : Blocks)

/-- The blocks of an applied page Switch (R58, R143). -/
def Blocks.switched : Blocks := (b.handPage page change target live).shiftPageRoles

theorem Blocks.switched_link :
    (b.switched page change target live).link = if isLate b.bc.frame target then
      b.link.enqueue (.fault (lateFault .page change target b.bc.frame)) else b.link := Blocks.handPage_link _ _ _ _ _

theorem Blocks.switched_bc :
    (b.switched page change target live).bc = { b.bc with
      displayPage := b.bc.caughtUp
      heldButtons := if b.bc.caughtUp.isSome ∧ b.bc.caughtUp ≠ some page then some live else none
      pageSwitch := some { page := page, change := change, target := target, late := isLate b.bc.frame target }
      overrunReported := false
      lateCount := if isLate b.bc.frame target then raiseLate b.bc.lateCount else b.bc.lateCount } :=
  Blocks.handPage_bc _ _ _ _ _

theorem Blocks.switched_roomWait : (b.switched page change target live).store.roomWait = b.store.roomWait := by
  change (b.handPage page change target live).store.roomWait = _
  rw [Blocks.handPage_store, Blocks.catchUp_store]
  split <;> rfl

theorem Blocks.switched_roles :
    (b.switched page change target live).store.roles = { b.store.roles with
      display := if b.bc.pageSwitch.isSome then b.store.roles.shown else b.store.roles.display
      shown := b.store.roles.pending, pending := RoleSet.empty } := by
  have h : (b.handPage page change target live).store.roles = { b.store.roles with
      display := if b.bc.pageSwitch.isSome then b.store.roles.shown else b.store.roles.display } := by
    rw [Blocks.handPage_store, Blocks.catchUp_store]
    split <;> rfl
  change { (b.handPage page change target live).store.roles with
    shown := (b.handPage page change target live).store.roles.pending, pending := RoleSet.empty } = _
  rw [h]

/-- A job stays queued only for a strip of the new shown page's set (R128). -/
theorem Blocks.switched_decode :
    (b.switched page change target live).decode = { b.decode with
      pageJobs := b.decode.pageJobs.filter (fun j => b.store.roles.pending.strips.contains j.id) } := by
  have hroles : (b.handPage page change target live).store.roles.pending = b.store.roles.pending := by
    rw [Blocks.handPage_store, Blocks.catchUp_store]
    split <;> rfl
  change { (b.handPage page change target live).decode with
    pageJobs := (b.handPage page change target live).decode.pageJobs.filter
      (fun j => (b.handPage page change target live).store.roles.pending.strips.contains j.id) } = _
  rw [Blocks.handPage_decode, hroles]

end Shifted

theorem Scene.switchPage_keepsSlides (p : Nat) (sc : Scene) :
    (sc.switchPage p).slides = sc.slides ∧ (sc.switchPage p).show_ = sc.show_ ∧ (sc.switchPage p).loop = sc.loop
      ∧ (sc.switchPage p).current = sc.current ∧ (sc.switchPage p).pendingIndex = sc.pendingIndex := by
  obtain ⟨words, live, -, h⟩ := sc.switchPage_frame p
  rw [h]
  exact ⟨rfl, rfl, rfl, rfl, rfl⟩

/-- The end of the event of an applied page Switch at a quiet station brings nothing but Readys. -/
theorem Station.switchPage_rests {st : Station} (hs : st.Quiet) (hm : st.mode = .running) (src p : Nat)
    (own : Option Message) (target : Long) :
    Blocks.Rests ((st.heard src own).switchPage p target).blocks
      (((st.heard src own).switchPage p target).settle st).blocks := by
  rw [Station.settle_running (show ((st.heard src own).switchPage p target).mode = _ from hm)]
  have hdecode : ((st.heard src own).switchPage p target).blocks.decode = { st.blocks.decode with
      pageJobs := st.blocks.decode.pageJobs.filter (fun j => st.blocks.store.roles.pending.strips.contains j.id) } :=
    Blocks.switched_decode _ _ _ _ _
  have hbc := Blocks.switched_bc p st.scene.pageChange target st.scene.live (st.closed src own)
  have hlink := Blocks.switched_link p st.scene.pageChange target st.scene.live (st.closed src own)
  have hfull := Station.closed_full hs src own
  obtain ⟨hslides, hshow, hloop, hcur, hidx⟩ := st.scene.switchPage_keepsSlides p
  obtain ⟨hrun, hdef, hroom, -⟩ := hs
  obtain ⟨r, hr⟩ := Option.isSome_iff_exists.mp hrun
  refine Blocks.settle_rests (r := r) (by rw [hdecode]; exact hr) ?_ (.inl (by rw [hdecode]; exact hdef))
    (prefetchDue_none hslides hshow hloop hcur hidx ?_ (by rw [hdecode]; rfl)) ?_
  · exact (Blocks.switched_roomWait _ _ _ _ _).trans hroom
  · change (Blocks.switched p st.scene.pageChange target st.scene.live (st.closed src own)).bc.backFree = _
    rw [hbc]
    rfl
  · change (Blocks.switched p st.scene.pageChange target st.scene.live (st.closed src own)).link.Full
    rw [hlink]
    split
    · exact hfull.enqueue _
    · exact hfull

/-- Settles O34: what is handed over, and what the end of the event leaves of it. -/
theorem pageSwitchIsHandedOver : Obligations.PageSwitchIsHandedOver := by
  intro s src p target flag late display hs hsrc hsp hp hdisplay hlate
  obtain ⟨body, hbody⟩ : ∃ body : SwitchBody, body = { stream := 0, index := p, change := s.station.scene.pageChange
                                                       target := target, partialFlag := flag } := ⟨_, rfl⟩
  obtain ⟨own, hown⟩ : ∃ own, own = some (Message.switch body) := ⟨_, rfl⟩
  have hexec : exec (.switch src body) s
      = .next { s with station := ((s.station.heard src own).switchPage p target).settle s.station } := by
    rw [hown, hbody]
    exact State.close_settles hs hsrc (Station.applySwitch_page (st := s.station.heard src _) hsp hp)
  rw [← hbody]
  have hends := Station.settle_ends ((s.station.heard src own).switchPage p target) s.station
  have hrests := fun hq : s.station.Quiet => Station.switchPage_rests hq hs.1 src p own target
  obtain ⟨c, hc, hlink, hstore, hbc⟩ := Station.settle_eq ((s.station.heard src own).switchPage p target) s.station
  rw [hc] at hexec hends hrests
  have hlive : (s.station.closed src own).bc.caughtUp = display := by
    rw [hdisplay]
    rfl
  have hlateEq : isLate s.station.blocks.bc.frame target = late := hlate.symm
  have hswitched : ((s.station.heard src own).switchPage p target).blocks
      = (s.station.closed src own).switched p s.station.scene.pageChange target s.station.scene.live := rfl
  have hroles : c.store.roles = _ := (Store.worked_roles hstore).trans
    ((congrArg (fun b : Blocks => b.store.roles) hswitched).trans (Blocks.switched_roles _ _ _ _ _))
  have hdecode : ((s.station.heard src own).switchPage p target).blocks.decode = _ := Blocks.switched_decode _ _ _ _ _
  have hbc := show c.bc = { ((s.station.heard src own).switchPage p target).blocks.bc with back := c.bc.back } from hbc
  rw [hswitched, Blocks.switched_bc, hlive] at hbc
  refine ⟨_, hexec, ?_, ?_, ?_, ?_, ?_, hroles, fun hl hsilent hq => ?_, fun j hj => ?_, fun hq => ⟨?_, ?_⟩⟩
  · change c.bc.pageSwitch = _
    rw [hbc, ← hlateEq]
  · change c.bc.displayPage = _
    rw [hbc]
  · change c.bc.heldButtons = _
    rw [hbc]
    cases display with
    | none => rfl
    | some q => by_cases hqp : q = p <;> simp [hqp]
  · change c.bc.overrunReported = _
    rw [hbc]
  · change c.bc.lateCount = _
    rw [hbc]
    change (if isLate s.station.blocks.bc.frame target then raiseLate s.station.blocks.bc.lateCount
      else s.station.blocks.bc.lateCount) = _
    rw [hlateEq]
    unfold raiseLate Config.lateLimit
    cases late <;> simp
  · refine hlink.mem ?_
    rw [hswitched, Blocks.switched_link, if_pos (show isLate s.station.blocks.bc.frame target = true from hlateEq.trans hl)]
    refine Link.mem_enqueue ((Link.closeMessage_silent _ _ _).trans hsilent) ?_
    exact Nat.lt_of_le_of_lt (Link.closeMessage_queue _ _ _).1 hq
  · rcases hends.jobs.2 j hj with hj | hj
    · rw [hdecode] at hj
      exact (List.mem_filter.mp hj).2
    · rw [hswitched, Blocks.switched_roles] at hj
      refine hj.elim (fun hempty => absurd hempty (by simp [RoleSet.empty])) fun hshown => ?_
      exact List.contains_iff_mem.mpr hshown
  · exact (hrests hq).running.trans (by rw [hdecode]; rfl)
  · exact (hrests hq).jobs.trans (by rw [hdecode]; rfl)

end Sys2Proof.Machine

/-! SUPPORT. The Want list: what joins it is on it while it has room (R53, R119). -/

namespace Sys2Proof.Machine

/-! ### Ranges replaced -/

theorem mem_replaceFirst_of_not {f : WantRange → Bool} {new r : WantRange} {l : List WantRange} (h : r ∈ l)
    (hf : f r = false) : r ∈ replaceFirst f new l := by
  induction l with
  | nil => exact absurd h (by simp)
  | cons q l ih =>
    unfold replaceFirst
    by_cases hq : f q = true
    · rw [if_pos hq]
      rcases List.mem_cons.mp h with rfl | h
      · rw [hf] at hq
        exact absurd hq (by simp)
      · exact List.mem_cons_of_mem _ (List.mem_filter.mpr ⟨h, by simp [hf]⟩)
    · rw [if_neg hq]
      rcases List.mem_cons.mp h with rfl | h
      · exact List.mem_cons_self
      · exact List.mem_cons_of_mem _ (ih h)

theorem new_mem_replaceFirst {f : WantRange → Bool} {new : WantRange} {l : List WantRange} (h : l.any f = true) :
    new ∈ replaceFirst f new l := by
  induction l with
  | nil => exact absurd h (by simp)
  | cons q l ih =>
    unfold replaceFirst
    by_cases hq : f q = true
    · rw [if_pos hq]
      exact List.mem_cons_self
    · rw [if_neg hq]
      exact List.mem_cons_of_mem _ (ih (by simpa [hq] using h))

theorem length_replaceFirst_le (f : WantRange → Bool) (new : WantRange) (l : List WantRange) :
    (replaceFirst f new l).length ≤ l.length := by
  induction l with
  | nil => exact Nat.le_refl _
  | cons q l ih =>
    unfold replaceFirst
    split
    · exact Nat.succ_le_succ (List.length_filter_le _ _)
    · exact Nat.succ_le_succ ih

/-! ### Strips on the list -/

/-- A range of the list covers the strip. -/
def Wanted (a i : Nat) (l : List WantRange) : Prop := ∃ r ∈ l, r.covers a i i = true

theorem WantRange.covers_iff (a f e : Nat) (r : WantRange) :
    r.covers a f e = true ↔ r.asset = a ∧ ∀ f' e', r.span = some (f', e') → f' ≤ f ∧ e ≤ e' := by
  unfold WantRange.covers
  cases h : r.span with
  | none => simp
  | some run =>
    obtain ⟨f', e'⟩ := run
    simp

theorem WantRange.grow_fst_le (r : WantRange) (run : Nat × Nat) : (r.grow run).1 ≤ run.1 := by
  unfold WantRange.grow
  split
  · exact Nat.le_refl _
  · exact Nat.min_le_left _ _

theorem WantRange.le_grow_snd (r : WantRange) (run : Nat × Nat) : run.2 ≤ (r.grow run).2 := by
  unfold WantRange.grow
  split
  · exact Nat.le_refl _
  · exact Nat.le_max_left _ _

/-- A run grown over a list of ranges spans itself and each of them. -/
theorem foldl_grow_spans (l : List WantRange) (run : Nat × Nat) :
    (l.foldl (fun run r => r.grow run) run).1 ≤ run.1 ∧ run.2 ≤ (l.foldl (fun run r => r.grow run) run).2
      ∧ ∀ r ∈ l, ∀ f e, r.span = some (f, e) →
        (l.foldl (fun run r => r.grow run) run).1 ≤ f ∧ e ≤ (l.foldl (fun run r => r.grow run) run).2 := by
  induction l generalizing run with
  | nil => exact ⟨Nat.le_refl _, Nat.le_refl _, by simp⟩
  | cons q l ih =>
    obtain ⟨h1, h2, h3⟩ := ih (q.grow run)
    refine ⟨h1.trans (q.grow_fst_le run), (q.le_grow_snd run).trans h2, fun r hr f e hs => ?_⟩
    rcases List.mem_cons.mp hr with rfl | hr
    · have hgrow : r.grow run = (min run.1 f, max run.2 e) := by
        unfold WantRange.grow
        rw [hs]
      rw [List.foldl_cons]
      rw [hgrow] at h1 h2 ⊢
      exact ⟨h1.trans (Nat.min_le_right _ _), (Nat.le_max_right _ _).trans h2⟩
    · exact h3 r hr f e hs

section AddRun

variable {a f e : Nat} {l : List WantRange}

theorem length_addRun_le : (addRun a f e l).length ≤ l.length + 1 := by
  unfold addRun
  split
  · omega
  · split
    · exact (length_replaceFirst_le _ _ _).trans (Nat.le_succ _)
    · split
      · simp
      · omega

/-- A run that joins the list covers its strips while the list has room (R119). -/
theorem wanted_addRun {i : Nat} (hroom : l.length < 64) (hf : f ≤ i) (he : i ≤ e) : Wanted a i (addRun a f e l) := by
  unfold addRun
  split
  · next h =>
    obtain ⟨r, hr, hcov⟩ := List.any_eq_true.mp h
    obtain ⟨ha, hspan⟩ := (WantRange.covers_iff _ _ _ _).mp hcov
    refine ⟨r, hr, (WantRange.covers_iff _ _ _ _).mpr ⟨ha, fun f' e' hs => ?_⟩⟩
    obtain ⟨h1, h2⟩ := hspan f' e' hs
    exact ⟨h1.trans hf, he.trans h2⟩
  · split
    · next h =>
      refine ⟨_, new_mem_replaceFirst h, (WantRange.covers_iff _ _ _ _).mpr ⟨rfl, fun f' e' hs => ?_⟩⟩
      obtain ⟨h1, h2, -⟩ := foldl_grow_spans (l.filter (WantRange.touches a f e)) (f, e)
      have hs := Option.some.inj hs
      rw [hs] at h1 h2
      exact ⟨h1.trans hf, he.trans h2⟩
    · rw [if_pos (show l.length < Config.wantLimit from hroom)]
      refine ⟨_, List.mem_append_right _ List.mem_cons_self, (WantRange.covers_iff _ _ _ _).mpr ⟨rfl, fun f' e' hs => ?_⟩⟩
      cases hs
      exact ⟨hf, he⟩

/-- A run that joins the list loses no strip of it (R119). -/
theorem Wanted.addRun {a' i : Nat} (h : Wanted a' i l) : Wanted a' i (addRun a f e l) := by
  obtain ⟨r, hr, hcov⟩ := h
  obtain ⟨ha, hspan⟩ := (WantRange.covers_iff _ _ _ _).mp hcov
  unfold Machine.addRun
  split
  · exact ⟨r, hr, hcov⟩
  · split
    · next hany =>
      by_cases ht : r.touches a f e = true
      · have hra : r.asset = a := by
          unfold WantRange.touches at ht
          simp only [Bool.and_eq_true, beq_iff_eq] at ht
          exact ht.1
        refine ⟨_, new_mem_replaceFirst hany, (WantRange.covers_iff _ _ _ _).mpr ⟨hra.symm.trans ha, fun f' e' hs => ?_⟩⟩
        have hs := Option.some.inj hs
        cases hrs : r.span with
        | none =>
          unfold WantRange.touches at ht
          rw [hrs] at ht
          simp at ht
        | some run =>
          obtain ⟨f0, e0⟩ := run
          obtain ⟨-, -, h3⟩ := foldl_grow_spans (l.filter (WantRange.touches a f e)) (f, e)
          have h3 := h3 r (List.mem_filter.mpr ⟨hr, ht⟩) f0 e0 hrs
          obtain ⟨k1, k2⟩ := hspan f0 e0 hrs
          rw [hs] at h3
          exact ⟨h3.1.trans k1, k2.trans h3.2⟩
      · exact ⟨r, mem_replaceFirst_of_not hr (by simpa using ht), hcov⟩
    · split
      · exact ⟨r, List.mem_append_left _ hr, hcov⟩
      · exact ⟨r, hr, hcov⟩

end AddRun

/-! ### Runs of strips -/

theorem length_runsOf_le (strips : List Strip) : (runsOf strips).length ≤ strips.length := by
  induction strips with
  | nil => exact Nat.le_refl _
  | cons k l ih =>
    unfold runsOf
    split
    · simp
    · next a f e rest h =>
      rw [h] at ih
      simp only [List.length_cons] at ih ⊢
      split
      · simp only [List.length_cons]
        omega
      · simp only [List.length_cons]
        omega

/-- The runs hold every strip of the list. -/
theorem mem_runsOf (strips : List Strip) :
    (∀ run ∈ runsOf strips, run.2.1 ≤ run.2.2)
      ∧ ∀ k ∈ strips, ∃ run ∈ runsOf strips, run.1 = k.asset ∧ run.2.1 ≤ k.index ∧ k.index ≤ run.2.2 := by
  induction strips with
  | nil => exact ⟨by simp [runsOf], by simp⟩
  | cons k l ih =>
    obtain ⟨hle, hmem⟩ := ih
    unfold runsOf
    split
    · next h =>
      rw [h] at hmem
      refine ⟨by simp, fun q hq => ?_⟩
      rcases List.mem_cons.mp hq with rfl | hq
      · exact ⟨_, List.mem_cons_self, rfl, Nat.le_refl _, Nat.le_refl _⟩
      · obtain ⟨run, hrun, -⟩ := hmem q hq
        exact absurd hrun (by simp)
    · next a f e rest h =>
      rw [h] at hle hmem
      have hfe : f ≤ e := hle _ List.mem_cons_self
      split
      · next hjoin =>
        obtain ⟨ha, hf⟩ := hjoin
        refine ⟨fun run hrun => ?_, fun q hq => ?_⟩
        · rcases List.mem_cons.mp hrun with rfl | hrun
          · change k.index ≤ e
            omega
          · exact hle run (List.mem_cons_of_mem _ hrun)
        · rcases List.mem_cons.mp hq with rfl | hq
          · refine ⟨_, List.mem_cons_self, ha, Nat.le_refl _, ?_⟩
            change q.index ≤ e
            omega
          · obtain ⟨run, hrun, h1, h2, h3⟩ := hmem q hq
            rcases List.mem_cons.mp hrun with rfl | hrun
            · refine ⟨_, List.mem_cons_self, h1, ?_, h3⟩
              change k.index ≤ q.index
              change f ≤ q.index at h2
              omega
            · exact ⟨run, List.mem_cons_of_mem _ hrun, h1, h2, h3⟩
      · refine ⟨fun run hrun => ?_, fun q hq => ?_⟩
        · rcases List.mem_cons.mp hrun with rfl | hrun
          · exact Nat.le_refl _
          · exact hle run hrun
        · rcases List.mem_cons.mp hq with rfl | hq
          · exact ⟨_, List.mem_cons_self, rfl, Nat.le_refl _, Nat.le_refl _⟩
          · obtain ⟨run, hrun, h1⟩ := hmem q hq
            exact ⟨run, List.mem_cons_of_mem _ hrun, h1⟩

theorem foldl_addRun (runs : List (Nat × Nat × Nat)) (l : List WantRange) :
    (runs.foldl (fun l run => addRun run.1 run.2.1 run.2.2 l) l).length ≤ l.length + runs.length
      ∧ (∀ a i, Wanted a i l → Wanted a i (runs.foldl (fun l run => addRun run.1 run.2.1 run.2.2 l) l))
      ∧ (l.length + runs.length ≤ 64 → ∀ run ∈ runs, ∀ i, run.2.1 ≤ i → i ≤ run.2.2 →
        Wanted run.1 i (runs.foldl (fun l run => addRun run.1 run.2.1 run.2.2 l) l)) := by
  induction runs generalizing l with
  | nil => exact ⟨Nat.le_refl _, fun _ _ h => h, by simp⟩
  | cons q runs ih =>
    obtain ⟨hlen, hkeep, hnew⟩ := ih (addRun q.1 q.2.1 q.2.2 l)
    have hone := length_addRun_le (a := q.1) (f := q.2.1) (e := q.2.2) (l := l)
    simp only [List.length_cons, List.foldl_cons]
    refine ⟨by omega, fun a i h => hkeep a i h.addRun, fun hroom run hrun i hf he => ?_⟩
    rcases List.mem_cons.mp hrun with rfl | hrun
    · exact hkeep _ _ (wanted_addRun (by omega) hf he)
    · exact hnew (by omega) run hrun i hf he

/-- Strips that join the list are on it while it has room (R119). -/
theorem addStrips_wanted (strips : List Strip) (l : List WantRange) :
    (addStrips strips l).length ≤ l.length + strips.length
      ∧ (l.length + strips.length ≤ 64 → ∀ k ∈ strips, Wanted k.asset k.index (addStrips strips l)) := by
  obtain ⟨hlen, -, hnew⟩ := foldl_addRun (runsOf strips) l
  have hruns := length_runsOf_le strips
  refine ⟨hlen.trans (by omega), fun hroom k hk => ?_⟩
  obtain ⟨run, hrun, ha, hf, he⟩ := (mem_runsOf strips).2 k hk
  have := hnew (by omega) run hrun k.index hf he
  rwa [ha] at this

/-! ### Whole assets -/

section AddWhole

variable {a : Nat} {l : List WantRange}

theorem length_addWhole_le : (addWhole a l).length ≤ l.length + 1 := by
  unfold addWhole
  split
  · omega
  · split
    · exact (length_replaceFirst_le _ _ _).trans (Nat.le_succ _)
    · split
      · simp
      · omega

theorem mem_addWhole (hroom : l.length < 64) : { asset := a, span := none } ∈ addWhole a l := by
  unfold addWhole
  split
  · next h =>
    obtain ⟨⟨ra, rs⟩, hr, hcov⟩ := List.any_eq_true.mp h
    simp only [Bool.and_eq_true, beq_iff_eq] at hcov
    obtain ⟨rfl, rfl⟩ := hcov
    exact hr
  · split
    · next h => exact new_mem_replaceFirst h
    · rw [if_pos (show l.length < Config.wantLimit from hroom)]
      exact List.mem_append_right _ List.mem_cons_self

/-- A whole asset that joins the list loses no whole asset of it (R119). -/
theorem mem_addWhole_of_mem {q : Nat} (h : { asset := q, span := none } ∈ l) : { asset := q, span := none } ∈ addWhole a l := by
  unfold addWhole
  split
  · exact h
  · next hno =>
    split
    · refine mem_replaceFirst_of_not h (Bool.eq_false_iff.mpr fun hq => hno ?_)
      exact List.any_eq_true.mpr ⟨_, h, by simpa using hq⟩
    · split
      · exact List.mem_append_left _ h
      · exact h

theorem Wanted.addWhole {b i : Nat} (h : Wanted b i l) : Wanted b i (addWhole a l) := by
  obtain ⟨r, hr, hcov⟩ := h
  obtain ⟨hb, -⟩ := (WantRange.covers_iff _ _ _ _).mp hcov
  unfold Machine.addWhole
  split
  · exact ⟨r, hr, hcov⟩
  · split
    · next hany =>
      by_cases hra : r.asset = a
      · exact ⟨_, new_mem_replaceFirst hany, (WantRange.covers_iff _ _ _ _).mpr ⟨hra.symm.trans hb, by simp⟩⟩
      · exact ⟨r, mem_replaceFirst_of_not hr (by simpa using hra), hcov⟩
    · split
      · exact ⟨r, List.mem_append_left _ hr, hcov⟩
      · exact ⟨r, hr, hcov⟩

end AddWhole

theorem foldl_addWhole (assets : List Nat) (l : List WantRange) :
    (∀ b i, Wanted b i l → Wanted b i (assets.foldl (fun l a => addWhole a l) l))
      ∧ (∀ q, { asset := q, span := none } ∈ l → { asset := q, span := none } ∈ assets.foldl (fun l a => addWhole a l) l)
      ∧ (l.length + assets.length ≤ 64 → ∀ q ∈ assets,
        { asset := q, span := none } ∈ assets.foldl (fun l a => addWhole a l) l) := by
  induction assets generalizing l with
  | nil => exact ⟨fun _ _ h => h, fun _ h => h, by simp⟩
  | cons p assets ih =>
    obtain ⟨hkeep, hwhole, hnew⟩ := ih (addWhole p l)
    have hone := length_addWhole_le (a := p) (l := l)
    simp only [List.length_cons, List.foldl_cons]
    refine ⟨fun b i h => hkeep b i h.addWhole, fun q h => hwhole q (mem_addWhole_of_mem h), fun hroom q hq => ?_⟩
    rcases List.mem_cons.mp hq with rfl | hq
    · exact hwhole _ (mem_addWhole (by omega))
    · exact hnew (by omega) q hq

theorem Stations.length_insert_le (n : Nat) (l : List Nat) : (Stations.insert n l).length ≤ l.length + 1 := by
  induction l with
  | nil => exact Nat.le_refl _
  | cons k l ih =>
    unfold Stations.insert
    split
    · simp
    · split
      · simp
      · simpa using ih

theorem Stations.length_sort_le (l : List Nat) : (Stations.sort l).length ≤ l.length := by
  unfold Stations.sort
  induction l with
  | nil => exact Nat.le_refl _
  | cons k l ih => exact (Stations.length_insert_le k _).trans (Nat.succ_le_succ ih)

/-! ### What a need computation puts on the list -/

theorem Store.wantSet_wants (r : RoleSet) (s : Store) :
    (s.wantSet r).wants
      = r.unresolvedAssets.foldl (fun l a => addWhole a l) (addStrips (r.strips.filter s.isShort) s.wants) := rfl

/-- Where the list has room, the short strips and the unresolved assets of the set are on it (R53, R119). -/
theorem Store.wantSet_wanted {r : RoleSet} {s : Store}
    (hroom : s.wants.length + r.strips.length + r.unresolved.length ≤ 64) :
    (∀ k ∈ r.strips, s.isShort k = true → Wanted k.asset k.index (s.wantSet r).wants)
      ∧ ∀ pl ∈ r.unresolved, { asset := pl.asset, span := none } ∈ (s.wantSet r).wants := by
  have hshort : (r.strips.filter s.isShort).length ≤ r.strips.length := List.length_filter_le _ _
  have hassets : r.unresolvedAssets.length ≤ r.unresolved.length := by
    rw [← List.length_map Placement.asset]
    exact Stations.length_sort_le _
  obtain ⟨hlen, hstrips⟩ := addStrips_wanted (r.strips.filter s.isShort) s.wants
  obtain ⟨hkeep, -, hnew⟩ := foldl_addWhole r.unresolvedAssets (addStrips (r.strips.filter s.isShort) s.wants)
  rw [Store.wantSet_wants]
  refine ⟨fun k hk hs => hkeep _ _ (hstrips (by omega) k (List.mem_filter.mpr ⟨hk, hs⟩)), fun pl hpl => ?_⟩
  exact hnew (by omega) _ ((Stations.mem_sort _ _).mpr (List.mem_map_of_mem hpl))

end Sys2Proof.Machine

/-! SUPPORT. A page change begins: the jobs it offers (R51, R53, R125), what it asks for (R53, R119), and what a quiet station
keeps of it. -/

namespace Sys2Proof.Machine

/-! ### Offers -/

section Offer

variable (change : Half) (k : Strip) (d : Decode)

/-- An offered strip has a job, or the deferred mark is set over thirty (R125). -/
theorem Decode.offer_cases :
    d.offer change k = d ∧ d.hasJob k = true
      ∨ d.offer change k = { d with pageJobs := d.pageJobs ++ [{ id := k, tag := change }] }
      ∨ d.offer change k = { d with deferred := true } ∧ 30 ≤ d.pageJobs.length := by
  unfold Decode.offer
  split
  · next h => exact .inl ⟨rfl, h⟩
  · split
    · exact .inr (.inl rfl)
    · next h => exact .inr (.inr ⟨rfl, Nat.not_lt.mp h⟩)

theorem Decode.offer_has : (d.offer change k).hasJob k = true ∨ (d.offer change k).deferred = true := by
  rcases Decode.offer_cases change k d with ⟨h, hk⟩ | h | ⟨h, -⟩
  · rw [h]
    exact .inl hk
  · rw [h]
    exact .inl (by simp [Decode.hasJob])
  · rw [h]
    exact .inr rfl

theorem Decode.offer_keeps {q : Strip} (h : d.hasJob q = true ∨ d.deferred = true) :
    (d.offer change k).hasJob q = true ∨ (d.offer change k).deferred = true := by
  rcases Decode.offer_cases change k d with ⟨he, -⟩ | he | ⟨he, -⟩
  · rw [he]
    exact h
  · rw [he]
    refine h.imp_left fun h => ?_
    simp only [Decode.hasJob, List.any_append, Bool.or_eq_true] at h ⊢
    exact h.imp_left .inl
  · rw [he]
    exact .inr rfl

theorem Decode.offer_full (h : d.deferred = true → 30 ≤ d.pageJobs.length) :
    (d.offer change k).deferred = true → 30 ≤ (d.offer change k).pageJobs.length := by
  rcases Decode.offer_cases change k d with ⟨he, -⟩ | he | ⟨he, hle⟩
  · rw [he]
    exact h
  · rw [he]
    exact fun hd => (h hd).trans (by simp)
  · rw [he]
    exact fun _ => hle

end Offer

section OfferAll

variable {change : Half}

theorem Decode.offerAll_keeps {q : Strip} (l : List Strip) {d : Decode} (h : d.hasJob q = true ∨ d.deferred = true) :
    (d.offerAll change l).hasJob q = true ∨ (d.offerAll change l).deferred = true := by
  unfold Decode.offerAll
  induction l generalizing d with
  | nil => exact h
  | cons k l ih => exact ih (Decode.offer_keeps change k d h)

/-- Each strip offered has a job then, or was declined with the deferred mark set (R53, R125). -/
theorem Decode.offerAll_has {l : List Strip} {k : Strip} (hk : k ∈ l) (d : Decode) :
    (d.offerAll change l).hasJob k = true ∨ (d.offerAll change l).deferred = true := by
  induction l generalizing d with
  | nil => exact absurd hk (by simp)
  | cons q l ih =>
    rcases List.mem_cons.mp hk with rfl | hk
    · exact Decode.offerAll_keeps l (Decode.offer_has change k d)
    · exact ih hk (d.offer change q)

theorem Decode.mem_offerAll {l : List Strip} {j : PageJob} {d : Decode} (h : j ∈ (d.offerAll change l).pageJobs) :
    j ∈ d.pageJobs ∨ (j.tag = change ∧ j.id ∈ l) := by
  induction l generalizing d with
  | nil => exact .inl h
  | cons q l ih =>
    rcases ih (d := d.offer change q) h with h | ⟨ht, hl⟩
    · rcases Decode.mem_offer h with h | rfl
      · exact .inl h
      · exact .inr ⟨rfl, List.mem_cons_self⟩
    · exact .inr ⟨ht, List.mem_cons_of_mem _ hl⟩

theorem Decode.offerAll_full (l : List Strip) {d : Decode} (h : d.deferred = true → 30 ≤ d.pageJobs.length) :
    (d.offerAll change l).deferred = true → 30 ≤ (d.offerAll change l).pageJobs.length := by
  unfold Decode.offerAll
  induction l generalizing d with
  | nil => exact h
  | cons k l ih => exact ih (Decode.offer_full change k d h)

theorem Decode.offer_hasBatch (k : Strip) (d : Decode) : (d.offer change k).hasBatch = d.hasBatch := by
  rcases Decode.offer_cases change k d with ⟨he, -⟩ | he | ⟨he, -⟩
  · rw [he]
  · rw [he]
    rfl
  · rw [he]
    rfl

theorem Decode.offerAll_hasBatch (l : List Strip) (d : Decode) : (d.offerAll change l).hasBatch = d.hasBatch := by
  unfold Decode.offerAll
  induction l generalizing d with
  | nil => rfl
  | cons k l ih => exact (ih _).trans (Decode.offer_hasBatch k d)

end OfferAll

/-! ### Pins change no entry's state -/

theorem Table.find_map {α : Type} {key : α → Strip} {f : α → α} (hf : ∀ x, key (f x) = key x) (k : Strip) (l : List α) :
    Table.find key k (l.map f) = (Table.find key k l).map f := by
  induction l with
  | nil => rfl
  | cons e l ih =>
    rw [List.map_cons]
    unfold Table.find
    rw [hf]
    split
    · rfl
    · exact ih

section SetRoles

variable (f : Roles → Roles) (s : Store) (k : Strip)

theorem Store.findPacked_setRoles :
    (s.setRoles f).findPacked k = (s.findPacked k).map (fun e => { e with pins := (f s.roles).pins e.id }) :=
  Table.find_map (f := fun e : Packed => { e with pins := (f s.roles).pins e.id }) (fun _ => rfl) k s.packed

theorem Store.findOpened_setRoles :
    (s.setRoles f).findOpened k = (s.findOpened k).map (fun e => { e with pins := (f s.roles).pins e.id }) :=
  Table.find_map (f := fun e : Opened => { e with pins := (f s.roles).pins e.id }) (fun _ => rfl) k s.opened

theorem Store.isHeld_setRoles : (s.setRoles f).isHeld k = s.isHeld k := by
  unfold Store.isHeld
  rw [Store.findPacked_setRoles]
  cases s.findPacked k <;> rfl

theorem Store.isBroken_setRoles : (s.setRoles f).isBroken k = s.isBroken k := by
  unfold Store.isBroken
  rw [Store.findPacked_setRoles]
  cases s.findPacked k <;> rfl

theorem Store.isReady_setRoles : (s.setRoles f).isReady k = s.isReady k := by
  unfold Store.isReady
  rw [Store.findOpened_setRoles]
  cases s.findOpened k <;> rfl

end SetRoles

/-! ### What begins with a page change -/

section BeginPage

variable {g : Geometry} {superseded : Option Half} {change : Half} {pls : List Placement} {b : Blocks}

theorem Store.mem_offerable {need : RoleSet} {s : Store} {k : Strip} :
    k ∈ (s.pinPending need).offerable need ↔ k ∈ need.strips ∧ s.isHeld k = true ∧ s.isReady k = false := by
  have hheld : (s.pinPending need).isHeld k = s.isHeld k := Store.isHeld_setRoles (fun r => { r with pending := need }) s k
  have hready : (s.pinPending need).isReady k = s.isReady k := Store.isReady_setRoles (fun r => { r with pending := need }) s k
  unfold Store.offerable
  rw [List.mem_filter, hheld, hready]
  simp

/-- The Decode Unit of a begun change: the need set's offers, made after the superseded change's jobs are gone (R51, R53). -/
theorem Blocks.beginPage_decode :
    (b.beginPage g superseded change pls).decode
      = (b.dropSuperseded superseded).decode.prepare change
          ((b.store.pinPending (b.store.roleSet g pls)).offerable (b.store.roleSet g pls)) := by
  rw [Blocks.beginPage_eq]
  rfl

theorem Blocks.beginPage_store :
    (b.beginPage g superseded change pls).store
      = (b.store.pinPending (b.store.roleSet g pls)).wantSet (b.store.roleSet g pls) := by
  rw [Blocks.beginPage_eq]
  cases superseded <;> rfl

theorem Blocks.mem_dropSuperseded {j : PageJob} (h : j ∈ (b.dropSuperseded superseded).decode.pageJobs) :
    j ∈ b.decode.pageJobs ∧ ∀ old, superseded = some old → j.tag ≠ old := by
  cases superseded with
  | none => exact ⟨h, by simp⟩
  | some old =>
    obtain ⟨hj, ht⟩ := List.mem_filter.mp h
    exact ⟨hj, fun o ho => by cases ho; exact of_decide_eq_true ht⟩

theorem Blocks.dropSuperseded_frame :
    (b.dropSuperseded superseded).decode = { b.decode with
      pageJobs := (b.dropSuperseded superseded).decode.pageJobs } := by
  cases superseded <;> rfl

/-- Each Held strip of the need set that is not Ready has a job, or was declined (R53, R125). -/
theorem Blocks.beginPage_offers {k : Strip} (hk : k ∈ (b.store.roleSet g pls).strips) (hh : b.store.isHeld k = true)
    (hr : b.store.isReady k = false) :
    (b.beginPage g superseded change pls).decode.hasJob k = true
      ∨ (b.beginPage g superseded change pls).decode.deferred = true := by
  rw [Blocks.beginPage_decode]
  exact Decode.offerAll_has (Store.mem_offerable.mpr ⟨hk, hh, hr⟩) _

/-- Each job is of before and of no superseded change, or is tagged with the change and is a Held strip's that is not Ready. -/
theorem Blocks.mem_beginPage {j : PageJob} (h : j ∈ (b.beginPage g superseded change pls).decode.pageJobs) :
    (j ∈ b.decode.pageJobs ∧ ∀ old, superseded = some old → j.tag ≠ old)
      ∨ (j.tag = change ∧ j.id ∈ (b.store.roleSet g pls).strips ∧ b.store.isHeld j.id = true
        ∧ b.store.isReady j.id = false) := by
  rw [Blocks.beginPage_decode] at h
  rcases Decode.mem_offerAll h with h | ⟨ht, hid⟩
  · exact .inl (Blocks.mem_dropSuperseded h)
  · exact .inr ⟨ht, Store.mem_offerable.mp hid⟩

theorem Blocks.beginPage_wanted
    (hroom : b.store.wants.length + (b.store.roleSet g pls).strips.length + (b.store.roleSet g pls).unresolved.length ≤ 64) :
    (∀ k ∈ (b.store.roleSet g pls).strips, b.store.isHeld k = false → b.store.isBroken k = false →
        Wanted k.asset k.index (b.beginPage g superseded change pls).store.wants)
      ∧ ∀ pl ∈ (b.store.roleSet g pls).unresolved,
        { asset := pl.asset, span := none } ∈ (b.beginPage g superseded change pls).store.wants := by
  rw [Blocks.beginPage_store]
  obtain ⟨hstrips, hassets⟩ := Store.wantSet_wanted (s := b.store.pinPending (b.store.roleSet g pls)) hroom
  refine ⟨fun k hk hh hb => hstrips k hk ?_, hassets⟩
  have hheld : (b.store.pinPending (b.store.roleSet g pls)).isHeld k = b.store.isHeld k :=
    Store.isHeld_setRoles (fun r => { r with pending := b.store.roleSet g pls }) _ k
  have hbroken : (b.store.pinPending (b.store.roleSet g pls)).isBroken k = b.store.isBroken k :=
    Store.isBroken_setRoles (fun r => { r with pending := b.store.roleSet g pls }) _ k
  unfold Store.isShort
  rw [hheld, hbroken, hh, hb]
  rfl

/-- At a station whose Decode Unit is busy with no offer deferred, a begun change leaves nothing for the end of the event but a
Ready (R120, R124, R125). -/
theorem Blocks.beginPage_rests {scBefore sc : Scene} {before : Blocks} {r : Running} (hr : b.decode.running = some r)
    (hd : b.decode.deferred = false) (hw : b.store.roomWait = []) (hfull : b.link.Full)
    (hslides : sc.slides = scBefore.slides ∧ sc.show_ = scBefore.show_ ∧ sc.loop = scBefore.loop
      ∧ sc.current = scBefore.current ∧ sc.pendingIndex = scBefore.pendingIndex)
    (hbc : b.bc = before.bc) (hbatch : b.decode.hasBatch = before.decode.hasBatch) :
    (b.beginPage g superseded change pls).Rests
      (Blocks.settle g scBefore sc before (b.beginPage g superseded change pls)) := by
  have hwork := Decode.keepsWork_offerAll change
    ((b.store.pinPending (b.store.roleSet g pls)).offerable (b.store.roleSet g pls)) (b.dropSuperseded superseded).decode
  have hrunning : (b.beginPage g superseded change pls).decode.running = some r := by
    rw [Blocks.beginPage_decode]
    refine (show ((b.dropSuperseded superseded).decode.prepare change _).running = _ from hwork.1).trans ?_
    rw [Blocks.dropSuperseded_frame]
    exact hr
  have hdropped : (b.dropSuperseded superseded).decode.deferred = false := by
    rw [Blocks.dropSuperseded_frame]
    exact hd
  have hfullJobs : (b.beginPage g superseded change pls).decode.deferred = true →
      30 ≤ (b.beginPage g superseded change pls).decode.pageJobs.length := by
    rw [Blocks.beginPage_decode]
    exact Decode.offerAll_full _ fun h => absurd (hdropped.symm.trans h) (by simp)
  have hhas : (b.beginPage g superseded change pls).decode.hasBatch = before.decode.hasBatch := by
    rw [Blocks.beginPage_decode, ← hbatch]
    refine (Decode.offerAll_hasBatch _ (b.dropSuperseded superseded).decode).trans ?_
    rw [Blocks.dropSuperseded_frame]
    rfl
  obtain ⟨h1, h2, h3, h4, h5⟩ := hslides
  refine Blocks.settle_rests hrunning ?_ ?_ (prefetchDue_none h1 h2 h3 h4 h5 ?_ hhas) ?_
  · rw [Blocks.beginPage_store]
    exact hw
  · cases hdef : (b.beginPage g superseded change pls).decode.deferred with
    | false => exact .inl rfl
    | true => exact .inr (hfullJobs hdef)
  · rw [Blocks.beginPage_bc, hbc]
  · rw [Blocks.beginPage_link]
    exact hfull

end BeginPage

/-- Settles O28: the change that a Go begins, what it offers and asks for, and what a quiet station keeps of it. -/
theorem goBeginsAPageChange : Obligations.GoBeginsAPageChange := by
  intro s p pg hs hp hpg hpass
  have hrule : (s.station.heard 0 none).applyGo 0 p = (s.station.heard 0 none).beginPage p pg := by
    rw [Station.applyGo_of_le hp]
    exact congrArg Prod.snd (Station.request_of_passed (st := s.station.heard 0 none) hpg (hpass.imp_right .inr))
  have hexec := State.close_settles hs (by decide : 0 < 6) hrule
  rw [← exec_go] at hexec
  have hsuper : s.station.scene.pendingPage.map (fun _ => s.station.scene.pageChange)
      = if s.station.scene.pendingPage.isSome then some s.station.scene.pageChange else none := by
    cases s.station.scene.pendingPage <;> rfl
  have hblocks : ((s.station.heard 0 none).beginPage p pg).blocks = Blocks.beginPage s.station.geometry
      (if s.station.scene.pendingPage.isSome then some s.station.scene.pageChange else none)
      (s.station.scene.pageChange + 1) (pagePlacements p pg) (s.station.closed 0 none) := by
    rw [← hsuper]
    rfl
  obtain ⟨c, hc, hworked⟩ := Station.settle_eq ((s.station.heard 0 none).beginPage p pg) s.station
  have hrests : s.station.Quiet → Blocks.Rests ((s.station.heard 0 none).beginPage p pg).blocks c := fun hq => by
    have hrest := Station.settle_running (st := (s.station.heard 0 none).beginPage p pg) hs.1 s.station
    rw [hc] at hrest
    change c = _ at hrest
    rw [hrest, hblocks]
    have hfull := Station.closed_full hq 0 none
    obtain ⟨hrun, hdef, hroom, -⟩ := hq
    obtain ⟨r, hr⟩ := Option.isSome_iff_exists.mp hrun
    exact Blocks.beginPage_rests (b := s.station.closed 0 none) hr hdef hroom hfull ⟨rfl, rfl, rfl, rfl, rfl⟩ rfl rfl
  rw [hc] at hexec
  rw [hblocks] at hrests hworked
  refine ⟨_, _, hexec, ⟨?_, hworked⟩, rfl, Blocks.beginPage_link .., Blocks.beginPage_bc .., Blocks.beginPage_roles ..,
    Blocks.beginPage_pageReadySent .., Blocks.beginPage_exhausted .., fun hq => ⟨(hrests hq).store, (hrests hq).jobs⟩,
    fun k hk hh hr => ?_, fun j hj => ?_, fun hroom => ?_⟩
  · rfl
  · rw [Blocks.beginPage_roles] at hk
    exact Blocks.beginPage_offers hk hh hr
  · rw [Blocks.beginPage_roles]
    refine (Blocks.mem_beginPage hj).imp_left fun ⟨hj, hold⟩ => ⟨hj, fun hsome => hold _ (if_pos hsome)⟩
  · rw [Blocks.beginPage_roles] at hroom ⊢
    exact Blocks.beginPage_wanted hroom

end Sys2Proof.Machine

/-! SUPPORT. The slide stream's Step, Seek, Switch and Ready (R87, R88, R93 to R95), and the cue messages (R97, R100). -/

namespace Sys2Proof.Machine

/-- A message from source 0 that is refused leaves the Fault that the refusal names (R62). -/
theorem State.close_refuses {s : State} {rule : Station → Station} {k : FaultKind} {kind : Nat} {p : Option Nat}
    (hs : s.station.Listens)
    (hr : rule (s.station.heard 0 none) = (s.station.heard 0 none).refuse k { kind := kind, src := 0 } p none) :
    ∃ t, s.event (Station.close 0 none (Station.whenRunning rule)) = .next t
      ∧ s.Becomes s.station.scene s.station.timers (s.station.refusal k kind p none 0) t :=
  State.close_whenRunning_becomes hs (by decide) (hr.trans (Station.refuse_heard k kind 0 p none s.station))

/-! ### A held change released (R94) -/

section ReleaseHold

variable {st : Station} {i : Nat} (hi : st.scene.pendingIndex = some i)
include hi

theorem Station.releaseHold_of_other (h : st.isSpeaker = false) :
    st.releaseHold = { st with
      scene := { st.scene with held := false }, timers := { st.timers with absence := some 0 } } := by
  unfold Station.releaseHold
  dsimp only
  split
  · next hnone => exact absurd (hi.symm.trans hnone) (by simp)
  · next j hj =>
    refine if_neg fun hsp => ?_
    exact absurd (h.symm.trans hsp) (by simp)

theorem Station.releaseHold_of_speaker (h : st.isSpeaker = true) :
    st.releaseHold = Station.queueSlideSwitch (!st.scene.allIn st.scene.slideReady) i
      { st with scene := { st.scene with held := false } } := by
  unfold Station.releaseHold
  dsimp only
  split
  · next hnone => exact absurd (hi.symm.trans hnone) (by simp)
  · next j hj =>
    obtain rfl : i = j := Option.some.inj (hi.symm.trans hj)
    exact if_pos h

/-- What a release does, by who is the speaker and by whether every owner is ready. -/
theorem Station.releaseHold_cases :
    ∃ ti b, st.releaseHold = { st with scene := { st.scene with held := false }, timers := ti, blocks := b }
      ∧ (st.isSpeaker = false → ti = { st.timers with absence := some 0 } ∧ b = st.blocks)
      ∧ (st.isSpeaker = true → ti = { st.timers with slideMark := true, slidePrepare := none }
        ∧ ((∀ o ∈ st.scene.owners, o ∈ st.scene.slideReady) →
          b = st.blocks.enqueue (.switch { stream := 1, index := i, change := st.scene.slideChange
                                           target := st.blocks.bc.frame + 2, partialFlag := 0 }))
        ∧ ((∃ o ∈ st.scene.owners, o ∉ st.scene.slideReady) →
          b = (st.blocks.enqueue (.switch { stream := 1, index := i, change := st.scene.slideChange
                                            target := st.blocks.bc.frame + 2, partialFlag := 1 })).enqueue
            (.fault (overdueFault .slide st.scene.slideChange (st.scene.missing st.scene.slideReady))))) := by
  cases hsp : st.isSpeaker with
  | false => exact ⟨_, _, Station.releaseHold_of_other hi hsp, fun _ => ⟨rfl, rfl⟩, fun h => absurd h (by simp)⟩
  | true =>
    have hrule := Station.releaseHold_of_speaker hi hsp
    cases hall : st.scene.allIn st.scene.slideReady with
    | true =>
      rw [hall] at hrule
      refine ⟨_, _, hrule, fun h => absurd h (by simp), fun _ => ⟨rfl, fun _ => rfl, fun hex => ?_⟩⟩
      exact absurd ((Scene.allIn_false hex).symm.trans hall) (by simp)
    | false =>
      rw [hall] at hrule
      refine ⟨_, _, hrule, fun h => absurd h (by simp), fun _ => ⟨rfl, fun h => ?_, fun _ => rfl⟩⟩
      exact absurd (((Scene.allIn_iff _ _).mpr h).symm.trans hall) (by simp)

end ReleaseHold

/-! ### Step and Seek -/

theorem exec_slideStep (src : Nat) (s : State) :
    exec (.slideStep src) s = s.event (Station.close src none (Station.whenRunning (Station.applySlideStep src))) := rfl

theorem exec_slideSeek (src i : Nat) (s : State) :
    exec (.slideSeek src i) s = s.event (Station.close src none (Station.whenRunning (Station.applySlideSeek src i))) := rfl

section Step

variable {st : Station}

theorem Station.applySlideStep_paused (h : st.scene.show_ = .paused) : st.applySlideStep 0 = st.stepSlide :=
  (if_neg (by simp)).trans (if_pos h)

theorem Station.applySlideStep_busy (h : st.scene.show_ ≠ .paused) :
    st.applySlideStep 0 = st.refuse .slideBusy { kind := 0x2D, src := 0 } none none :=
  (if_neg (by simp)).trans (if_neg h)

theorem Station.stepSlide_held (h : st.scene.held = true) : st.stepSlide = st.releaseHold := if_pos h

theorem Station.stepSlide_some {j : Nat} (h : st.scene.held = false)
    (hj : st.scene.nextIndex (st.scene.pendingIndex.getD st.scene.current) = some j) : st.stepSlide = st.beginSlide j := by
  unfold Station.stepSlide
  rw [if_neg (by simp [h]), hj]

theorem Station.stepSlide_none (h : st.scene.held = false)
    (hj : st.scene.nextIndex (st.scene.pendingIndex.getD st.scene.current) = none) : st.stepSlide = st := by
  unfold Station.stepSlide
  rw [if_neg (by simp [h]), hj]

variable {i : Nat}

theorem Station.applySlideSeek_beyond (h : st.scene.slides.length ≤ i) :
    st.applySlideSeek 0 i = st.refuse .badDefinition { kind := 0x2E, src := 0 } (some i) none :=
  (if_neg (by simp)).trans (if_pos h)

theorem Station.applySlideSeek_within (h : i < st.scene.slides.length) : st.applySlideSeek 0 i = st.seekSlide i :=
  (if_neg (by simp)).trans (if_neg (Nat.not_le.mpr h))

theorem Station.seekSlide_stopped (h : st.scene.show_ = .stopped) :
    st.seekSlide i = { st with scene := { st.scene with current := i } } := if_pos h

theorem Station.seekSlide_running (h : st.scene.show_ ≠ .stopped) :
    st.seekSlide i = Station.beginSlide i { st with
      timers := if st.isSpeaker then { st.timers with elapsed := 0 } else st.timers } := by
  unfold Station.seekSlide
  rw [if_neg h]
  cases st.isSpeaker <;> rfl

end Step

/-- Settles O42: Step by the hold and by the entry that follows, Seek by the list and the slide state. -/
theorem stepAndSeek : Obligations.StepAndSeek := by
  refine ⟨fun s h hs hh => ?_, fun s i hs => ⟨fun hle => ?_, fun hlt hst => ?_, fun hlt hst => ?_⟩⟩
  · subst hh
    refine ⟨fun j hshow hheld hj => ?_, fun hshow hheld hj => ?_, fun i hshow hheld hi => ?_, fun hshow => ?_⟩
    · exact State.close_after hs (by decide) ((Station.applySlideStep_paused (st := s.station.heard 0 none) hshow).trans
        (Station.stepSlide_some hheld hj)) (Station.moves_beginSlide _ _)
    · exact State.close_whenRunning_becomes hs (by decide)
        ((Station.applySlideStep_paused (st := s.station.heard 0 none) hshow).trans (Station.stepSlide_none hheld hj))
    · obtain ⟨ti, b, hrule, hother, hspeaker⟩ := Station.releaseHold_cases (st := s.station.heard 0 none) hi
      obtain ⟨t, ht, hb⟩ := State.close_whenRunning_becomes hs (by decide)
        ((Station.applySlideStep_paused (st := s.station.heard 0 none) hshow).trans
          ((Station.stepSlide_held (st := s.station.heard 0 none) hheld).trans hrule))
      exact ⟨t, ti, b, ht, hb, hother, hspeaker⟩
    · exact State.close_refuses hs (Station.applySlideStep_busy (st := s.station.heard 0 none) hshow)
  · exact State.close_refuses hs (Station.applySlideSeek_beyond (st := s.station.heard 0 none) hle)
  · exact State.close_whenRunning_becomes hs (by decide)
      ((Station.applySlideSeek_within (st := s.station.heard 0 none) hlt).trans (Station.seekSlide_stopped hst))
  · exact State.close_after hs (by decide) ((Station.applySlideSeek_within (st := s.station.heard 0 none) hlt).trans
      (Station.seekSlide_running hst)) (Station.moves_beginSlide i { s.station.heard 0 none with
        timers := if s.station.isSpeaker then { s.station.timers with elapsed := 0 } else s.station.timers })

/-! ### The Switch of the slide stream -/

theorem Station.applySwitch_slide {src i : Nat} {index flag : Nat} {target : Long} {e : Slide} {st : Station}
    (hsp : st.scene.speaker = some src) (hi : st.scene.pendingIndex = some i) (he : st.scene.slides[i]? = some e) :
    st.applySwitch src { stream := 1, index := index, change := st.scene.slideChange, target := target, partialFlag := flag }
      = st.switchSlide i e target := by
  change st.applySlideSwitch src _ = _
  unfold Station.applySlideSwitch
  rw [hi]
  dsimp only
  rw [he]
  exact if_pos ⟨hsp, rfl⟩

section HandSlide

variable (e : Slide) (change : Half) (target : Long) (b : Blocks)

theorem Blocks.handSlide_link :
    (b.handSlide e change target).link = if isLate b.bc.frame target then
      b.link.enqueue (.fault (lateFault .slide change target b.bc.frame)) else b.link := Blocks.noteLate_link _ _ _ _

theorem Blocks.handSlide_store : (b.handSlide e change target).store = b.store := Blocks.noteLate_store _ _ _ _

theorem Blocks.handSlide_bc :
    (b.handSlide e change target).bc = { b.bc with
      slideSwitch := some
        { content := e.content, change := change, kind := if e.length ≤ 1 then .cut else e.kind, length := e.length
          target := target, late := isLate b.bc.frame target, awaitingContent := false }
      lateCount := if isLate b.bc.frame target then raiseLate b.bc.lateCount else b.bc.lateCount } :=
  Blocks.noteLate_bc _ _ _ _

end HandSlide

theorem effectiveKind_cut (kind : TransitionKind) (length : Nat) :
    effectiveKind kind length = .cut ↔ length ≤ 1 ∨ kind = .cut := by
  unfold effectiveKind
  by_cases h : length ≤ 1 <;> simp [h]

/-- Settles O43: the pending entry made current, its pins passed on, and the timers by who is the speaker. -/
theorem slideSwitchMakesTheEntryCurrent : Obligations.SlideSwitchMakesTheEntryCurrent := by
  intro s src i index flag target e late own hs hsrc hsp hi hown he hlate
  have hlateEq : isLate s.station.blocks.bc.frame target = late := hlate.symm
  obtain ⟨m, hm⟩ : ∃ m, m = some (Message.switch { stream := 1, index := index, change := s.station.scene.slideChange
                                                   target := target, partialFlag := flag }) := ⟨_, rfl⟩
  have hrule := Station.applySwitch_slide (st := s.station.heard src m) (index := index) (flag := flag) (target := target)
    hsp hi he
  obtain ⟨t, ht, hb⟩ := State.close_whenRunning_becomes hs hsrc hrule
  rw [hm] at ht
  have hframe : own.bc.frame = s.station.blocks.bc.frame := by rw [hown]
  have hblocks : ((s.station.heard src m).blocks.handSlide e s.station.scene.slideChange target)
      = own.handSlide e s.station.scene.slideChange target := by rw [hown, hm]; rfl
  have hbc := Blocks.handSlide_bc e s.station.scene.slideChange target own
  refine ⟨t, _, _, ht, hb, ?_, ?_, ?_, ?_, ?_, ?_, fun hsp hplay => ?_, fun hsp hplay => ?_, fun hsp => ?_⟩
  · change ((s.station.heard src m).blocks.handSlide e s.station.scene.slideChange target).bc.slideSwitch = _
    rw [hblocks, hbc, hframe, hlateEq]
  · change ((s.station.heard src m).blocks.handSlide e s.station.scene.slideChange target).bc.front = _
    rw [hblocks, hbc, hown]
  · change ((s.station.heard src m).blocks.handSlide e s.station.scene.slideChange target).bc.back = _
    rw [hblocks, hbc, hown]
  · change ((s.station.heard src m).blocks.handSlide e s.station.scene.slideChange target).bc.lateCount = _
    rw [hblocks, hbc, hframe, hlateEq, hown]
    unfold raiseLate Config.lateLimit
    cases late <;> simp
  · change ((s.station.heard src m).blocks.handSlide e s.station.scene.slideChange target).link = _
    rw [hblocks, Blocks.handSlide_link, hframe, hlateEq]
  · change (((s.station.heard src m).blocks.handSlide e s.station.scene.slideChange target).store.shiftSlideRoles
      (decide (effectiveKind e.kind e.length ≠ TransitionKind.cut))).roles = _
    rw [hblocks, Blocks.handSlide_store, hown]
    change { s.station.blocks.store.roles with
      currentSlide := s.station.blocks.store.roles.pendingSlide, pendingSlide := RoleSet.empty
      fading := if decide (effectiveKind e.kind e.length ≠ TransitionKind.cut) then s.station.blocks.store.roles.currentSlide
        else RoleSet.empty } = _
    by_cases hcut : e.length ≤ 1 ∨ e.kind = .cut
    · rw [if_pos hcut, if_neg (by simp [(effectiveKind_cut _ _).mpr hcut])]
    · rw [if_neg hcut, if_pos (by simpa [effectiveKind_cut] using hcut)]
  · exact (if_pos hsp).trans (if_pos hplay)
  · exact (if_pos hsp).trans (if_neg hplay)
  · refine (if_neg (by rw [show (s.station.heard src m).isSpeaker = _ from hsp]; simp)).trans ?_
    change { s.station.timers with absence := if s.station.scene.pendingPage.isSome || false then some 0 else none } = _
    rw [Bool.or_false]

/-! ### A Ready of the slide stream -/

section SlideReady

variable {src i : Nat} {body : ReadyBody} {st : Station}

theorem Station.applyReady_slide (h : body.stream = 1) : st.applyReady src body = st.applySlideReady src body := by
  unfold Station.applyReady
  rw [h]
  rfl

theorem Station.applySlideReady_none (h : st.scene.pendingIndex = none) : st.applySlideReady src body = st := by
  unfold Station.applySlideReady
  rw [h]

theorem Station.applySlideReady_ignored (hi : st.scene.pendingIndex = some i)
    (h : st.scene.owners.contains src = false ∨ body.change ≠ st.scene.slideChange
      ∨ st.scene.slideReady.contains src = true) : st.applySlideReady src body = st := by
  unfold Station.applySlideReady
  rw [hi]
  dsimp only
  split
  · next hok =>
    obtain ⟨ho, hc⟩ := hok
    rcases h with h | h | h
    · exact absurd (ho.symm.trans h) (by simp)
    · exact absurd hc.symm h
    · exact if_pos h
  · rfl

theorem Station.applySlideReady_taken (hi : st.scene.pendingIndex = some i) (ho : st.scene.owners.contains src = true)
    (hc : body.change = st.scene.slideChange) (hout : st.scene.slideReady.contains src = false) :
    st.applySlideReady src body = Station.closeSlide i
      { st with scene := { st.scene with slideReady := Stations.insert src st.scene.slideReady } } := by
  unfold Station.applySlideReady
  rw [hi]
  exact (if_pos ⟨ho, hc.symm⟩).trans (if_neg (by rw [hout]; simp))

theorem Station.closeSlide_open (h : st.isSpeaker = false ∨ st.timers.slideMark = true ∨ st.scene.held = true
    ∨ ∃ o ∈ st.scene.owners, o ∉ st.scene.slideReady) : st.closeSlide i = st := by
  refine if_neg fun hclose => ?_
  simp only [Bool.and_eq_true, Bool.not_eq_true'] at hclose
  obtain ⟨⟨⟨hsp, hmark⟩, hheld⟩, hall⟩ := hclose
  rcases h with h | h | h | h
  · exact absurd (h.symm.trans hsp) (by simp)
  · exact absurd (h.symm.trans hmark) (by simp)
  · exact absurd (h.symm.trans hheld) (by simp)
  · exact absurd ((Scene.allIn_false h).symm.trans hall) (by simp)

theorem Station.closeSlide_closes (hsp : st.isSpeaker = true) (hmark : st.timers.slideMark = false)
    (hheld : st.scene.held = false) (hall : ∀ o ∈ st.scene.owners, o ∈ st.scene.slideReady) :
    st.closeSlide i = st.queueSlideSwitch false i := by
  refine if_pos ?_
  rw [hsp, hmark, hheld, (Scene.allIn_iff _ _).mpr hall]
  rfl

end SlideReady

/-- Settles O44: the Ready that is ignored, the one that joins the set, and the one that completes it. -/
theorem slideReadyClosesTheChange : Obligations.SlideReadyClosesTheChange := by
  intro s src i body own sc hs hsrc hstream hown hsc
  subst hown hsc
  have hrule := Station.applyReady_slide (src := src) (st := s.station.heard src (some (.ready body))) hstream
  refine ⟨fun hi => ?_, fun hi h => ?_, fun hi ho hc hout h => ?_, fun hi ho hc hout hsp hmark hheld hall => ?_⟩
  · exact State.close_ignoredRunning hs (hrule.trans (Station.applySlideReady_none hi))
  · exact State.close_ignoredRunning hs (hrule.trans (Station.applySlideReady_ignored hi h))
  · exact State.close_whenRunning_becomes hs hsrc
      (hrule.trans
      ((Station.applySlideReady_taken (st := s.station.heard src (some (.ready body))) hi ho hc hout).trans
        (Station.closeSlide_open (st := { s.station.heard src (some (.ready body)) with
          scene := { s.station.scene with slideReady := Stations.insert src s.station.scene.slideReady } }) h)))
  · exact State.close_whenRunning_becomes hs hsrc
      (hrule.trans
      ((Station.applySlideReady_taken (st := s.station.heard src (some (.ready body))) hi ho hc hout).trans
        (Station.closeSlide_closes (st := { s.station.heard src (some (.ready body)) with
          scene := { s.station.scene with slideReady := Stations.insert src s.station.scene.slideReady } })
          hsp hmark hheld hall)))

/-! ### Cues -/

theorem exec_cueSet (src : Nat) (b : CueSetBody) (s : State) :
    exec (.cueSet src b) s = s.event (Station.close src none (Station.whenRunning (Station.applyCueSet src b))) := rfl

theorem exec_cueClear (src i : Nat) (s : State) :
    exec (.cueClear src i) s = s.event (Station.close src none (Station.whenRunning (Station.applyCueClear src i))) := rfl

theorem exec_cueHit (src : Nat) (b : CueHitBody) (s : State) :
    exec (.cueHit src b) s
      = s.event (Station.close src (some (.cueHit b)) (Station.whenRunning (Station.applyCueHit src b))) := rfl

theorem readCueEffect_of_inRange {b : CueSetBody} (h : b.effect ≤ 1 ∨ (b.effect = 2 ∧ b.word ≤ 7 ∧ b.bit ≤ 15)) :
    readCueEffect b
      = some (if b.effect = 0 then .pause else if b.effect = 1 then .reportOnly else .setBit b.word b.bit) := by
  obtain h0 | h1 | ⟨h2, hw, hb⟩ : b.effect = 0 ∨ b.effect = 1 ∨ (b.effect = 2 ∧ b.word ≤ 7 ∧ b.bit ≤ 15) := by omega
  · unfold readCueEffect
    rw [h0]
    rfl
  · unfold readCueEffect
    rw [h1]
    rfl
  · unfold readCueEffect
    rw [h2]
    exact if_pos ⟨hw, hb⟩

theorem readCueEffect_of_not {b : CueSetBody} (h : 2 < b.effect ∨ (b.effect = 2 ∧ (7 < b.word ∨ 15 < b.bit))) :
    readCueEffect b = none := by
  unfold readCueEffect
  split
  · omega
  · omega
  · exact if_neg (by omega)
  · rfl

/-- A Cue Set in range arms the cue that it spells (R97). -/
theorem readCue_of_inRange {b : CueSetBody} {e : CueEffect} (he : readCueEffect b = some e)
    (h : (b.kind = 0 ∧ 1 ≤ b.trigger) ∨ (b.kind = 1 ∧ b.trigger ≤ 254)) :
    readCue b = some { forced := decide (b.kind = 0), trigger := b.trigger, effect := e, armed := true } := by
  unfold readCue
  rw [he, Option.bind_eq_bind, Option.bind_some]
  rcases h with ⟨hk, ht⟩ | ⟨hk, ht⟩
  · rw [hk]
    exact if_pos ht
  · rw [hk]
    exact if_pos ht

theorem readCue_of_not {b : CueSetBody} (h : 1 < b.kind ∨ (b.kind = 0 ∧ b.trigger = 0) ∨ (b.kind = 1 ∧ 254 < b.trigger)
    ∨ 2 < b.effect ∨ (b.effect = 2 ∧ (7 < b.word ∨ 15 < b.bit))) : readCue b = none := by
  unfold readCue
  cases he : readCueEffect b with
  | none => rfl
  | some e =>
    rw [Option.bind_eq_bind, Option.bind_some]
    split
    · next hk =>
      refine if_neg fun ht => ?_
      have hread := readCueEffect_of_not (b := b) ?_
      · exact absurd (hread.symm.trans he) (by simp)
      · omega
    · next hk =>
      refine if_neg fun ht => ?_
      have hread := readCueEffect_of_not (b := b) ?_
      · exact absurd (hread.symm.trans he) (by simp)
      · omega
    · rfl

section Cues

variable {st : Station}

theorem Station.applyCueSet_taken {b : CueSetBody} {c : Cue} (hi : b.index ≤ 7) (hc : readCue b = some c) :
    st.applyCueSet 0 b = { st with scene := { st.scene with cues := st.scene.cues.set b.index c } } := by
  unfold Station.applyCueSet
  rw [if_neg (by simp), if_neg (by omega), hc]
  rfl

theorem Station.applyCueSet_refused {b : CueSetBody} (h : 7 < b.index ∨ readCue b = none) :
    st.applyCueSet 0 b = st.refuse .badDefinition { kind := 0x30, src := 0 } (some b.index) none := by
  unfold Station.applyCueSet
  rw [if_neg (by simp)]
  split
  · rfl
  · next hi =>
    rw [h.resolve_left hi]
    rfl

theorem Station.applyCueClear_taken {i : Nat} (h : i ≤ 7) :
    st.applyCueClear 0 i
      = { st with scene := { st.scene with cues := st.scene.cues.modify i (fun c => { c with armed := false }) } } :=
  (if_neg (by simp)).trans (if_neg (by omega))

theorem Station.applyCueClear_refused {i : Nat} (h : 7 < i) :
    st.applyCueClear 0 i = st.refuse .badDefinition { kind := 0x31, src := 0 } (some i) none :=
  (if_neg (by simp)).trans (if_pos h)

variable {src : Nat} {b : CueHitBody}

theorem Station.applyCueHit_taken {c : Cue} (hsp : st.scene.speaker = some src) (hk : b.kind = 0)
    (hc : st.scene.cues[b.index]? = some c) (ha : c.armed = true) (hf : c.forced = true) (ht : c.trigger = b.trigger) :
    st.applyCueHit src b = st.hitForced b.index c := by
  unfold Station.applyCueHit Scene.forcedArmed
  rw [if_pos ⟨hsp, hk⟩, hc]
  dsimp only
  rw [if_pos ⟨ha, hf, ht⟩]

theorem Station.applyCueHit_ignored (h : st.scene.speaker ≠ some src ∨ b.kind ≠ 0 ∨ st.scene.cues[b.index]? = none
    ∨ ∃ c, st.scene.cues[b.index]? = some c ∧ (c.armed = false ∨ c.forced = false ∨ c.trigger ≠ b.trigger)) :
    st.applyCueHit src b = st := by
  unfold Station.applyCueHit
  split
  · next hok =>
    obtain ⟨hsp, hk⟩ := hok
    have hnone : st.scene.forcedArmed b.index b.trigger = none := by
      unfold Scene.forcedArmed
      rcases h with h | h | h | ⟨c, hc, h⟩
      · exact absurd hsp h
      · exact absurd hk h
      · rw [h]
      · rw [hc]
        refine if_neg fun hok => ?_
        obtain ⟨ha, hf, ht⟩ := hok
        rcases h with h | h | h
        · exact absurd (h.symm.trans ha) (by simp)
        · exact absurd (h.symm.trans hf) (by simp)
        · exact h ht
    rw [hnone]
  · rfl

/-- A Forced cue disarmed by its Hit (R100). -/
def Station.disarmed (k : Nat) (c : Cue) (st : Station) : Station :=
  { st with scene := { st.scene with cues := st.scene.cues.set k { c with armed := false } } }

theorem Station.hitForced_rest {k : Nat} {c : Cue}
    (h : c.effect = .reportOnly ∨ (c.effect = .pause ∧ st.scene.show_ ≠ .playing)) :
    st.hitForced k c = st.disarmed k c := by
  unfold Station.hitForced
  rcases h with h | ⟨h, hshow⟩
  · rw [h]
    rfl
  · rw [h]
    exact if_neg hshow

theorem Station.hitForced_pause {k : Nat} {c : Cue} (h : c.effect = .pause) (hshow : st.scene.show_ = .playing) :
    st.hitForced k c = (st.disarmed k c).pauseShow := by
  unfold Station.hitForced
  rw [h]
  exact if_pos hshow

theorem Station.hitForced_setBit {k w n : Nat} {c : Cue} (h : c.effect = .setBit w n) :
    st.hitForced k c = (st.disarmed k c).withScene (Scene.setBit w n) := by
  unfold Station.hitForced
  rw [h]
  rfl

theorem Station.pauseShow_of_other (h : st.isSpeaker = false) :
    st.pauseShow = { st with scene := { st.scene with show_ := .paused } } :=
  if_neg (by rw [h]; simp)

theorem Station.pauseShow_of_speaker (h : st.isSpeaker = true) :
    st.pauseShow = { st with
      scene := { st.scene with show_ := .paused }, timers := st.timers.pauseSlide st.scene.slideChange } := if_pos h

end Cues

/-- Settles O45: the cues set and cleared by their ranges, the Hits by the cue that they name and its effect. -/
theorem cuesAreSetClearedAndHit : Obligations.CuesAreSetClearedAndHit := by
  refine ⟨fun s b i hs => ⟨fun c hi hk he hc => ?_, fun h => ?_, fun hi => ?_, fun hi => ?_⟩,
    fun s src b own d hs hsrc hown => ⟨fun c hsp hk hc ha hf ht hd => ?_, fun h => ?_⟩⟩
  · subst hc
    exact State.close_whenRunning_becomes hs (by decide) (Station.applyCueSet_taken (st := s.station.heard 0 none) hi
      (readCue_of_inRange (readCueEffect_of_inRange he) hk))
  · exact State.close_refuses hs (Station.applyCueSet_refused (st := s.station.heard 0 none)
      (h.imp_right readCue_of_not))
  · exact State.close_whenRunning_becomes hs (by decide) (Station.applyCueClear_taken (st := s.station.heard 0 none) hi)
  · exact State.close_refuses hs (Station.applyCueClear_refused (st := s.station.heard 0 none) hi)
  · subst hown hd
    have hrule := Station.applyCueHit_taken (st := s.station.heard src (some (.cueHit b))) hsp hk hc ha hf ht
    obtain he | ⟨w, n, he⟩ | he : c.effect = .reportOnly ∨ (∃ w n, c.effect = .setBit w n) ∨ c.effect = .pause := by
      cases c.effect <;> simp
    · obtain ⟨t, ht, hb⟩ := State.close_whenRunning_becomes hs hsrc
        (hrule.trans (Station.hitForced_rest (st := s.station.heard src (some (.cueHit b))) (.inl he)))
      exact ⟨t, _, _, ht, hb, fun _ => ⟨rfl, rfl⟩, fun h => absurd (he.symm.trans h) (by simp),
        fun w k h => absurd (he.symm.trans h) (by simp)⟩
    · obtain ⟨t, ht, hb⟩ := State.close_whenRunning_becomes hs hsrc
        (hrule.trans (Station.hitForced_setBit (st := s.station.heard src (some (.cueHit b))) he))
      refine ⟨t, _, _, ht, hb, fun h => h.elim (fun h => absurd (he.symm.trans h) (by simp))
        (fun h => absurd (he.symm.trans h.1) (by simp)), fun h => absurd (he.symm.trans h) (by simp), fun w' k' h => ?_⟩
      cases he.symm.trans h
      exact ⟨rfl, rfl⟩
    · have hno : ∀ w k, c.effect ≠ .setBit w k := fun w k h => absurd (he.symm.trans h) (by simp)
      by_cases hshow : s.station.scene.show_ = .playing
      · have hpause := hrule.trans (Station.hitForced_pause (st := s.station.heard src (some (.cueHit b))) he hshow)
        have hrest : ¬ (c.effect = .reportOnly ∨ (c.effect = .pause ∧ s.station.scene.show_ ≠ .playing)) := fun h =>
          h.elim (fun h => absurd (he.symm.trans h) (by simp)) (fun h => h.2 hshow)
        cases hspk : s.station.isSpeaker with
        | false =>
          obtain ⟨t, ht, hb⟩ := State.close_whenRunning_becomes hs hsrc (hpause.trans (Station.pauseShow_of_other
            (st := (s.station.heard src (some (.cueHit b))).disarmed b.index c) hspk))
          exact ⟨t, _, _, ht, hb, fun h => absurd h hrest, fun _ _ => ⟨rfl, fun _ => rfl, fun h => absurd h (by simp)⟩,
            fun w k h => absurd h (hno w k)⟩
        | true =>
          obtain ⟨t, ht, hb⟩ := State.close_whenRunning_becomes hs hsrc (hpause.trans (Station.pauseShow_of_speaker
            (st := (s.station.heard src (some (.cueHit b))).disarmed b.index c) hspk))
          exact ⟨t, _, _, ht, hb, fun h => absurd h hrest, fun _ _ => ⟨rfl, fun h => absurd h (by simp), fun _ => rfl⟩,
            fun w k h => absurd h (hno w k)⟩
      · obtain ⟨t, ht, hb⟩ := State.close_whenRunning_becomes hs hsrc
          (hrule.trans (Station.hitForced_rest (st := s.station.heard src (some (.cueHit b))) (.inr ⟨he, hshow⟩)))
        exact ⟨t, _, _, ht, hb, fun _ => ⟨rfl, rfl⟩, fun _ h => absurd h hshow, fun w k h => absurd h (hno w k)⟩
  · subst hown
    exact State.close_ignoredRunning hs (Station.applyCueHit_ignored (st := s.station.heard src _) h)

end Sys2Proof.Machine

/-! SUPPORT. Batches and the end of an event (R124, R134): where there is none, none is made but by a prefetch; and the Remove and
the Clear of slides (R81, R82). -/

namespace Sys2Proof.Machine

/-! ### No batch is made -/

/-- The queued and the suspended batch are those of before. -/
def Decode.SameBatches (d e : Decode) : Prop := e.batch = d.batch ∧ e.suspended = d.suspended

theorem Decode.sameBatches_refl (d : Decode) : d.SameBatches d := ⟨rfl, rfl⟩

theorem Decode.SameBatches.trans {d e f : Decode} (h : d.SameBatches e) (k : e.SameBatches f) : d.SameBatches f :=
  ⟨k.1.trans h.1, k.2.trans h.2⟩

section SameBatches

theorem Decode.sameBatches_offer (change : Half) (k : Strip) (d : Decode) : d.SameBatches (d.offer change k) := by
  rcases Decode.offer_cases change k d with ⟨he, -⟩ | he | ⟨he, -⟩
  · rw [he]
    exact d.sameBatches_refl
  · rw [he]
    exact ⟨rfl, rfl⟩
  · rw [he]
    exact ⟨rfl, rfl⟩

theorem Decode.sameBatches_offerAll (change : Half) (l : List Strip) (d : Decode) : d.SameBatches (d.offerAll change l) := by
  unfold Decode.offerAll
  induction l generalizing d with
  | nil => exact d.sameBatches_refl
  | cons k l ih => exact (Decode.sameBatches_offer change k d).trans (ih _)

theorem Blocks.sameBatches_refill (change : Half) (b : Blocks) : b.decode.SameBatches (b.refill change).decode := by
  have hoffers := Decode.sameBatches_offerAll change b.refillable b.decode
  unfold Blocks.refill
  split
  · dsimp only
    split
    · exact hoffers
    · exact hoffers
  · exact Decode.sameBatches_refl _

theorem Blocks.sameBatches_retryWait (g : Geometry) (change : Half) (b : Blocks) (w : RoomWait) :
    b.decode.SameBatches (b.retryWait g change w).decode := by
  unfold Blocks.retryWait
  split
  · exact Decode.sameBatches_refl _
  · split
    · split
      · exact Decode.sameBatches_refl _
      · split
        · exact Decode.sameBatches_offer change w.id b.decode
        · exact Decode.sameBatches_refl _
    · split <;> exact Decode.sameBatches_refl _

theorem Blocks.sameBatches_retryRoom (g : Geometry) (change : Half) (b before : Blocks) :
    b.decode.SameBatches (b.retryRoom g change before).decode := by
  have hfold : ∀ (l : List RoomWait) (c : Blocks), c.decode.SameBatches (l.foldl (Blocks.retryWait g change) c).decode := by
    intro l
    induction l with
    | nil => exact fun c => Decode.sameBatches_refl _
    | cons w l ih => exact fun c => (Blocks.sameBatches_retryWait g change c w).trans (ih _)
  unfold Blocks.retryRoom
  split
  · exact hfold _ _
  · exact Decode.sameBatches_refl _

theorem Blocks.sameBatches_evictPacked (k : Strip) (b : Blocks) : b.decode.SameBatches (b.evictPacked k).decode := by
  rw [Blocks.evictPacked_decode]
  exact ⟨rfl, rfl⟩

theorem Blocks.sameBatches_evictNext {working : Option Strip} {b c : Blocks} (h : b.evictNext working = some c) :
    b.decode.SameBatches c.decode := by
  unfold Blocks.evictNext at h
  split at h
  · obtain rfl := Option.some.inj h
    exact Decode.sameBatches_refl _
  · split at h
    · obtain rfl := Option.some.inj h
      exact Blocks.sameBatches_evictPacked _ _
    · exact absurd h (by simp)

theorem Blocks.sameBatches_evictUntil (working : Option Strip) (u n : Nat) (b : Blocks) :
    b.decode.SameBatches (b.evictUntil working u n).decode := by
  induction n generalizing b with
  | zero => exact Decode.sameBatches_refl _
  | succ n ih =>
    unfold Blocks.evictUntil
    split
    · exact Decode.sameBatches_refl _
    · split
      · exact Decode.sameBatches_refl _
      · next c h => exact (Blocks.sameBatches_evictNext h).trans (ih c)

theorem Blocks.sameBatches_findRoom {working : Option Strip} {u : Nat} {b c : Blocks} (h : b.findRoom working u = some c) :
    b.decode.SameBatches c.decode := by
  unfold Blocks.findRoom at h
  split at h
  · obtain rfl := Option.some.inj h
    exact Decode.sameBatches_refl _
  · split at h
    · exact absurd h (by simp)
    · obtain rfl := Option.some.inj h
      exact Blocks.sameBatches_evictUntil _ _ _ _

theorem Blocks.refuseRoom_decode (k : Strip) (inOpen : Bool) (u : Nat) (b : Blocks) :
    (b.refuseRoom k inOpen u).decode = b.decode := by
  unfold Blocks.refuseRoom
  dsimp only
  split <;> rfl

theorem Blocks.sameBatches_startPage (j : PageJob) (b : Blocks) : b.decode.SameBatches (b.startPage j).decode := by
  unfold Blocks.startPage
  split
  · exact Decode.sameBatches_refl _
  · split
    · rw [Blocks.refuseRoom_decode]
      exact Decode.sameBatches_refl _
    · next c h => exact (Blocks.sameBatches_findRoom h).trans ⟨rfl, rfl⟩

theorem Blocks.sameBatches_takeCheck (c : CheckJob) (b : Blocks) : b.decode.SameBatches (b.takeCheck c).decode := by
  unfold Blocks.takeCheck
  split <;> exact ⟨rfl, rfl⟩

theorem Blocks.sameBatches_pageReadiness (sc : Scene) (b : Blocks) : b.decode.SameBatches (b.pageReadiness sc).decode := by
  unfold Blocks.pageReadiness
  split
  · exact Decode.sameBatches_refl _
  · split <;> exact ⟨rfl, rfl⟩

theorem Blocks.sameBatches_slideReadiness (sc : Scene) (b : Blocks) : b.decode.SameBatches (b.slideReadiness sc).decode := by
  unfold Blocks.slideReadiness
  split
  · exact Decode.sameBatches_refl _
  · split <;> exact ⟨rfl, rfl⟩

end SameBatches

/-- No batch is queued or suspended. -/
def Decode.NoBatch (d : Decode) : Prop := d.batch = none ∧ d.suspended = none

theorem Decode.NoBatch.of_same {d e : Decode} (h : d.NoBatch) (k : d.SameBatches e) : e.NoBatch :=
  ⟨k.1.trans h.1, k.2.trans h.2⟩

theorem Blocks.noBatch_chooseOne {sc : Scene} {b c : Blocks} (h : b.chooseOne sc = some c) (hb : b.decode.NoBatch) :
    c.decode.NoBatch := by
  obtain ⟨hbatch, hsus⟩ := hb
  obtain ⟨-, ⟨j, rest, -, rfl⟩ | ⟨-, q, hq, -⟩ | ⟨-, -, q, hq, -⟩ | ⟨-, -, -, k, -, rfl⟩⟩ := Blocks.chooseOne_cases h
  · exact Decode.NoBatch.of_same ⟨hbatch, hsus⟩ (Blocks.sameBatches_startPage j _)
  · exact absurd (hsus.symm.trans hq) (by simp)
  · exact absurd (hbatch.symm.trans hq) (by simp)
  · exact Decode.NoBatch.of_same ⟨hbatch, hsus⟩ (Blocks.sameBatches_takeCheck k _)

theorem Blocks.noBatch_chooseJobs {sc : Scene} (n : Nat) {b : Blocks} (hb : b.decode.NoBatch) :
    (b.chooseJobs sc n).decode.NoBatch := by
  induction n generalizing b with
  | zero => exact hb
  | succ n ih =>
    unfold Blocks.chooseJobs
    split
    · exact hb
    · next c h => exact ih (Blocks.noBatch_chooseOne h hb)

/-- Where no prefetch can be made the end of an event makes no batch (R129, R134). -/
theorem Blocks.noBatch_settle {g : Geometry} {scBefore sc : Scene} {before b : Blocks}
    (hp : sc.show_ = .stopped ∨ sc.pendingIndex.isSome = true) (hb : b.decode.NoBatch) :
    (Blocks.settle g scBefore sc before b).decode.NoBatch := by
  have hretry := hb.of_same (Blocks.sameBatches_retryRoom g sc.pageChange b before)
  have hchosen := Blocks.noBatch_chooseJobs (sc := sc) chooseBound
    ((Blocks.noBatch_chooseJobs (sc := sc) chooseBound hretry).of_same (Blocks.sameBatches_refill sc.pageChange _))
  unfold Blocks.settle
  dsimp only
  rw [Blocks.queueWants_decode]
  refine Decode.NoBatch.of_same ?_ ((Blocks.sameBatches_pageReadiness sc _).trans (Blocks.sameBatches_slideReadiness sc _))
  split
  · rw [Blocks.prefetch_none hp]
    exact Blocks.noBatch_chooseJobs chooseBound hchosen
  · exact hchosen

/-! ### A cancellation (R96) -/

theorem Decode.removeBatches_noBatch (d : Decode) : d.removeBatches.NoBatch := ⟨rfl, rfl⟩

theorem Decode.removeBatches_running {d : Decode} {q : Batch} {n : Nat} {x : Bool} (h : d.running = some (.batch q n x)) :
    d.removeBatches.running = some (.batch q n true) := by
  unfold Decode.removeBatches
  rw [h]

/-- A cancelled show at a Running station has no batch when the event has ended, and one in progress stops at the end of its
strip (R96, R133). -/
theorem Station.cancelSlide_decode {v : Station} (hm : v.mode = .running) (before : Station) :
    (v.cancelSlide.settle before).blocks.decode.batch = none ∧ (v.cancelSlide.settle before).blocks.decode.suspended = none
      ∧ ∀ q n x, v.blocks.decode.running = some (.batch q n x) →
        (v.cancelSlide.settle before).blocks.decode.running = some (.batch q n true) := by
  rw [Station.settle_running (show v.cancelSlide.mode = .running from hm)]
  obtain ⟨hb, hs⟩ := Blocks.noBatch_settle (g := v.cancelSlide.geometry) (scBefore := before.scene)
    (sc := v.cancelSlide.scene) (before := before.blocks) (b := v.cancelSlide.blocks) (.inl rfl)
    (Decode.removeBatches_noBatch v.blocks.decode)
  refine ⟨hb, hs, fun q n x hr => ?_⟩
  have hrun : v.cancelSlide.blocks.decode.running = some (.batch q n true) := Decode.removeBatches_running hr
  exact (Blocks.settle_keepsWork hrun).1.trans hrun

/-! ### Remove and Clear -/

theorem exec_slideRemove (src i : Nat) (s : State) :
    exec (.slideRemove src i) s
      = s.event (Station.close src none (Station.whenRunning (Station.applySlideRemove src i))) := rfl

theorem exec_slideClear (src : Nat) (s : State) :
    exec (.slideClear src) s = s.event (Station.close src none (Station.whenRunning (Station.applySlideClear src))) := rfl

section Remove

variable {i : Nat} {st : Station}

theorem Station.applySlideRemove_busy (h : st.scene.show_ = .playing) :
    st.applySlideRemove 0 i = st.refuse .slideBusy { kind := 0x29, src := 0 } (some i) none :=
  (if_neg (by simp)).trans (if_pos h)

theorem Station.applySlideRemove_beyond (h : st.scene.show_ ≠ .playing) (hi : st.scene.slides.length ≤ i) :
    st.applySlideRemove 0 i = st.refuse .badDefinition { kind := 0x29, src := 0 } (some i) none := by
  unfold Station.applySlideRemove
  rw [if_neg (by simp), if_neg h, List.getElem?_eq_none hi]
  rfl

theorem Station.applySlideRemove_taken {e : Slide} (h : st.scene.show_ ≠ .playing) (he : st.scene.slides[i]? = some e) :
    st.applySlideRemove 0 i = st.removeSlide i e := by
  unfold Station.applySlideRemove
  rw [if_neg (by simp), if_neg h, he]

theorem Station.applySlideClear_busy (h : st.scene.show_ = .playing) :
    st.applySlideClear 0 = st.refuse .slideBusy { kind := 0x2A, src := 0 } none none :=
  (if_neg (by simp)).trans (if_pos h)

theorem Station.applySlideClear_taken (h : st.scene.show_ ≠ .playing) : st.applySlideClear 0 = st.clearSlides :=
  (if_neg (by simp)).trans (if_neg h)

/-- The list emptied and its placements withdrawn, before the cancellation (R82). -/
def Station.cleared (st : Station) : Station :=
  { st with
    scene := { st.scene with slides := [], current := 0 }, blocks := st.blocks.withStore Store.withdrawSlides }

theorem Station.clearSlides_eq (st : Station) : st.clearSlides = st.cleared.cancelSlide := rfl

theorem currentAfter_eq (i c n : Nat) :
    currentAfter i c n = if i < c ∨ (i = c ∧ i + 1 = n) then c - 1 else c := by
  unfold currentAfter
  by_cases h : i < c
  · rw [if_pos h, if_pos (.inl h)]
  · by_cases k : i = c ∧ i + 1 = n
    · rw [if_neg h, if_pos k, if_pos (.inr k)]
    · rw [if_neg h, if_neg k, if_neg (not_or.mpr ⟨h, k⟩)]

/-- The station as the Remove leaves it before the request it may raise (R81). -/
theorem Station.removed_eq (i : Nat) (e : Slide) (st : Station) :
    st.removed i e = { st with
      scene := { st.scene with
        slides := st.scene.slides.eraseIdx i
        current := if i < st.scene.current ∨ (i = st.scene.current ∧ i + 1 = st.scene.slides.length)
          then st.scene.current - 1 else st.scene.current
        pendingIndex := st.scene.pendingIndex.map (fun p => if i < p then p - 1 else p) }
      blocks := st.blocks.withStore (Store.withdrawSlide e.content) } := by
  rw [← currentAfter_eq]
  rfl

theorem Station.moves_removed (i : Nat) (e : Slide) (st : Station) : st.Moves (st.removed i e) := rfl

theorem Station.removeSlide_last {e : Slide} (h : st.scene.slides.eraseIdx i = []) :
    st.removeSlide i e = ((st.removed i e).withScene (fun sc => { sc with current := 0 })).cancelSlide := by
  rw [Station.removeSlide_eq]
  exact if_pos (List.isEmpty_iff.mpr h)

section More

variable {e : Slide} (he : st.scene.slides[i]? = some e) (hn : 2 ≤ st.scene.slides.length)
include he hn

theorem Scene.removeSlide_isEmpty : (st.scene.removeSlide i).slides.isEmpty = false := by
  obtain ⟨hi, -⟩ := List.getElem?_eq_some_iff.mp he
  have hlen : (st.scene.removeSlide i).slides.length = st.scene.slides.length - 1 := Scene.removeSlide_length _ hi
  cases hs : (st.scene.removeSlide i).slides with
  | nil =>
    rw [hs, List.length_nil] at hlen
    omega
  | cons a l => rfl

theorem Station.removeSlide_none
    (hr : (st.scene.removeSlide i).removeRequest i st.scene.pendingIndex st.scene.current = none) :
    st.removeSlide i e = st.removed i e := by
  rw [Station.removeSlide_eq, if_neg (by simp [Scene.removeSlide_isEmpty he hn]), hr]

theorem Station.removeSlide_some {j : Nat}
    (hr : (st.scene.removeSlide i).removeRequest i st.scene.pendingIndex st.scene.current = some j) :
    st.removeSlide i e = (st.removed i e).beginSlide j := by
  rw [Station.removeSlide_eq, if_neg (by simp [Scene.removeSlide_isEmpty he hn]), hr]

/-- The Remove of an entry that nothing is asked for. -/
theorem Station.removeSlide_plain (hp : st.scene.pendingIndex ≠ some i)
    (hc : st.scene.show_ = .stopped ∨ st.scene.pendingIndex.isSome = true ∨ i ≠ st.scene.current) :
    st.removeSlide i e = st.removed i e := by
  refine Station.removeSlide_none he hn ((if_neg hp).trans (if_neg ?_))
  rintro ⟨hshow, hcur, hnone⟩
  rcases hc with h | h | h
  · exact absurd ((show st.scene.show_ = .paused from hshow).symm.trans h) (by simp)
  · rw [hnone] at h
    exact absurd h (by simp)
  · exact h hcur

/-- The Remove of the pending entry begins a change to the entry that stands there then. -/
theorem Station.removeSlide_pending (hp : st.scene.pendingIndex = some i) :
    st.removeSlide i e
      = (st.removed i e).beginSlide (if i + 1 < st.scene.slides.length then i else st.scene.slides.length - 2) := by
  obtain ⟨hi, -⟩ := List.getElem?_eq_some_iff.mp he
  refine Station.removeSlide_some he hn ((if_pos hp).trans (congrArg some ?_))
  have hlen : (st.scene.removeSlide i).slides.length = st.scene.slides.length - 1 := Scene.removeSlide_length _ hi
  rw [hlen]
  split
  · omega
  · omega

/-- The Remove of the current entry of a Paused show with no change pending begins one to the entry that is current then. -/
theorem Station.removeSlide_current (hshow : st.scene.show_ = .paused) (hp : st.scene.pendingIndex = none)
    (hc : i = st.scene.current) :
    st.removeSlide i e = (st.removed i e).beginSlide (st.removed i e).scene.current :=
  Station.removeSlide_some he hn ((if_neg (by simp [hp])).trans (if_pos ⟨hshow, hc, hp⟩))

end More
end Remove

/-- Settles O39: the Removes by the slide state and by what the entry is to the show, and the Clear. -/
theorem slideRemoveAndClear : Obligations.SlideRemoveAndClear := by
  refine ⟨fun s i hs => ⟨fun h => ?_, fun h hi => ?_, fun e hshow hp he hn => ?_, fun e hshow hone hi => ?_,
    fun e r h hshow he hn hr hh => ?_⟩, fun s hs => ⟨fun h => ?_, fun h => ?_⟩⟩
  · exact State.close_refuses hs (Station.applySlideRemove_busy (st := s.station.heard 0 none) h)
  · exact State.close_refuses hs (Station.applySlideRemove_beyond (st := s.station.heard 0 none) h hi)
  · have hrule := (Station.applySlideRemove_taken (st := s.station.heard 0 none) (e := e)
      (by rw [show (s.station.heard 0 none).scene.show_ = _ from hshow]; simp) he).trans
      ((Station.removeSlide_plain (st := s.station.heard 0 none) he hn
        (by rw [show (s.station.heard 0 none).scene.pendingIndex = _ from hp]; simp) (.inl hshow)).trans
        (Station.removed_eq i e _))
    obtain ⟨t, ht, hb⟩ := State.close_whenRunning_becomes hs (by decide) hrule
    have hmap : s.station.scene.pendingIndex.map (fun p => if i < p then p - 1 else p) = s.station.scene.pendingIndex := by
      rw [hp]
      rfl
    refine ⟨t, ht, ?_⟩
    change s.Becomes { s.station.scene with
      slides := _, current := _
      pendingIndex := s.station.scene.pendingIndex.map (fun p => if i < p then p - 1 else p) } _ _ t at hb
    rw [hmap] at hb
    exact hb
  · have hnil : (s.station.heard 0 none).scene.slides.eraseIdx i = [] := by
      rw [show (s.station.heard 0 none).scene.slides = _ from hone, hi]
      rfl
    have hrule := (Station.applySlideRemove_taken (st := s.station.heard 0 none) (e := e) hshow
      (by rw [show (s.station.heard 0 none).scene.slides = _ from hone, hi]; rfl)).trans (Station.removeSlide_last hnil)
    have hexec := State.close_settles hs (by decide : 0 < 6) hrule
    rw [← exec_slideRemove] at hexec
    generalize hv : ((s.station.heard 0 none).removed i e).withScene (fun sc => { sc with current := 0 }) = v at hexec
    have hm : v.mode = .running := by rw [← hv]; exact hs.1
    obtain ⟨hbatch, hsus, hrun⟩ := Station.cancelSlide_decode hm s.station
    obtain ⟨c, hc, -, hstore, hbc⟩ := Station.settle_eq v.cancelSlide s.station
    refine ⟨_, hexec, ?_, ?_, ?_, hbatch, hsus, fun q n x hr => hrun q n x (by rw [← hv]; exact hr)⟩
    · rw [hc]
      change v.scene.cancelSlide = _
      rw [← hv, show (((s.station.heard 0 none).removed i e).withScene (fun sc => { sc with current := 0 })).scene
        = { s.station.scene with
          slides := (s.station.heard 0 none).scene.slides.eraseIdx i, current := 0
          pendingIndex := pendingAfter i s.station.scene.pendingIndex } from rfl, hnil]
      rfl
    · rw [hc]
      change c.store.placements = _
      rw [hstore.1, ← hv]
      rfl
    · rw [hc]
      change c.bc.layerOn = false
      rw [show c.bc = { v.cancelSlide.blocks.bc with back := c.bc.back } from hbc]
      rfl
  · have heq : (s.station.heard 0 none).removed i e = h := by
      rw [Station.removed_eq, hh, hr]
      rfl
    have hmoves : (s.station.heard 0 none).Moves h := heq ▸ Station.moves_removed i e _
    have hcur : ((s.station.heard 0 none).removed i e).scene.current = r.current := by
      rw [heq, hh]
    have htaken : (s.station.heard 0 none).applySlideRemove 0 i = (s.station.heard 0 none).removeSlide i e :=
      Station.applySlideRemove_taken (by rw [show (s.station.heard 0 none).scene.show_ = _ from hshow]; simp) he
    refine ⟨fun hp => ?_, fun hp hc => ?_, fun hp hc => ?_⟩
    · exact State.close_after hs (by decide)
        (htaken.trans ((Station.removeSlide_pending (st := s.station.heard 0 none) he hn hp).trans (by rw [heq]; rfl)))
        (hmoves.trans (Station.moves_beginSlide _ _))
    · exact State.close_after hs (by decide)
        (htaken.trans ((Station.removeSlide_current (st := s.station.heard 0 none) he hn hshow hp hc).trans
          (by rw [hcur, heq]))) (hmoves.trans (Station.moves_beginSlide _ _))
    · exact State.close_after hs (by decide)
        (htaken.trans ((Station.removeSlide_plain (st := s.station.heard 0 none) he hn hp (.inr hc)).trans heq)) hmoves
  · exact State.close_refuses hs (Station.applySlideClear_busy (st := s.station.heard 0 none) h)
  · have hrule := Station.applySlideClear_taken (st := s.station.heard 0 none) h
    have hexec := State.close_settles hs (by decide : 0 < 6) hrule
    rw [← exec_slideClear] at hexec
    rw [Station.clearSlides_eq] at hexec
    generalize hv : (s.station.heard 0 none).cleared = v at hexec
    have hm : v.mode = .running := by rw [← hv]; exact hs.1
    obtain ⟨hbatch, hsus, hrun⟩ := Station.cancelSlide_decode hm s.station
    obtain ⟨c, hc, hw⟩ := Station.settle_eq v.cancelSlide s.station
    have hti : v.cancelSlide.timers = s.station.timers.cancelSlide s.station.isSpeaker s.station.scene := by
      rw [← hv]
      rfl
    refine ⟨_, v.cancelSlide.timers, v.cancelSlide.blocks, hexec, ⟨?_, ?_⟩, fun hsp => ?_, fun hsp => ?_, ?_, ?_, ?_, ?_,
      hbatch, hsus, fun q n x hr => hrun q n x (by rw [← hv]; exact hr)⟩
    · rw [hc, ← hv]
      rfl
    · rw [hc]
      exact hw
    · exact hti.trans (if_pos hsp)
    · exact hti.trans (if_neg (by rw [hsp]; simp))
    · rw [← hv]
      rfl
    · rw [← hv]
      rfl
    · rw [← hv]
      rfl
    · rw [← hv]
      rfl

end Sys2Proof.Machine

/-! SUPPORT. Play and Pause (R85, R86, R89), and the prefetch that a Pause brings (R134). -/

namespace Sys2Proof.Machine

/-! ### Play -/

theorem exec_slidePlay (src n : Nat) (s : State) :
    exec (.slidePlay src n) s = s.event (Station.close src none (Station.whenRunning (Station.applySlidePlay src n))) := rfl

theorem exec_slidePause (src : Nat) (s : State) :
    exec (.slidePause src) s = s.event (Station.close src none (Station.whenRunning (Station.applySlidePause src))) := rfl

/-- The flag byte of a Play (R85). -/
def flagByte (loop : Bool) : Nat := if loop then 1 else 0

theorem readFlag_flagByte (loop : Bool) : readFlag (flagByte loop) = some loop := by cases loop <;> rfl

section Play

variable {loop : Bool} {st : Station}

theorem Station.applySlidePlay_eq :
    st.applySlidePlay 0 (flagByte loop) = match st.scene.show_ with
      | .stopped => if st.scene.slides.isEmpty then st else st.playStopped loop
      | .playing => st.refuse .slideBusy { kind := 0x2B, src := 0 } none none
      | .paused => st.playPaused loop := by
  unfold Station.applySlidePlay
  rw [if_neg (by simp), readFlag_flagByte]
  rfl

theorem Station.applySlidePlay_empty (h : st.scene.show_ = .stopped) (he : st.scene.slides = []) :
    st.applySlidePlay 0 (flagByte loop) = st := by
  rw [Station.applySlidePlay_eq, h, he]
  rfl

theorem Station.applySlidePlay_stopped (h : st.scene.show_ = .stopped) (he : st.scene.slides ≠ []) :
    st.applySlidePlay 0 (flagByte loop) = st.playStopped loop := by
  rw [Station.applySlidePlay_eq, h]
  exact if_neg (fun hempty => he (List.isEmpty_iff.mp hempty))

theorem Station.applySlidePlay_busy (h : st.scene.show_ = .playing) :
    st.applySlidePlay 0 (flagByte loop) = st.refuse .slideBusy { kind := 0x2B, src := 0 } none none := by
  rw [Station.applySlidePlay_eq, h]

theorem Station.applySlidePlay_paused (h : st.scene.show_ = .paused) :
    st.applySlidePlay 0 (flagByte loop) = st.playPaused loop := by
  rw [Station.applySlidePlay_eq, h]

/-- The show Playing with its loop flag, nothing else done yet (R85). -/
def Station.playing (loop : Bool) (st : Station) : Station :=
  { st with scene := { st.scene with loop := loop, show_ := .playing } }

theorem Station.playStopped_eq :
    st.playStopped loop = Station.beginSlide st.scene.current { st.playing loop with
      timers := if st.isSpeaker then { st.timers with elapsed := 0, remaining := none } else st.timers } := by
  unfold Station.playStopped
  cases st.isSpeaker <;> rfl

theorem Station.playPaused_held (h : st.scene.held = true) : st.playPaused loop = (st.playing loop).releaseHold := if_pos h

theorem Station.playPaused_pending (h : st.scene.held = false) (hp : st.scene.pendingIndex.isSome = true) :
    st.playPaused loop = st.playing loop := by
  unfold Station.playPaused
  refine (if_neg (by rw [h]; simp)).trans (if_neg fun hs => ?_)
  obtain ⟨i, hi⟩ := Option.isSome_iff_exists.mp hp
  simp [hi] at hs

/-- A Play in Paused with no change pending: the speaker's duration timer runs on with the frames that remain (R85, R89). -/
theorem Station.playPaused_on {e : Slide} (h : st.scene.held = false) (hp : st.scene.pendingIndex = none)
    (he : st.scene.slides[st.scene.current]? = some e) :
    st.playPaused loop = { st.playing loop with
      timers := if st.isSpeaker then { st.timers with
          slideDuration := if st.timers.remaining.getD e.duration = 0 then none
            else some { tag := st.scene.slideChange, remaining := st.timers.remaining.getD e.duration } }
        else st.timers } := by
  have htimer : (st.playing loop).scene.durationTimer st.timers.remaining
      = if st.timers.remaining.getD e.duration = 0 then none
        else some { tag := st.scene.slideChange, remaining := st.timers.remaining.getD e.duration } := by
    unfold Scene.durationTimer
    rw [show (st.playing loop).scene.slides[(st.playing loop).scene.current]? = some e from he, Option.bind_some]
    rfl
  unfold Station.playPaused
  dsimp only
  rw [if_neg (by rw [h]; simp), hp, ← htimer]
  cases st.isSpeaker <;> rfl

end Play

/-! ### Pause -/

section Pause

variable {st : Station}

theorem Station.applySlidePause_taken (h : st.scene.show_ = .playing) : st.applySlidePause 0 = st.pauseShow :=
  (if_neg (by simp)).trans (if_pos h)

theorem Station.applySlidePause_busy (h : st.scene.show_ ≠ .playing) :
    st.applySlidePause 0 = st.refuse .slideBusy { kind := 0x2C, src := 0 } none none :=
  (if_neg (by simp)).trans (if_neg h)

theorem Station.pauseShow_eq (st : Station) :
    st.pauseShow = { st with
      scene := { st.scene with show_ := .paused }
      timers := if st.isSpeaker then st.timers.pauseSlide st.scene.slideChange else st.timers } := by
  cases h : st.isSpeaker with
  | false => exact Station.pauseShow_of_other h
  | true => exact Station.pauseShow_of_speaker h

theorem Timers.pauseSlide_kept {t : Timers} {d : Timer} {change : Half} (h : t.slideDuration = some d) (ht : d.tag = change) :
    t.pauseSlide change = { t with slideDuration := none, remaining := some d.remaining } := by
  unfold Timers.pauseSlide
  rw [h]
  dsimp only
  rw [if_pos ht]

theorem Timers.pauseSlide_full {t : Timers} {change : Half}
    (h : t.slideDuration = none ∨ ∃ d, t.slideDuration = some d ∧ d.tag ≠ change) :
    t.pauseSlide change = { t with slideDuration := none, remaining := none } := by
  unfold Timers.pauseSlide
  rcases h with h | ⟨d, h, ht⟩
  · rw [h]
  · rw [h]
    dsimp only
    rw [if_neg ht]

end Pause

/-! ### The prefetch test (R134) -/

theorem Decode.hasBatch_iff_of_page {d : Decode} {j : PageJob} (h : d.running = some (.page j)) :
    d.hasBatch = (d.batch.isSome || d.suspended.isSome) := by
  unfold Decode.hasBatch
  rw [h, Bool.or_false]

/-- The end of an event that makes the prefetch test while a Page Prepare job is in progress: the queued batch is what the test
leaves. -/
theorem Blocks.settle_prefetches {g : Geometry} {scBefore sc : Scene} {before b : Blocks} {r : Running}
    (hr : b.decode.running = some r) (hw : b.store.roomWait = []) (hd : b.decode.deferred = false)
    (hp : prefetchDue scBefore sc before b = true) :
    (Blocks.settle g scBefore sc before b).decode.running = some r
      ∧ (Blocks.settle g scBefore sc before b).decode.batch = (b.prefetch g sc).decode.batch := by
  have hrun : (b.prefetch g sc).decode.running = some r := (Blocks.prefetch_keepsWork g sc b).1.trans hr
  have hready := (Blocks.sameBatches_pageReadiness sc (b.prefetch g sc)).trans
    (Blocks.sameBatches_slideReadiness sc ((b.prefetch g sc).pageReadiness sc))
  refine ⟨(Blocks.settle_keepsWork hr).1.trans hr, ?_⟩
  unfold Blocks.settle
  dsimp only
  rw [Blocks.retryRoom_empty hw, Blocks.chooseJobs_busy hr, Blocks.refill_clear hd, Blocks.chooseJobs_busy hr, hp, if_pos rfl,
    Blocks.chooseJobs_busy hrun, Blocks.queueWants_decode]
  exact hready.1

section Prefetch

variable {g : Geometry} {sc : Scene} {b : Blocks}

theorem Scene.prefetchContent_some {n : Nat} {e : Slide} (hshow : sc.show_ ≠ .stopped) (hp : sc.pendingIndex = none)
    (hn : sc.nextIndex sc.current = some n) (he : sc.slides[n]? = some e) : sc.prefetchContent = some e.content := by
  unfold Scene.prefetchContent
  rw [if_neg (by simp [hshow, hp]), hn, Option.bind_some, he, Option.map_some]

theorem Compositor.backFree_iff (c : Compositor) : c.backFree = true ↔ c.transition = none ∧ c.slideSwitch = none := by
  simp [Compositor.backFree]

theorem Compositor.backHolds_iff (k : Content) (c : Compositor) :
    c.backHolds k = true ↔ c.back.content = some k ∧ c.back.whole = true ∧ c.back.firstFailing = none := by
  simp [Compositor.backHolds, and_assoc]

theorem Compositor.backHolds_false {k : Content} {c : Compositor}
    (h : c.back.content ≠ some k ∨ c.back.whole = false ∨ c.back.firstFailing ≠ none) : c.backHolds k = false := by
  refine Bool.eq_false_iff.mpr fun hh => ?_
  obtain ⟨h1, h2, h3⟩ := (Compositor.backHolds_iff _ _).mp hh
  rcases h with h | h | h
  · exact h h1
  · exact absurd (h.symm.trans h2) (by simp)
  · exact h h3

/-- The prefetch made (R134). -/
theorem Blocks.prefetch_made {k : Content} (hk : sc.prefetchContent = some k) (hb : b.decode.hasBatch = false)
    (hfree : b.bc.backFree = true) (hholds : b.bc.backHolds k = false) :
    (b.prefetch g sc).decode.batch = some (b.store.newBatch g k none) := by
  unfold Blocks.prefetch
  rw [hk]
  dsimp only
  rw [if_neg (by simp [hb, hfree, hholds])]
  rfl

/-- The prefetch that a batch, a held back surface or a content that is there already forbids (R134). -/
theorem Blocks.prefetch_forbidden
    (h : sc.prefetchContent = none ∨ b.decode.hasBatch = true ∨ b.bc.backFree = false
      ∨ ∃ k, sc.prefetchContent = some k ∧ b.bc.backHolds k = true) : b.prefetch g sc = b := by
  unfold Blocks.prefetch
  split
  · rfl
  · next k hk =>
    refine if_pos ?_
    rcases h with h | h | h | ⟨q, hq, h⟩
    · exact absurd (h.symm.trans hk) (by simp)
    · simp [h]
    · simp [h]
    · obtain rfl : q = k := Option.some.inj (hq.symm.trans hk)
      simp [h]

end Prefetch

/-- Settles O41: Play by the slide state and the change it finds, Pause by the duration timer, and the prefetch by what forbids
it. -/
theorem playAndPause : Obligations.PlayAndPause := by
  refine ⟨fun s loop n h hs hn hh => ?_, fun s hs => ⟨fun hshow => ?_, fun hshow => ?_⟩,
    fun s j hs hshow hrun hdef hroom => ?_⟩
  · obtain rfl : n = flagByte loop := hn
    subst hh
    refine ⟨fun hshow he => ?_, fun hshow he => ?_, fun hshow => ?_, fun e hshow hheld hp he => ?_,
      fun i hshow hheld hp => ?_, fun i full part hshow hheld hp hfull hpart => ?_⟩
    · exact State.close_whenRunning_becomes hs (by decide)
        (Station.applySlidePlay_empty (st := s.station.heard 0 none) hshow he)
    · exact State.close_after hs (by decide)
        ((Station.applySlidePlay_stopped (st := s.station.heard 0 none) hshow he).trans Station.playStopped_eq)
        (Station.moves_beginSlide s.station.scene.current { (s.station.heard 0 none).playing loop with
          timers := if s.station.isSpeaker then { s.station.timers with elapsed := 0, remaining := none }
            else s.station.timers })
    · exact State.close_refuses hs (Station.applySlidePlay_busy (st := s.station.heard 0 none) hshow)
    · obtain ⟨t, ht, hb⟩ := State.close_whenRunning_becomes hs (by decide)
        ((Station.applySlidePlay_paused (loop := loop) (st := s.station.heard 0 none) hshow).trans
          (Station.playPaused_on hheld hp he))
      exact ⟨t, _, ht, hb, fun hsp => if_neg (by rw [show (s.station.heard 0 none).isSpeaker = _ from hsp]; simp),
        fun hsp => if_pos hsp⟩
    · exact State.close_whenRunning_becomes hs (by decide)
        ((Station.applySlidePlay_paused (loop := loop) (st := s.station.heard 0 none) hshow).trans
          (Station.playPaused_pending hheld (by rw [show (s.station.heard 0 none).scene.pendingIndex = _ from hp]; rfl)))
    · obtain ⟨ti, b, hrule, hother, hspeaker⟩ := Station.releaseHold_cases (st := (s.station.heard 0 none).playing loop) hp
      obtain ⟨t, ht, hb⟩ := State.close_whenRunning_becomes hs (by decide)
        ((Station.applySlidePlay_paused (loop := loop) (st := s.station.heard 0 none) hshow).trans
          ((Station.playPaused_held (st := s.station.heard 0 none) hheld).trans hrule))
      subst hfull hpart
      exact ⟨t, ti, b, ht, hb, hother, hspeaker⟩
  · obtain ⟨t, ht, hb⟩ := State.close_whenRunning_becomes hs (by decide)
      ((Station.applySlidePause_taken (st := s.station.heard 0 none) hshow).trans (Station.pauseShow_eq _))
    exact ⟨t, _, ht, hb, fun hsp => if_neg (by rw [show (s.station.heard 0 none).isSpeaker = _ from hsp]; simp),
      fun d hsp hd ht => (if_pos hsp).trans (Timers.pauseSlide_kept hd ht),
      fun hsp hd => (if_pos hsp).trans (Timers.pauseSlide_full hd)⟩
  · exact State.close_refuses hs (Station.applySlidePause_busy (st := s.station.heard 0 none) hshow)
  · have hexec := State.close_settles hs (by decide : 0 < 6)
      ((Station.applySlidePause_taken (st := s.station.heard 0 none) hshow).trans (Station.pauseShow_eq _))
    rw [← exec_slidePause] at hexec
    obtain ⟨sc, hsc⟩ : ∃ sc : Scene, sc = { s.station.scene with show_ := .paused } := ⟨_, rfl⟩
    have hdue : prefetchDue s.station.scene sc s.station.blocks (s.station.closed 0 none) = true := by
      unfold prefetchDue
      rw [hsc, hshow]
      simp
    obtain ⟨hrunning, hbatch⟩ := Blocks.settle_prefetches (g := s.station.geometry) (b := s.station.closed 0 none)
      hrun hroom hdef hdue
    have hblocks := Station.settle_running (st := { s.station.heard 0 none with
      scene := { s.station.scene with show_ := .paused }
      timers := if s.station.isSpeaker then s.station.timers.pauseSlide s.station.scene.slideChange
        else s.station.timers }) hs.1 s.station
    rw [hsc] at hrunning hbatch
    have hhas : (s.station.closed 0 none).decode.hasBatch
        = (s.station.blocks.decode.batch.isSome || s.station.blocks.decode.suspended.isSome) :=
      Decode.hasBatch_iff_of_page hrun
    refine ⟨fun n e hp hn he hb hsus htr hsw hno => ⟨_, hexec, ?_, ?_⟩, fun hforbid => ⟨_, hexec, ?_⟩⟩
    · exact (congrArg (fun b : Blocks => b.decode.running) hblocks).trans hrunning
    · refine (congrArg (fun b : Blocks => b.decode.batch) hblocks).trans (hbatch.trans ?_)
      refine Blocks.prefetch_made (b := s.station.closed 0 none) (k := e.content) ?_ ?_ ?_ ?_
      · exact Scene.prefetchContent_some (sc := { s.station.scene with show_ := .paused }) (by simp) hp hn he
      · rw [hhas, hb, hsus]
        rfl
      · exact (Compositor.backFree_iff _).mpr ⟨htr, hsw⟩
      · exact Compositor.backHolds_false hno
    · refine (congrArg (fun b : Blocks => b.decode.batch) hblocks).trans (hbatch.trans ?_)
      refine Eq.trans (congrArg (fun b : Blocks => b.decode.batch)
        (Blocks.prefetch_forbidden (b := s.station.closed 0 none) ?_)) rfl
      have hnotFree : ∀ c : Compositor, c.transition.isSome = true ∨ c.slideSwitch.isSome = true → c.backFree = false :=
        fun c hc => by
          unfold Compositor.backFree
          rcases hc with hc | hc
          · obtain ⟨x, hx⟩ := Option.isSome_iff_exists.mp hc
            simp [hx]
          · obtain ⟨x, hx⟩ := Option.isSome_iff_exists.mp hc
            simp [hx]
      have hcontent : ∀ k : Option Nat, s.station.scene.nextIndex s.station.scene.current = k →
          s.station.scene.pendingIndex = none →
          ({ s.station.scene with show_ := .paused } : Scene).prefetchContent
            = (k.bind (fun i => s.station.scene.slides[i]?)).map Slide.content := fun k hk hp => by
        unfold Scene.prefetchContent
        rw [if_neg (by simp [hp]), ← hk]
        rfl
      by_cases hp : s.station.scene.pendingIndex.isSome = true
      · exact .inl (if_pos (.inr hp))
      · have hp : s.station.scene.pendingIndex = none := by simpa using hp
        rcases hforbid with h | h | h | h | h | h | ⟨n, e, hn, he, hc, hw, hf⟩
        · rw [hp] at h
          exact absurd h (by simp)
        · exact .inl ((hcontent none h hp).trans rfl)
        · exact .inr (.inl (by rw [hhas, h]; rfl))
        · exact .inr (.inl (by rw [hhas, h, Bool.or_true]))
        · exact .inr (.inr (.inl (hnotFree _ (.inl h))))
        · exact .inr (.inr (.inl (hnotFree _ (.inr h))))
        · refine .inr (.inr (.inr ⟨e.content, ?_, (Compositor.backHolds_iff _ _).mpr ⟨hc, hw, hf⟩⟩))
          rw [hcontent (some n) hn hp, Option.bind_some, he, Option.map_some]

end Sys2Proof.Machine

/-! SUPPORT. A slide change begins: the Tagged cues that fire on it (R98), its timers (R92), and the batch that meets it (R129,
R132). -/

namespace Sys2Proof.Machine

/-! ### The cues that fire -/

/-- The effect pauses the show. -/
def CueEffect.pauses (e : CueEffect) : Bool :=
  match e with
  | .pause => true
  | _ => false

theorem CueEffect.pauses_iff (e : CueEffect) : e.pauses = true ↔ e = .pause := by cases e <;> simp [CueEffect.pauses]

theorem CueEffect.setsWord_iff (e : CueEffect) : e.setsWord = true ↔ ∃ w k, e = .setBit w k := by
  cases e <;> simp [CueEffect.setsWord]

/-- The words after a cue's effect: a Set Bit alone changes them (R98). -/
def CueEffect.onWords (e : CueEffect) (words : List Half) : List Half :=
  match e with
  | .setBit w k => words.set w (wordAt words w ||| ((1 : Half) <<< k))
  | _ => words

/-- The words after the effects of a list of cues (R98). -/
def setBits (l : List Cue) (words : List Half) : List Half := l.foldl (fun u c => c.effect.onWords u) words

section TagEffects

theorem Scene.tagEffect_eq (e : CueEffect) (sc : Scene) :
    sc.tagEffect e = { sc with
      words := e.onWords sc.words
      show_ := if e.pauses then .paused else sc.show_
      held := sc.held || e.pauses } := by
  cases e with
  | pause => simp [Scene.tagEffect, CueEffect.pauses, CueEffect.onWords]
  | reportOnly => simp [Scene.tagEffect, CueEffect.pauses, CueEffect.onWords]
  | setBit w k => simp [Scene.tagEffect, CueEffect.pauses, CueEffect.onWords, applyEffect]

/-- The effects of the cues that fire, in order: every Set Bit, and a hold with a pause where one of them pauses (R98). -/
theorem Scene.foldl_tagEffect_eq (l : List Cue) (sc : Scene) :
    l.foldl (fun s c => s.tagEffect c.effect) sc = { sc with
      words := setBits l sc.words
      show_ := if l.any (fun c => c.effect.pauses) then .paused else sc.show_
      held := sc.held || l.any (fun c => c.effect.pauses) } := by
  induction l generalizing sc with
  | nil => simp [setBits]
  | cons c l ih =>
    have hwords : setBits (c :: l) sc.words = setBits l (c.effect.onWords sc.words) := rfl
    rw [List.foldl_cons, ih, Scene.tagEffect_eq, List.any_cons, hwords]
    cases c.effect.pauses with
    | false => simp
    | true => simp

/-- The recomputation reads the words, the pages and the buttons alone (R18, R20). -/
theorem Scene.recompute_live_congr {sc : Scene} (v : Show) (held : Bool) (change : Half) (p : Option Nat) (ready : List Nat) :
    ({ sc with show_ := v, held := held, slideChange := change, pendingIndex := p, slideReady := ready } : Scene).recompute.live
      = sc.recompute.live := by
  have hbody : ({ sc with show_ := v, held := held, slideChange := change, pendingIndex := p, slideReady := ready }
      : Scene).shownBody = sc.shownBody := rfl
  have hreselect : ∀ live : List Live,
      ({ sc with show_ := v, held := held, slideChange := change, pendingIndex := p, slideReady := ready, live := live }
        : Scene).reselect.live = ({ sc with live := live } : Scene).reselect.live := fun live => by
    have hsel : ({ sc with show_ := v, held := held, slideChange := change, pendingIndex := p, slideReady := ready
                           live := live } : Scene).selectedButton = ({ sc with live := live } : Scene).selectedButton := rfl
    unfold Scene.reselect
    rw [hsel]
    cases ({ sc with live := live } : Scene).selectedButton with
    | none => rfl
    | some i =>
      dsimp only
      cases enabledAt live i <;> rfl
  unfold Scene.recompute Scene.decideEnabled
  rw [hbody]
  cases sc.shownBody with
  | none => exact hreselect sc.live
  | some pg => exact hreselect _

variable {i tag : Nat} {e : Slide} (ht : e.tag = some tag) (sc : Scene)
include ht

/-- The cues of the show that fire on the tag. -/
def Scene.fires (tag : Nat) (sc : Scene) : List Cue := sc.cues.filter (Cue.firesOn tag)

theorem Scene.beginSlide_fires :
    sc.beginSlide i e = { (sc.raiseSlide i).tagEffects (sc.fires tag) with
      cues := sc.cues.map (fun c => if c.firesOn tag then c.disarm else c) } := by
  obtain ⟨words, live, v, held, heq, -, -⟩ := Scene.tagEffects_frame (sc.fires tag) (sc.raiseSlide i)
  unfold Scene.beginSlide Scene.testTag
  rw [ht]
  change { (sc.raiseSlide i).tagEffects (sc.fires tag) with
    cues := ((sc.raiseSlide i).tagEffects (sc.fires tag)).cues.map (fun c : Cue => if c.firesOn tag then c.disarm else c) } = _
  rw [heq]
  rfl

/-- The replica of a slide change to an entry with a tag, but for the buttons' records (R92, R98). -/
theorem Scene.beginSlide_tagged :
    sc.beginSlide i e = { sc with
      slideChange := sc.slideChange + 1, pendingIndex := some i, slideReady := []
      words := setBits (sc.fires tag) sc.words
      show_ := if (sc.fires tag).any (fun c => c.effect.pauses) then .paused else sc.show_
      held := (sc.fires tag).any (fun c => c.effect.pauses)
      cues := sc.cues.map (fun c => if c.firesOn tag then c.disarm else c)
      live := (sc.beginSlide i e).live } := by
  have hfold := Scene.foldl_tagEffect_eq (sc.fires tag) (sc.raiseSlide i)
  have heffects : (sc.raiseSlide i).tagEffects (sc.fires tag)
      = { (sc.fires tag).foldl (fun s c => s.tagEffect c.effect) (sc.raiseSlide i) with
        live := ((sc.raiseSlide i).tagEffects (sc.fires tag)).live } := by
    unfold Scene.tagEffects
    dsimp only
    split
    · exact Scene.recompute_frame _
    · rfl
  have hlive : (sc.beginSlide i e).live = ((sc.raiseSlide i).tagEffects (sc.fires tag)).live := by
    rw [Scene.beginSlide_fires ht]
  rw [hlive, Scene.beginSlide_fires ht, heffects, hfold]
  simp [Scene.raiseSlide]

/-- The buttons follow the words once, at the end, where a cue set one (R18, R98). -/
theorem Scene.beginSlide_live :
    (sc.beginSlide i e).live = if (sc.fires tag).any (fun c => c.effect.setsWord) then
      ({ sc with words := setBits (sc.fires tag) sc.words } : Scene).recompute.live else sc.live := by
  have hfold := Scene.foldl_tagEffect_eq (sc.fires tag) (sc.raiseSlide i)
  rw [Scene.beginSlide_fires ht]
  change ((sc.raiseSlide i).tagEffects (sc.fires tag)).live = _
  unfold Scene.tagEffects
  dsimp only
  rw [hfold]
  split
  · exact Scene.recompute_live_congr (sc := { sc with words := setBits (sc.fires tag) sc.words }) _ _ _ _ _
  · rfl

end TagEffects

theorem Scene.mem_fires {tag : Nat} {sc : Scene} {c : Cue} :
    c ∈ sc.fires tag ↔ c ∈ sc.cues ∧ c.armed = true ∧ c.forced = false ∧ c.trigger = tag := by
  unfold Scene.fires
  rw [List.mem_filter]
  simp [Cue.firesOn, and_assoc]

/-! ### The Cue Hits -/

theorem Link.enqueue_room {l : Link} (hs : l.silent = false) (hq : l.queue.length < 8) (m : Message) :
    l.enqueue m = { l with queue := l.queue ++ [m] } := by
  unfold Link.enqueue
  rw [if_neg (by simp [hs]), if_neg (show ¬ Config.queueLimit ≤ l.queue.length from Nat.not_le.mpr hq)]

theorem Station.enqueueAll_queue (ms : List Message) {st : Station} (hs : st.blocks.link.silent = false)
    (hq : st.blocks.link.queue.length + ms.length ≤ 8) :
    (st.enqueueAll ms).blocks.link.queue = st.blocks.link.queue ++ ms := by
  induction ms generalizing st with
  | nil => exact (List.append_nil _).symm
  | cons m ms ih =>
    rw [List.length_cons] at hq
    have hone : (st.enqueue m).blocks.link = { st.blocks.link with queue := st.blocks.link.queue ++ [m] } :=
      Link.enqueue_room hs (by omega) m
    have hrest := ih (st := st.enqueue m) (by rw [hone]; exact hs) (by rw [hone]; simp; omega)
    rw [hone] at hrest
    exact hrest.trans (List.append_assoc _ _ _)

theorem Station.enqueueAll_blocks (ms : List Message) (st : Station) :
    (st.enqueueAll ms).blocks = { st.blocks with link := (st.enqueueAll ms).blocks.link } := by
  induction ms generalizing st with
  | nil => rfl
  | cons m ms ih => exact ih (st.enqueue m)

/-- The Cue Hits change nothing but the queue. -/
theorem Station.hitTagged_eq (cues : List Cue) (tag : Option Nat) (i : Nat) (st : Station) :
    st.hitTagged cues tag i = { st with
      blocks := { st.blocks with link := (st.hitTagged cues tag i).blocks.link } } := by
  unfold Station.hitTagged
  split
  · rfl
  · split
    · rw [← Station.enqueueAll_blocks]
      exact Station.enqueueAll_eq _ _
    · rfl

/-! ### The batch that meets the change -/

theorem Store.wantBatch_eq (q : Batch) (s : Store) : s.wantBatch q = { s with wants := (s.wantBatch q).wants } := by
  unfold Store.wantBatch
  split <;> rfl

/-- Where the list has room, the batch's short strips are on it, or its whole asset while they are not known (R129). -/
theorem Store.wantBatch_wanted {q : Batch} {s : Store} (hroom : s.wants.length + (q.strips.getD []).length < 64) :
    (q.strips = none → { asset := q.content.asset, span := none } ∈ (s.wantBatch q).wants)
      ∧ ∀ e ∈ q.strips.getD [], e.2 = .pending → s.isHeld { asset := q.content.asset, index := e.1 } = false →
        s.isBroken { asset := q.content.asset, index := e.1 } = false →
        ∃ r ∈ (s.wantBatch q).wants, r.covers q.content.asset e.1 e.1 = true := by
  unfold Store.wantBatch
  cases hs : q.strips with
  | none =>
    rw [hs] at hroom
    exact ⟨fun _ => mem_addWhole (Nat.lt_of_le_of_lt (Nat.le_add_right _ _) hroom), by simp⟩
  | some l =>
    refine ⟨by simp, fun e he hp hh hb => ?_⟩
    rw [hs, Option.getD_some] at hroom
    have hlen : (q.pendingStrips.filter s.isShort).length ≤ l.length := by
      refine (List.length_filter_le _ _).trans ?_
      unfold Batch.pendingStrips
      rw [hs, List.length_map]
      exact List.length_filter_le _ _
    have hmem : q.strip e.1 ∈ q.pendingStrips := by
      unfold Batch.pendingStrips
      rw [hs]
      exact List.mem_map.mpr ⟨e, List.mem_filter.mpr ⟨he, decide_eq_true hp⟩, rfl⟩
    have hshort : s.isShort (q.strip e.1) = true := by
      unfold Store.isShort
      rw [show s.isHeld (q.strip e.1) = false from hh, show s.isBroken (q.strip e.1) = false from hb]
      rfl
    exact (addStrips_wanted (q.pendingStrips.filter s.isShort) s.wants).2 (by omega) _
      (List.mem_filter.mpr ⟨hmem, hshort⟩)

theorem Decode.activeBatch_none {d : Decode} (hr : ∀ r n, d.running ≠ some (.batch r n false)) : d.activeBatch = none := by
  unfold Decode.activeBatch
  split
  · next q i hq => exact absurd hq (hr q i)
  · rfl

section MeetSlide

variable {g : Geometry} {k : Content} {change : Half} {b : Blocks}

/-- What meeting a change leaves: the Want list and the Decode Unit apart, everything (R132). -/
theorem Blocks.meetSlide_frame :
    b.meetSlide g k change = { b with
        store := { b.store with wants := (b.meetSlide g k change).store.wants }
        decode := (b.meetSlide g k change).decode }
      ∧ (b.meetSlide g k change).decode.slideReadySent = b.decode.slideReadySent := by
  have htaken : ∀ (f : Decode → Decode) (q : Batch), (f b.decode).slideReadySent = b.decode.slideReadySent →
      (b.withDecode f).withStore (Store.wantBatch q) = { b with
          store := { b.store with wants := ((b.withDecode f).withStore (Store.wantBatch q)).store.wants }
          decode := ((b.withDecode f).withStore (Store.wantBatch q)).decode }
        ∧ ((b.withDecode f).withStore (Store.wantBatch q)).decode.slideReadySent = b.decode.slideReadySent :=
    fun f q hf => ⟨by
      change { b with store := b.store.wantBatch q, decode := f b.decode } = _
      rw [Store.wantBatch_eq]
      rfl, hf⟩
  have hreplaced := htaken (fun d => { d.removeBatches with batch := some (b.store.newBatch g k (some change)) })
    (b.store.newBatch g k (some change)) rfl
  unfold Blocks.meetSlide
  split
  · exact ⟨rfl, rfl⟩
  · split
    · split
      · exact htaken _ _ rfl
      · exact hreplaced
    · split
      · split
        · exact htaken _ _ rfl
        · exact hreplaced
      · split
        · split
          · exact htaken _ _ rfl
          · exact hreplaced
        · exact hreplaced

theorem Blocks.meetSlide_reported (h : (b.bc.backFree && b.bc.backHolds k) = true) :
    (b.meetSlide g k change).decode = { b.decode with reported := some change } := by
  unfold Blocks.meetSlide
  rw [if_pos h]
  rfl

variable (h : (b.bc.backFree && b.bc.backHolds k) = false)
include h

theorem Blocks.meetSlide_active {q : Batch} {n : Nat} (hr : b.decode.running = some (.batch q n false)) (hk : q.content = k) :
    b.meetSlide g k change = { b with
      decode := { b.decode with running := some (.batch { q with change := some change } n false) }
      store := b.store.wantBatch q } := by
  have hactive : b.decode.activeBatch = some (q, n) := by
    unfold Decode.activeBatch
    rw [hr]
  unfold Blocks.meetSlide
  rw [if_neg (by simp [h]), hactive]
  exact if_pos hk

theorem Blocks.meetSlide_suspended {q : Batch} (hr : ∀ r n, b.decode.running ≠ some (.batch r n false))
    (hs : b.decode.suspended = some q) (hk : q.content = k) :
    b.meetSlide g k change = { b with
      decode := { b.decode with suspended := some { q with change := some change } }
      store := b.store.wantBatch q } := by
  unfold Blocks.meetSlide
  rw [if_neg (by simp [h]), Decode.activeBatch_none hr, hs]
  exact if_pos hk

theorem Blocks.meetSlide_queued {q : Batch} (hr : ∀ r n, b.decode.running ≠ some (.batch r n false))
    (hs : b.decode.suspended = none) (hb : b.decode.batch = some q) (hk : q.content = k) :
    b.meetSlide g k change = { b with
      decode := { b.decode with batch := some { q with change := some change } }
      store := b.store.wantBatch q } := by
  unfold Blocks.meetSlide
  rw [if_neg (by simp [h]), Decode.activeBatch_none hr, hs, hb]
  exact if_pos hk

/-- Where no batch of the content is left to take over, a new one takes the place of all (R132). -/
theorem Blocks.meetSlide_replaced (hr : ∀ q n, b.decode.running = some (.batch q n false) → q.content ≠ k)
    (hs : ∀ q, b.decode.suspended = some q → q.content ≠ k) (hb : ∀ q, b.decode.batch = some q → q.content ≠ k) :
    b.meetSlide g k change = b.replaceBatch g k change := by
  unfold Blocks.meetSlide
  rw [if_neg (by simp [h])]
  split
  · next q i hq =>
    refine if_neg (hr q i ?_)
    unfold Decode.activeBatch at hq
    split at hq
    · next q' i' hq' =>
      obtain ⟨rfl, rfl⟩ := Prod.mk.inj (Option.some.inj hq)
      exact hq'
    · exact absurd hq (by simp)
  · split
    · next q hq => exact if_neg (hs q hq)
    · split
      · next q hq => exact if_neg (hb q hq)
      · rfl

end MeetSlide

section BeginSlide

variable (g : Geometry) (superseded : Bool) (k : Content) (change : Half) (b : Blocks)

/-- The blocks as the change is met: a superseded change's queued work gone, the entry's strips pinned (R92). -/
def Blocks.meeting : Blocks :=
  { b with
    store := { b.store.setRoles (fun r => { r with pendingSlide := b.store.roleSet g [slidePlacement k] }) with
      exhausted := false }
    decode := { b.decode with
      slideReadySent := false, reported := none
      batch := b.decode.batch.filter (fun q => !(superseded && q.change.isSome && !q.begun)) } }

theorem Decode.dropQueuedAdvance_eq (d : Decode) :
    d.dropQueuedAdvance = { d with batch := d.batch.filter (fun q => !(q.change.isSome && !q.begun)) } := by
  unfold Decode.dropQueuedAdvance
  cases hb : d.batch with
  | none =>
    change d = { d with batch := none }
    rw [← hb]
  | some q =>
    dsimp only
    rw [Option.filter_some]
    cases hq : (q.change.isSome && !q.begun) with
    | true => rfl
    | false =>
      change d = { d with batch := some q }
      rw [← hb]

theorem Blocks.beginSlide_eq :
    b.beginSlide g superseded k change = (b.meeting g superseded k).meetSlide g k change := by
  cases superseded with
  | true =>
    have hdrop : (b.meeting g true k).decode
        = { b.decode.dropQueuedAdvance with slideReadySent := false, reported := none } := by
      rw [Decode.dropQueuedAdvance_eq]
      rfl
    unfold Blocks.beginSlide
    refine congrArg (fun c : Blocks => c.meetSlide g k change) ?_
    change { b with store := _, decode := { b.decode.dropQueuedAdvance with slideReadySent := false, reported := none } } = _
    rw [← hdrop]
    rfl
  | false =>
    have hkeep : (b.meeting g false k).decode = { b.decode with slideReadySent := false, reported := none } := by
      have hfilter : b.decode.batch.filter (fun q => !(false && q.change.isSome && !q.begun)) = b.decode.batch := by
        cases b.decode.batch <;> rfl
      unfold Blocks.meeting
      rw [hfilter]
    unfold Blocks.beginSlide
    refine congrArg (fun c : Blocks => c.meetSlide g k change) ?_
    change { b with store := _, decode := { b.decode with slideReadySent := false, reported := none } } = _
    rw [← hkeep]
    rfl

theorem Blocks.beginSlide_link : (b.beginSlide g superseded k change).link = b.link := by
  rw [Blocks.beginSlide_eq, Blocks.meetSlide_frame.1]
  rfl

theorem Blocks.beginSlide_bc : (b.beginSlide g superseded k change).bc = b.bc := by
  rw [Blocks.beginSlide_eq, Blocks.meetSlide_frame.1]
  rfl

theorem Blocks.beginSlide_roles :
    (b.beginSlide g superseded k change).store.roles
      = { b.store.roles with pendingSlide := b.store.roleSet g [slidePlacement k] } := by
  rw [Blocks.beginSlide_eq, Blocks.meetSlide_frame.1]
  rfl

theorem Blocks.beginSlide_slideReadySent : (b.beginSlide g superseded k change).decode.slideReadySent = false := by
  rw [Blocks.beginSlide_eq]
  exact Blocks.meetSlide_frame.2

end BeginSlide

/-! ### The station -/

theorem Scene.beginSlide_slideChange (i : Nat) (e : Slide) (sc : Scene) : (sc.beginSlide i e).slideChange = sc.slideChange + 1 := by
  obtain ⟨words, live, v, held, cues, h, -⟩ := sc.beginSlide_frame i e
  rw [h]

section Begun

variable {st : Station} {i : Nat} {e : Slide} (he : st.scene.slides[i]? = some e)
include he

theorem Station.beginSlide_of_some :
    st.beginSlide i = Station.hitTagged st.scene.cues e.tag i { st with
      scene := st.scene.beginSlide i e
      timers := st.timers.beginSlide st.isSpeaker st.prepareLimit (st.scene.beginSlide i e)
      blocks := st.blocks.beginSlide st.geometry st.scene.pendingIndex.isSome e.content
        (st.scene.beginSlide i e).slideChange } := by
  unfold Station.beginSlide
  rw [he]
  rfl

/-- The station of a begun slide change, but for the Cue Hits in its queue. -/
theorem Station.beginSlide_frame :
    st.beginSlide i = { st with
      scene := st.scene.beginSlide i e
      timers := st.timers.beginSlide st.isSpeaker st.prepareLimit (st.scene.beginSlide i e)
      blocks := { st.blocks.beginSlide st.geometry st.scene.pendingIndex.isSome e.content (st.scene.slideChange + 1) with
        link := (st.beginSlide i).blocks.link } } := by
  have h := Station.beginSlide_of_some he
  rw [Scene.beginSlide_slideChange] at h
  obtain ⟨u, hu⟩ : ∃ u : Station, u = { st with
      scene := st.scene.beginSlide i e
      timers := st.timers.beginSlide st.isSpeaker st.prepareLimit (st.scene.beginSlide i e)
      blocks := st.blocks.beginSlide st.geometry st.scene.pendingIndex.isSome e.content (st.scene.slideChange + 1) } :=
    ⟨_, rfl⟩
  rw [← hu] at h
  have k := Station.hitTagged_eq st.scene.cues e.tag i u
  rw [← h] at k
  subst hu
  exact k

/-- The Decode Unit and the Want list of a begun slide change are those of the blocks that met it. -/
theorem Station.beginSlide_meets :
    (st.beginSlide i).blocks.decode = ((st.blocks.meeting st.geometry st.scene.pendingIndex.isSome e.content).meetSlide
        st.geometry e.content (st.scene.slideChange + 1)).decode
      ∧ (st.beginSlide i).blocks.store = ((st.blocks.meeting st.geometry st.scene.pendingIndex.isSome e.content).meetSlide
        st.geometry e.content (st.scene.slideChange + 1)).store := by
  rw [Station.beginSlide_frame he, ← Blocks.beginSlide_eq]
  exact ⟨rfl, rfl⟩

/-- The speaker's Cue Hits join a queue that has room for them all (R98). -/
theorem Station.beginSlide_hits {tag : Nat} (ht : e.tag = some tag) (hsp : st.isSpeaker = true)
    (hs : st.blocks.link.silent = false)
    (hq : st.blocks.link.queue.length + (firing tag 0 st.scene.cues).length ≤ 8) :
    (st.beginSlide i).blocks.link.queue = st.blocks.link.queue ++ (firing tag 0 st.scene.cues).map (fun k =>
      .cueHit { index := k, kind := 1, trigger := tag, slide := i, change := st.scene.slideChange + 1 }) := by
  obtain ⟨words, live, v, held, cues, hframe, -⟩ := st.scene.beginSlide_frame i e
  generalize hu : ({ st with
      scene := st.scene.beginSlide i e
      timers := st.timers.beginSlide st.isSpeaker st.prepareLimit (st.scene.beginSlide i e)
      blocks := st.blocks.beginSlide st.geometry st.scene.pendingIndex.isSome e.content
        (st.scene.beginSlide i e).slideChange } : Station) = u
  have hlink : u.blocks.link = st.blocks.link := by
    rw [← hu]
    exact Blocks.beginSlide_link _ _ _ _ _
  have hspeaker : u.isSpeaker = true := by
    rw [← hsp, ← hu]
    refine Station.isSpeaker_congr ?_ rfl
    exact Scene.beginSlide_speaker i e st.scene
  have hscene : u.scene.slideChange = st.scene.slideChange + 1 := by
    rw [← hu]
    exact Scene.beginSlide_slideChange i e _
  have hhits : u.hitTagged st.scene.cues (some tag) i
      = u.enqueueAll ((firing tag 0 st.scene.cues).map (fun k => .cueHit (u.scene.taggedHit tag i k))) := if_pos hspeaker
  rw [Station.beginSlide_of_some he, hu, ht, hhits, Station.enqueueAll_queue _ (by rw [hlink]; exact hs)
    (by rw [hlink, List.length_map]; exact hq), hlink]
  unfold Scene.taggedHit
  rw [hscene]

end Begun

section Timers

variable {speaker : Bool} {limit : Nat} {sc : Scene} {t : Timers}

theorem Timers.beginSlide_held (h : sc.held = true) :
    (speaker = true → t.beginSlide speaker limit sc = { t with slidePrepare := none, slideMark := false, remaining := none })
      ∧ (speaker = false → t.beginSlide speaker limit sc
        = { t with absence := if sc.pendingPage.isSome then t.absence else none }) := by
  unfold Timers.beginSlide
  rw [h]
  refine ⟨fun hs => ?_, fun hs => ?_⟩
  · rw [hs]
    rfl
  · rw [hs]
    rfl

theorem Timers.beginSlide_free (h : sc.held = false) :
    (speaker = true → t.beginSlide speaker limit sc
        = { t with slidePrepare := some { tag := sc.slideChange, remaining := limit }, slideMark := false })
      ∧ (speaker = false → t.beginSlide speaker limit sc = { t with absence := some 0 }) := by
  unfold Timers.beginSlide
  rw [h]
  refine ⟨fun hs => ?_, fun hs => ?_⟩
  · rw [hs]
    rfl
  · rw [hs]
    rfl

end Timers

/-- Settles O40: the change to an entry without a tag, the cues of an entry with one, and the batch that meets the change. -/
theorem slideChangeBegins : Obligations.SlideChangeBegins := by
  refine ⟨fun st i e he ht => ?_, fun st i tag e he ht => ?_, fun st i e d change wanted he hchange hwanted hd =>
    ⟨fun htr hsw hc hw hf => ?_, fun hno => ?_⟩⟩
  · have hraise : st.scene.beginSlide i e = st.scene.raiseSlide i := by
      unfold Scene.beginSlide Scene.testTag
      rw [ht]
    refine ⟨st.blocks.beginSlide st.geometry st.scene.pendingIndex.isSome e.content (st.scene.slideChange + 1), ?_,
      Blocks.beginSlide_link .., Blocks.beginSlide_bc .., Blocks.beginSlide_roles .., Blocks.beginSlide_slideReadySent ..⟩
    have h := Station.beginSlide_of_some he
    rw [ht, hraise] at h
    refine h.trans ?_
    change ({ st with scene := _, timers := _, blocks := _ } : Station) = _
    unfold Timers.beginSlide
    cases st.isSpeaker <;> rfl
  · have hframe := Station.beginSlide_frame he
    have htagged := Scene.beginSlide_tagged (i := i) ht st.scene
    have hscene : (st.beginSlide i).scene = st.scene.beginSlide i e := by rw [hframe]
    have htimers : (st.beginSlide i).timers
        = st.timers.beginSlide st.isSpeaker st.prepareLimit (st.scene.beginSlide i e) := by rw [hframe]
    have hheldEq : (st.scene.beginSlide i e).held = (st.scene.fires tag).any (fun c => c.effect.pauses) := by rw [htagged]
    have hshowEq : (st.scene.beginSlide i e).show_
        = if (st.scene.fires tag).any (fun c => c.effect.pauses) then .paused else st.scene.show_ := by rw [htagged]
    have hpend : (st.scene.beginSlide i e).pendingPage = st.scene.pendingPage := by rw [htagged]
    have hchange : (st.scene.beginSlide i e).slideChange = st.scene.slideChange + 1 :=
      Scene.beginSlide_slideChange i e _
    refine ⟨?_, ?_, ?_, fun hex => ?_, fun hall => ?_, Station.beginSlide_hits he ht, fun l words sc hl hwords hsc => ?_⟩
    · rw [hscene, htagged]
      rfl
    · rw [hscene, hchange]
    · rw [hscene, htagged]
    · have hany : (st.scene.fires tag).any (fun c => c.effect.pauses) = true := by
        obtain ⟨c, hc, ha, hf, htr, hp⟩ := hex
        exact List.any_eq_true.mpr ⟨c, Scene.mem_fires.mpr ⟨hc, ha, hf, htr⟩, (CueEffect.pauses_iff _).mpr hp⟩
      rw [hany] at hheldEq hshowEq
      rw [hscene, htimers, ← hpend]
      exact ⟨hheldEq, hshowEq, Timers.beginSlide_held hheldEq⟩
    · have hany : (st.scene.fires tag).any (fun c => c.effect.pauses) = false := by
        refine Bool.eq_false_iff.mpr fun h => ?_
        obtain ⟨c, hc, hp⟩ := List.any_eq_true.mp h
        obtain ⟨hc, ha, hf, htr⟩ := Scene.mem_fires.mp hc
        exact hall c hc ha hf htr ((CueEffect.pauses_iff _).mp hp)
      rw [hany] at hheldEq hshowEq
      rw [hscene, htimers, ← hchange]
      exact ⟨hheldEq, hshowEq, Timers.beginSlide_free hheldEq⟩
    · have hl : l = st.scene.fires tag := hl
      subst hl
      have hwords : words = setBits (st.scene.fires tag) st.scene.words := hwords
      subst hwords hsc
      have hlive := Scene.beginSlide_live (i := i) ht st.scene
      rw [hscene]
      refine ⟨by rw [htagged], fun hex => ?_, fun hall => ?_⟩
      · obtain ⟨c, hc, hset⟩ := hex
        rw [hlive, if_pos (List.any_eq_true.mpr ⟨c, hc, (CueEffect.setsWord_iff _).mpr hset⟩)]
      · rw [hlive, if_neg]
        intro h
        obtain ⟨c, hc, hset⟩ := List.any_eq_true.mp h
        obtain ⟨w, k, hwk⟩ := (CueEffect.setsWord_iff _).mp hset
        exact hall c hc w k hwk
  · have hmet := (Station.beginSlide_meets he).1
    rw [hmet, Blocks.meetSlide_reported, hd, hchange]
    · rfl
    · exact Bool.and_eq_true_iff.mpr ⟨(Compositor.backFree_iff _).mpr ⟨htr, hsw⟩,
        (Compositor.backHolds_iff _ _).mpr ⟨hc, hw, hf⟩⟩
  · obtain ⟨hdecode, hstore⟩ := Station.beginSlide_meets he
    generalize hb : st.blocks.meeting st.geometry st.scene.pendingIndex.isSome e.content = b at hdecode hstore
    have hbd : b.decode = d := by rw [← hb, hd]; rfl
    have hwants : b.store.wants = st.blocks.store.wants := by rw [← hb]; rfl
    have hfalse : (b.bc.backFree && b.bc.backHolds e.content) = false := by
      have hbc : b.bc = st.blocks.bc := by rw [← hb]; rfl
      refine Bool.eq_false_iff.mpr fun h => ?_
      obtain ⟨hfree, hholds⟩ := Bool.and_eq_true_iff.mp h
      rw [hbc] at hfree hholds
      obtain ⟨htr, hsw⟩ := (Compositor.backFree_iff _).mp hfree
      obtain ⟨hc, hw, hf⟩ := (Compositor.backHolds_iff _ _).mp hholds
      rcases hno with h | h | h | h | h
      · simp [htr] at h
      · simp [hsw] at h
      · exact h hc
      · simp [hw] at h
      · exact h hf
    have hok : ∀ q, (b.meetSlide st.geometry e.content (st.scene.slideChange + 1)).store = b.store.wantBatch q → wanted q :=
      fun q hq => (hwanted q).mpr fun hroom => by
        have hgot := Store.wantBatch_wanted (q := q) (s := b.store) (by rw [hwants]; exact hroom)
        rw [hstore, hq]
        refine ⟨hgot.1, fun x hx hp hh hbr => hgot.2 x hx hp ?_ ?_⟩
        · rw [← hb]
          exact (Store.isHeld_setRoles (fun r => { r with pendingSlide := _ }) _ _).trans hh
        · rw [← hb]
          exact (Store.isBroken_setRoles (fun r => { r with pendingSlide := _ }) _ _).trans hbr
    rw [← hchange] at hdecode hok
    rw [← hbd]
    refine ⟨fun q n hr hk => ?_, fun q hr hs hk => ?_, fun q hr hs hq hk => ?_, fun hr hs hq new hnew => ?_⟩
    · have h := Blocks.meetSlide_active (g := st.geometry) (change := change) hfalse hr hk
      exact ⟨by rw [hdecode, h], hok q (by rw [h])⟩
    · have h := Blocks.meetSlide_suspended (g := st.geometry) (change := change) hfalse hr hs hk
      exact ⟨by rw [hdecode, h], hok q (by rw [h])⟩
    · have h := Blocks.meetSlide_queued (g := st.geometry) (change := change) hfalse hr hs hq hk
      exact ⟨by rw [hdecode, h], hok q (by rw [h])⟩
    · have h := Blocks.meetSlide_replaced (g := st.geometry) (change := change) hfalse hr hs hq
      have hn : b.store.newBatch st.geometry e.content (some change) = new := by
        rw [hnew, ← hb]
        rfl
      refine ⟨?_, hok new (by rw [h, ← hn]; rfl)⟩
      rw [hdecode, h, ← hn]
      unfold Blocks.replaceBatch Decode.removeBatches
      rfl

end Sys2Proof.Machine

/-! SUPPORT. The defining messages: the ranges of their fields (R3, R7 to R9, R15), and what they make of the page table and the
placements (R6, R10, R11, R13). -/

namespace Sys2Proof.Machine

/-! ### Fields -/

theorem readEffect_of_inRange {e : RawEffect} (h : effectInRange e) : readEffect e = some (effectMeant e) := by
  obtain ⟨hk, hw, hp, hd⟩ := h
  unfold readEffect effectMeant
  rw [if_neg (by omega)]
  obtain h | h | h | h | h : e.kind = 0 ∨ e.kind = 1 ∨ e.kind = 2 ∨ e.kind = 3 ∨ e.kind = 4 := by omega
  · rw [h]
    exact if_pos (hp (by omega))
  · rw [h]
    exact if_pos (hp (by omega))
  · rw [h]
    exact if_pos (hp (by omega))
  · rw [h]
    exact if_pos (hd h)
  · rw [h]
    rfl

theorem effectInRange_of_read {e : RawEffect} {w : WordEffect} (h : readEffect e = some w) : effectInRange e := by
  unfold readEffect at h
  split at h
  · exact absurd h (by simp)
  · next hw =>
    unfold effectInRange
    split at h
    · next hk =>
      have := (Option.ite_none_right_eq_some.mp h).1
      omega
    · next hk =>
      have := (Option.ite_none_right_eq_some.mp h).1
      omega
    · next hk =>
      have := (Option.ite_none_right_eq_some.mp h).1
      omega
    · next hk =>
      have := (Option.ite_none_right_eq_some.mp h).1
      omega
    · next hk => omega
    · exact absurd h (by simp)

theorem readEffects_of_inRange {l : List RawEffect} (h : ∀ e ∈ l, effectInRange e) :
    readEffects l = some (l.map effectMeant) := by
  induction l with
  | nil => rfl
  | cons e l ih =>
    unfold readEffects
    rw [readEffect_of_inRange (h e List.mem_cons_self), ih fun x hx => h x (List.mem_cons_of_mem _ hx)]
    rfl

theorem effectsInRange_of_read {l : List RawEffect} {ws : List WordEffect} (h : readEffects l = some ws) :
    ∀ e ∈ l, effectInRange e := by
  induction l generalizing ws with
  | nil => simp
  | cons e l ih =>
    unfold readEffects at h
    simp only [Option.bind_eq_bind, Option.bind_eq_some_iff] at h
    obtain ⟨w, hw, us, hus, -⟩ := h
    intro x hx
    rcases List.mem_cons.mp hx with rfl | hx
    · exact effectInRange_of_read hw
    · exact ih hus x hx

theorem readOptional_byte (n : Nat) (ok : Nat → Bool) :
    readOptional (optionalByte n) ok
      = if n = 255 ∨ ok n = true then some (if n = 255 then none else some n) else none := by
  unfold optionalByte
  by_cases h : n = 255
  · simp [h, readOptional]
  · simp [h, readOptional]

theorem readOptional_half (n : Nat) (ok : Nat → Bool) :
    readOptional (optionalHalf n) ok
      = if n = 65535 ∨ ok n = true then some (if n = 65535 then none else some n) else none := by
  unfold optionalHalf
  by_cases h : n = 65535
  · simp [h, readOptional]
  · simp [h, readOptional]

theorem readBackground_eq (b : DefinePageBody) :
    readBackground b = if b.asset = 65535 ∨ (b.asset ≤ 1023 ∧ b.x ≤ 3839 ∧ b.y ≤ 2159) then
      some (if b.asset = 65535 then .colour b.colour else .asset b.asset b.x b.y) else none := by
  unfold readBackground optionalHalf
  by_cases h : b.asset = 65535
  · simp [h]
  · simp [h, isAsset, inScreen]

theorem readOnTimeout_eq (code page : Nat) :
    readOnTimeout code page = if code ≤ 2 ∧ (code = 1 → page ≤ 63) then
      some (if code = 0 then .none else if code = 1 then .go page else .activateSelected) else none := by
  by_cases h : code ≤ 2
  · obtain h | h | h : code = 0 ∨ code = 1 ∨ code = 2 := by omega
    · rw [h]
      rfl
    · rw [h]
      by_cases hp : page ≤ 63
      · rw [if_pos ⟨by decide, fun _ => hp⟩]
        exact if_pos hp
      · rw [if_neg fun hk => hp (hk.2 rfl)]
        exact if_neg hp
    · rw [h]
      rfl
  · rw [if_neg fun hk => h hk.1]
    unfold readOnTimeout
    split
    · exact absurd (Nat.zero_le 2) h
    · exact absurd (by decide) h
    · exact absurd (Nat.le_refl 2) h
    · rfl

theorem readEntryEffect_eq (e : RawEffect) :
    readEntryEffect e = if e.kind = 255 ∨ effectInRange e then
      some (if e.kind = 255 then none else some (effectMeant e)) else none := by
  unfold readEntryEffect
  by_cases h : e.kind = 255
  · rw [if_pos h, if_pos (.inl h), if_pos h]
  · rw [if_neg h]
    by_cases hr : effectInRange e
    · rw [if_pos (.inr hr), if_neg h, readEffect_of_inRange hr]
      rfl
    · rw [if_neg (not_or.mpr ⟨h, hr⟩)]
      cases hread : readEffect e with
      | none => rfl
      | some w => exact absurd (effectInRange_of_read hread) hr

/-! ### The header of a Define Page -/

/-- The ranges of R3, R7 and R15 for a Define Page. -/
def headerInRange (b : DefinePageBody) : Prop :=
  (b.asset = 65535 ∨ (b.asset ≤ 1023 ∧ b.x ≤ 3839 ∧ b.y ≤ 2159)) ∧ (b.default = 255 ∨ b.default < b.buttons)
    ∧ b.onTimeout ≤ 2 ∧ (b.onTimeout = 1 → b.goPage ≤ 63) ∧ b.guardLevel ≤ 7
    ∧ (b.entry.kind = 255 ∨ effectInRange b.entry) ∧ b.buttons ≤ 32 ∧ b.pictures ≤ 16

/-- The header that a Define Page in range spells. -/
def headerMeant (b : DefinePageBody) : Header :=
  { background := if b.asset = 65535 then .colour b.colour else .asset b.asset b.x b.y
    default := if b.default = 255 then none else some b.default, timeout := b.timeout
    onTimeout := if b.onTimeout = 0 then .none else if b.onTimeout = 1 then .go b.goPage else .activateSelected
    guardLevel := b.guardLevel, entryEffect := if b.entry.kind = 255 then none else some (effectMeant b.entry)
    buttons := b.buttons, pictures := b.pictures }

theorem readHeader_of_inRange {b : DefinePageBody} (h : headerInRange b) : readHeader b = some (headerMeant b) := by
  obtain ⟨hb, hd, ht, hg, hl, he, hn, hp⟩ := h
  have htg : b.onTimeout ≤ 2 ∧ (b.onTimeout = 1 → b.goPage ≤ 63) := ⟨ht, hg⟩
  unfold readHeader
  rw [readBackground_eq, if_pos hb, readOnTimeout_eq, if_pos htg, readEntryEffect_eq, if_pos he, readOptional_byte,
    if_pos (hd.imp_right decide_eq_true)]
  simp only [within, hn, hp, hl, decide_true, if_true]
  rfl

theorem inRange_of_readHeader {b : DefinePageBody} {h : Header} (hr : readHeader b = some h) : headerInRange b := by
  unfold readHeader at hr
  rw [readBackground_eq, readOnTimeout_eq, readEntryEffect_eq, readOptional_byte] at hr
  simp only [Option.bind_eq_bind, Option.bind_eq_some_iff, within, Option.ite_none_right_eq_some, decide_eq_true_eq] at hr
  obtain ⟨-, ⟨hb, -⟩, -, ⟨⟨ht, hg⟩, -⟩, -, ⟨he, -⟩, -, ⟨hn, -⟩, -, ⟨hp, -⟩, -, ⟨hl, -⟩, -, ⟨hd, -⟩, -⟩ := hr
  exact ⟨hb, hd, ht, hg, hl, he, hn, hp⟩

theorem readHeader_of_not {b : DefinePageBody} (h : ¬ headerInRange b) : readHeader b = none := by
  cases hr : readHeader b with
  | none => rfl
  | some x => exact absurd (inRange_of_readHeader hr) h

/-! ### The record of a Define Button -/

/-- The ranges of R3, R8 and R15 for a Define Button on a page that declares `n` buttons. -/
def buttonInRange (n : Nat) (b : DefineButtonBody) : Prop :=
  b.x ≤ 3839 ∧ b.y ≤ 2159 ∧ 1 ≤ b.width ∧ b.width ≤ 3840 ∧ 1 ≤ b.height ∧ b.height ≤ 2160
    ∧ b.normal ≤ 1023 ∧ b.selected ≤ 1023 ∧ (b.activated = 65535 ∨ b.activated ≤ 1023)
    ∧ (∀ l ∈ [b.up, b.down, b.left, b.right], l = 255 ∨ l < n)
    ∧ (b.enableWord = 255 ∨ (b.enableWord ≤ 7 ∧ b.sense ≤ 1)) ∧ (b.number = 255 ∨ (1 ≤ b.number ∧ b.number ≤ 99))
    ∧ (b.goPage = 255 ∨ b.goPage ≤ 63) ∧ 1 ≤ b.report ∧ b.count = b.effects.length ∧ b.count ≤ 4
    ∧ ∀ e ∈ b.effects, effectInRange e

/-- The button that a Define Button in range spells. -/
def buttonMeant (b : DefineButtonBody) : Button :=
  { id := b.button, rect := { x := b.x, y := b.y, width := b.width, height := b.height }
    normal := b.normal, selected := b.selected
    activated := if b.activated = 65535 then none else some b.activated
    up := if b.up = 255 then none else some b.up, down := if b.down = 255 then none else some b.down
    left := if b.left = 255 then none else some b.left, right := if b.right = 255 then none else some b.right
    condition := if b.enableWord = 255 then none
      else some { word := b.enableWord, mask := b.mask, value := b.value, differ := decide (b.sense = 1) }
    number := if b.number = 255 then none else some b.number, effects := b.effects.map effectMeant
    report := if b.report = 65535 then none else some b.report
    goPage := if b.goPage = 255 then none else some b.goPage }

theorem readCondition_eq (b : DefineButtonBody) :
    readCondition b = if b.enableWord = 255 ∨ (b.enableWord ≤ 7 ∧ b.sense ≤ 1) then
      some (if b.enableWord = 255 then none
        else some { word := b.enableWord, mask := b.mask, value := b.value, differ := decide (b.sense = 1) }) else none := by
  unfold readCondition optionalByte
  by_cases h : b.enableWord = 255
  · simp [h]
  · simp [h]

theorem readButton_of_inRange {n : Nat} {b : DefineButtonBody} (h : buttonInRange n b) : readButton n b = some (buttonMeant b) := by
  obtain ⟨hx, hy, hw, hw', hh, hh', hno, hse, hac, hl, hc, hnum, hg, hr, hcount, hcount', he⟩ := h
  simp only [List.mem_cons, List.not_mem_nil, or_false, forall_eq_or_imp, forall_eq] at hl
  obtain ⟨hup, hdown, hleft, hright⟩ := hl
  have hdec : ∀ {m k : Nat} {p : Prop} [Decidable p], m = k ∨ p → m = k ∨ decide p = true :=
    fun h => h.imp_right decide_eq_true
  unfold readButton
  rw [readOptional_half, if_pos (show b.activated = 65535 ∨ isAsset b.activated = true from hdec hac), readOptional_byte,
    if_pos (hdec hup), readOptional_byte, if_pos (hdec hdown), readOptional_byte, if_pos (hdec hleft), readOptional_byte, if_pos (hdec hright), readCondition_eq, if_pos hc,
    readOptional_byte, if_pos (hnum.imp_right fun h => by simp [h]), readOptional_byte, if_pos (hdec hg), readOptional_half,
    if_pos (show b.report = 65535 ∨ decide (1 ≤ b.report) = true from .inr (decide_eq_true hr)), readEffects_of_inRange he]
  simp only [within, inScreen, isAsset, hx, hy, hw, hw', hh, hh', hno, hse, ← hcount, hcount', decide_true, Bool.and_true,
    if_true]
  rfl

theorem inRange_of_readButton {n : Nat} {b : DefineButtonBody} {o : Button} (h : readButton n b = some o) : buttonInRange n b := by
  unfold readButton at h
  rw [readOptional_half, readOptional_byte, readOptional_byte, readOptional_byte, readOptional_byte, readCondition_eq,
    readOptional_byte, readOptional_byte, readOptional_half] at h
  simp only [Option.bind_eq_bind, Option.bind_eq_some_iff, within, Option.ite_none_right_eq_some, decide_eq_true_eq,
    inScreen, isAsset, Bool.and_eq_true] at h
  obtain ⟨-, ⟨⟨⟨⟨⟨⟨hx, hy⟩, hw⟩, hw'⟩, hh⟩, hh'⟩, -⟩, -, ⟨hno, -⟩, -, ⟨hse, -⟩, -, ⟨hac, -⟩, -, ⟨hup, -⟩, -, ⟨hdown, -⟩,
    -, ⟨hleft, -⟩, -, ⟨hright, -⟩, -, ⟨hc, -⟩, -, ⟨hnum, -⟩, -, ⟨hg, -⟩, -, ⟨hr, -⟩, -, ⟨⟨hcount, hcount'⟩, -⟩, ws, he, -⟩ := h
  refine ⟨hx, hy, hw, hw', hh, hh', hno, hse, hac, ?_, hc, hnum, hg, by omega, hcount, hcount', effectsInRange_of_read he⟩
  simp only [List.mem_cons, List.not_mem_nil, or_false, forall_eq_or_imp, forall_eq]
  exact ⟨hup, hdown, hleft, hright⟩

theorem readButton_of_not {n : Nat} {b : DefineButtonBody} (h : ¬ buttonInRange n b) : readButton n b = none := by
  cases hr : readButton n b with
  | none => rfl
  | some x => exact absurd (inRange_of_readButton hr) h

theorem readPicture_of_inRange {b : DefinePictureBody} (ha : b.asset ≤ 1023) (hx : b.x ≤ 3839) (hy : b.y ≤ 2159) :
    readPicture b = some { id := b.picture, asset := b.asset, x := b.x, y := b.y } :=
  if_pos (by simp [isAsset, inScreen, ha, hx, hy])

theorem readPicture_of_not {b : DefinePictureBody} (h : 1023 < b.asset ∨ 3839 < b.x ∨ 2159 < b.y) :
    readPicture b = none := by
  refine if_neg fun hok => ?_
  simp only [isAsset, inScreen, Bool.and_eq_true, decide_eq_true_eq] at hok
  omega

/-! ### The checks of R6 -/

theorem Scene.inUse_iff (sc : Scene) (p : Nat) :
    sc.inUse p = true ↔ sc.shown = some p ∨ sc.pendingPage = some p ∨ sc.leaving = some p := by
  simp [Scene.inUse, or_assoc]

section Checks

variable {sc : Scene} {p : Nat}

theorem Scene.checkPage_beyond (h : 63 < p) : sc.checkPage p = .error .badDefinition := if_pos h

theorem Scene.checkPage_busy (h : p ≤ 63) (hu : sc.inUse p = true) : sc.checkPage p = .error .pageBusy :=
  (if_neg (Nat.not_lt.mpr h)).trans (if_pos hu)

theorem Scene.checkPage_free (h : p ≤ 63) (hu : sc.inUse p = false) : sc.checkPage p = .ok () :=
  (if_neg (Nat.not_lt.mpr h)).trans (if_neg (by simp [hu]))

/-- A page that fails the checks of R6 makes the message fail with them. -/
theorem Scene.define_error {k : FaultKind} (h : sc.checkPage p = .error k) :
    (∀ b : DefinePageBody, b.page = p → sc.definePage b = .error k)
      ∧ (∀ b : DefineButtonBody, b.page = p → sc.defineButton b = .error k)
      ∧ (∀ b : DefinePictureBody, b.page = p → sc.definePicture b = .error k) := by
  refine ⟨fun b hb => ?_, fun b hb => ?_, fun b hb => ?_⟩
  · unfold Scene.definePage
    rw [hb, h]
    rfl
  · unfold Scene.defineButton
    rw [hb, h]
    rfl
  · unfold Scene.definePicture
    rw [hb, h]
    rfl

theorem Scene.definePage_free {b : DefinePageBody} (hp : b.page ≤ 63) (hu : sc.inUse b.page = false) :
    sc.definePage b = match readHeader b with
      | none => .error .badDefinition
      | some h => .ok { header := h, buttons := [], pictures := [] } := by
  unfold Scene.definePage
  rw [Scene.checkPage_free hp hu]
  rfl

theorem Scene.defineButton_free {b : DefineButtonBody} (hp : b.page ≤ 63) (hu : sc.inUse b.page = false) :
    sc.defineButton b = match sc.body b.page with
      | none => .error .badDefinition
      | some pg =>
        if pg.header.buttons ≤ b.button then .error .badDefinition
        else match readButton pg.header.buttons b with
          | none => .error .badDefinition
          | some o => .ok ({ pg with buttons := putButton o pg.buttons }, o) := by
  unfold Scene.defineButton
  rw [Scene.checkPage_free hp hu]
  rfl

theorem Scene.definePicture_free {b : DefinePictureBody} (hp : b.page ≤ 63) (hu : sc.inUse b.page = false) :
    sc.definePicture b = match sc.body b.page with
      | none => .error .badDefinition
      | some pg =>
        if pg.header.pictures ≤ b.picture then .error .badDefinition
        else match readPicture b with
          | none => .error .badDefinition
          | some o => .ok ({ pg with pictures := putPicture o pg.pictures }, o) := by
  unfold Scene.definePicture
  rw [Scene.checkPage_free hp hu]
  rfl

end Checks

/-! ### The rules -/

theorem exec_definePage (src : Nat) (b : DefinePageBody) (s : State) :
    exec (.definePage src b) s = s.event (Station.close src none (Station.whenRunning (Station.applyDefinePage src b))) := rfl

theorem exec_defineButton (src : Nat) (b : DefineButtonBody) (s : State) :
    exec (.defineButton src b) s
      = s.event (Station.close src none (Station.whenRunning (Station.applyDefineButton src b))) := rfl

theorem exec_definePicture (src : Nat) (b : DefinePictureBody) (s : State) :
    exec (.definePicture src b) s
      = s.event (Station.close src none (Station.whenRunning (Station.applyDefinePicture src b))) := rfl

theorem exec_dropPage (src p : Nat) (s : State) :
    exec (.dropPage src p) s = s.event (Station.close src none (Station.whenRunning (Station.applyDropPage src p))) := rfl

section Rules

variable {src : Nat} {st : Station}

theorem definer_of_le (h : src ≤ 1) : ¬ (!definer src) = true := by simp [definer, h]

theorem definer_of_gt (h : 1 < src) : (!definer src) = true := by simp [definer, h]

theorem Station.applyDefinePage_ignored (h : 1 < src) (b : DefinePageBody) : st.applyDefinePage src b = st :=
  if_pos (definer_of_gt h)

theorem Station.applyDefineButton_ignored (h : 1 < src) (b : DefineButtonBody) : st.applyDefineButton src b = st :=
  if_pos (definer_of_gt h)

theorem Station.applyDefinePicture_ignored (h : 1 < src) (b : DefinePictureBody) : st.applyDefinePicture src b = st :=
  if_pos (definer_of_gt h)

theorem Station.applyDropPage_ignored (h : 1 < src) (p : Nat) : st.applyDropPage src p = st := if_pos (definer_of_gt h)

variable (h : src ≤ 1)
include h

theorem Station.applyDefinePage_error {b : DefinePageBody} {k : FaultKind} (hk : st.scene.definePage b = .error k) :
    st.applyDefinePage src b = st.refuse k { kind := 0x40, src := src } (some b.page) none := by
  unfold Station.applyDefinePage
  rw [if_neg (definer_of_le h), hk]
  rfl

theorem Station.applyDefinePage_ok {b : DefinePageBody} {pg : PageBody} (hk : st.scene.definePage b = .ok pg) :
    st.applyDefinePage src b = { st with
      scene := { st.scene with pages := st.scene.pages.set b.page (Page.ofBody pg) }
      blocks := st.blocks.withStore
        (Store.replacePlacements (Maker.ofPage b.page) (backgroundPlacements b.page pg.header)) } := by
  unfold Station.applyDefinePage
  rw [if_neg (definer_of_le h), hk]
  rfl

theorem Station.applyDefineButton_error {b : DefineButtonBody} {k : FaultKind} (hk : st.scene.defineButton b = .error k) :
    st.applyDefineButton src b = st.refuse k { kind := 0x41, src := src } (some b.page) (some b.button) := by
  unfold Station.applyDefineButton
  rw [if_neg (definer_of_le h), hk]
  rfl

theorem Station.applyDefineButton_ok {b : DefineButtonBody} {pg : PageBody} {o : Button}
    (hk : st.scene.defineButton b = .ok (pg, o)) :
    st.applyDefineButton src b = { st with
      scene := { st.scene with pages := st.scene.pages.set b.page (Page.ofBody pg) }
      blocks := st.blocks.withStore
        (Store.replacePlacements (fun m => decide (m = .button b.page o.id)) (buttonPlacements b.page o)) } := by
  unfold Station.applyDefineButton
  rw [if_neg (definer_of_le h), hk]
  rfl

theorem Station.applyDefinePicture_error {b : DefinePictureBody} {k : FaultKind}
    (hk : st.scene.definePicture b = .error k) :
    st.applyDefinePicture src b = st.refuse k { kind := 0x42, src := src } (some b.page) (some b.picture) := by
  unfold Station.applyDefinePicture
  rw [if_neg (definer_of_le h), hk]
  rfl

theorem Station.applyDefinePicture_ok {b : DefinePictureBody} {pg : PageBody} {o : Picture}
    (hk : st.scene.definePicture b = .ok (pg, o)) :
    st.applyDefinePicture src b = { st with
      scene := { st.scene with pages := st.scene.pages.set b.page (Page.ofBody pg) }
      blocks := st.blocks.withStore
        (Store.replacePlacements (fun m => decide (m = .picture b.page o.id)) [picturePlacement b.page o]) } := by
  unfold Station.applyDefinePicture
  rw [if_neg (definer_of_le h), hk]
  rfl

theorem Station.applyDropPage_error {p : Nat} {k : FaultKind} (hk : st.scene.checkPage p = .error k) :
    st.applyDropPage src p = st.refuse k { kind := 0x43, src := src } (some p) none := by
  unfold Station.applyDropPage
  rw [if_neg (definer_of_le h), hk]
  rfl

theorem Station.applyDropPage_ok {p : Nat} (hk : st.scene.checkPage p = .ok ()) :
    st.applyDropPage src p = { st with
      scene := { st.scene with pages := st.scene.pages.set p .undefined }
      blocks := st.blocks.withStore (Store.replacePlacements (Maker.ofPage p) []) } := by
  unfold Station.applyDropPage
  rw [if_neg (definer_of_le h), hk]
  rfl

end Rules

/-- The placements that are not of a maker, as the definitions test them. -/
theorem Store.replacePlacements_eq {f : Maker → Bool} {P : Maker → Prop} [DecidablePred P] (hf : ∀ m, f m = decide (P m))
    (added : List Placement) (s : Store) :
    s.replacePlacements f added = { s with
      placements := s.placements.filter (fun pl => decide (¬ P pl.maker)) ++ added } := by
  have h : (fun pl : Placement => !f pl.maker) = fun pl => decide (¬ P pl.maker) := by
    funext pl
    rw [hf, decide_not]
  unfold Store.replacePlacements
  rw [h]

/-- A page with nothing on it is Complete when its header declares nothing (R7, R10). -/
theorem Page.ofBody_empty (h : Header) :
    Page.ofBody { header := h, buttons := [], pictures := [] }
      = if h.buttons = 0 ∧ h.pictures = 0 then .complete { header := h, buttons := [], pictures := [] }
        else .defining { header := h, buttons := [], pictures := [] } := by
  have hall : ∀ n : Nat, (List.range n).all (fun _ => false) = decide (n = 0) := fun n => by
    cases n with
    | zero => rfl
    | succ n => simp [List.range_succ]
  unfold Page.ofBody PageBody.whole
  simp only [List.any_nil, hall, Bool.and_eq_true, decide_eq_true_eq]

/-- A refusal of a defining message (R62). -/
theorem State.close_refusesFrom {s : State} {src : Nat} {rule : Station → Station} {k : FaultKind} {kind : Nat}
    {p q : Option Nat} (hs : s.station.Listens) (hsrc : src ≤ 1)
    (hr : rule (s.station.heard src none) = (s.station.heard src none).refuse k { kind := kind, src := src } p q) :
    ∃ t, s.event (Station.close src none (Station.whenRunning rule)) = .next t
      ∧ s.Becomes s.station.scene s.station.timers (s.station.refusal k kind p q src) t :=
  State.close_whenRunning_becomes hs (by omega) (hr.trans (Station.refuse_heard k kind src p q s.station))

/-- Settles O46: Define Page by the check that it fails, Drop Page by the page's use. -/
theorem pagesAreDefinedAndDropped : Obligations.PagesAreDefinedAndDropped := by
  refine ⟨fun s src b inRange hs hsrc hin => ⟨fun hp => ?_, fun hp hu => ?_, fun hp hu hno => ?_,
    fun h hp hu hok hh => ?_, fun other ho => ?_⟩,
    fun s src p hs hsrc => ⟨fun hp hu => ?_, fun hp hu => ?_, fun hp => ?_, fun other ho => ?_⟩⟩
  · exact State.close_refusesFrom hs hsrc (Station.applyDefinePage_error (st := s.station.heard src none) hsrc
      ((Scene.define_error (Scene.checkPage_beyond hp)).1 b rfl))
  · exact State.close_refusesFrom hs hsrc (Station.applyDefinePage_error (st := s.station.heard src none) hsrc
      ((Scene.define_error (Scene.checkPage_busy hp ((Scene.inUse_iff _ _).mpr hu))).1 b rfl))
  · refine State.close_refusesFrom hs hsrc (Station.applyDefinePage_error (st := s.station.heard src none) hsrc ?_)
    rw [Scene.definePage_free (sc := (s.station.heard src none).scene) hp hu, readHeader_of_not (fun h => hno (hin.mpr h))]
  · obtain rfl : h = headerMeant b := hh
    have hrule := Station.applyDefinePage_ok (st := s.station.heard src none) (b := b) (pg := {
      header := headerMeant b, buttons := [], pictures := [] }) hsrc
      (by rw [Scene.definePage_free (sc := (s.station.heard src none).scene) hp hu, readHeader_of_inRange (hin.mp hok)])
    rw [Page.ofBody_empty] at hrule
    obtain ⟨t, ht, hb⟩ := State.close_whenRunning_becomes hs (by omega) hrule
    refine ⟨t, ht, ?_⟩
    change s.Becomes _ _ { s.station.closed src none with
      store := s.station.blocks.store.replacePlacements (Maker.ofPage b.page) (backgroundPlacements b.page (headerMeant b)) } t at hb
    rw [Store.replacePlacements_eq (f := Maker.ofPage b.page) (P := fun m => m.page = some b.page) (fun _ => rfl)] at hb
    exact hb
  · exact State.close_ignoredRunning hs (Station.applyDefinePage_ignored ho b)
  · have hrule := Station.applyDropPage_ok (st := s.station.heard src none) hsrc (Scene.checkPage_free hp hu)
    obtain ⟨t, ht, hb⟩ := State.close_whenRunning_becomes hs (by omega) hrule
    refine ⟨t, ht, ?_⟩
    change s.Becomes _ _ { s.station.closed src none with
      store := s.station.blocks.store.replacePlacements (Maker.ofPage p) [] } t at hb
    rw [Store.replacePlacements_eq (f := Maker.ofPage p) (P := fun m => m.page = some p) (fun _ => rfl), List.append_nil] at hb
    exact hb
  · exact State.close_refusesFrom hs hsrc (Station.applyDropPage_error (st := s.station.heard src none) hsrc
      (Scene.checkPage_busy hp hu))
  · exact State.close_refusesFrom hs hsrc (Station.applyDropPage_error (st := s.station.heard src none) hsrc
      (Scene.checkPage_beyond hp))
  · exact State.close_ignoredRunning hs (Station.applyDropPage_ignored ho p)

/-- Settles O47: Define Button and Define Picture by the check that each fails, else the record at its place. -/
theorem defineButtonAndPicture : Obligations.DefineButtonAndPicture := by
  refine ⟨fun s src b d inUse hs hsrc huse => ⟨fun hp => ?_, fun hp hu => ?_, fun hp => ?_, fun hp hu => ?_,
    fun other ho => ⟨?_, ?_⟩⟩, fun s src b inRange hs hsrc hp hu hin => ⟨fun pg o hpg hlt hok ho => ?_, fun hno => ?_⟩,
    fun s src b hs hsrc hp hu => ⟨fun pg hpg hlt ha hx hy => ?_, fun hno => ?_⟩⟩
  · exact State.close_refusesFrom hs hsrc (Station.applyDefineButton_error (st := s.station.heard src none) hsrc
      ((Scene.define_error (Scene.checkPage_beyond hp)).2.1 b rfl))
  · exact State.close_refusesFrom hs hsrc (Station.applyDefineButton_error (st := s.station.heard src none) hsrc
      ((Scene.define_error (Scene.checkPage_busy hp ((Scene.inUse_iff _ _).mpr ((huse _).mp hu)))).2.1 b rfl))
  · exact State.close_refusesFrom hs hsrc (Station.applyDefinePicture_error (st := s.station.heard src none) hsrc
      ((Scene.define_error (Scene.checkPage_beyond hp)).2.2 d rfl))
  · exact State.close_refusesFrom hs hsrc (Station.applyDefinePicture_error (st := s.station.heard src none) hsrc
      ((Scene.define_error (Scene.checkPage_busy hp ((Scene.inUse_iff _ _).mpr ((huse _).mp hu)))).2.2 d rfl))
  · exact State.close_ignoredRunning hs (Station.applyDefineButton_ignored ho b)
  · exact State.close_ignoredRunning hs (Station.applyDefinePicture_ignored ho d)
  · obtain rfl : o = (buttonMeant b) := ho
    have hdef : (s.station.heard src none).scene.defineButton b
        = .ok ({ pg with buttons := putButton (buttonMeant b) pg.buttons }, (buttonMeant b)) := by
      rw [Scene.defineButton_free (sc := (s.station.heard src none).scene) hp hu, show (s.station.heard src none).scene.body b.page = some pg from hpg]
      dsimp only
      rw [if_neg (Nat.not_le.mpr hlt), readButton_of_inRange ((hin _).mp hok)]
    obtain ⟨t, ht, hb⟩ := State.close_whenRunning_becomes hs (by omega) (Station.applyDefineButton_ok hsrc hdef)
    refine ⟨t, ht, ?_⟩
    change s.Becomes _ _ { s.station.closed src none with
      store := s.station.blocks.store.replacePlacements (fun m => decide (m = .button b.page b.button))
        (buttonPlacements b.page (buttonMeant b)) } t at hb
    rw [Store.replacePlacements_eq (P := fun m => m = .button b.page b.button) (fun _ => rfl)] at hb
    exact hb
  · refine State.close_refusesFrom hs hsrc (Station.applyDefineButton_error (st := s.station.heard src none) hsrc ?_)
    rw [Scene.defineButton_free (sc := (s.station.heard src none).scene) hp hu]
    rcases hno with hnone | ⟨pg, hpg, hno⟩
    · rw [show (s.station.heard src none).scene.body b.page = none from hnone]
    · rw [show (s.station.heard src none).scene.body b.page = some pg from hpg]
      dsimp only
      rcases hno with hle | hno
      · exact if_pos hle
      · rw [readButton_of_not fun h => hno ((hin _).mpr h)]
        exact ite_self _
  · have hdef : (s.station.heard src none).scene.definePicture b
        = .ok ({ pg with pictures := putPicture { id := b.picture, asset := b.asset, x := b.x, y := b.y } pg.pictures },
          { id := b.picture, asset := b.asset, x := b.x, y := b.y }) := by
      rw [Scene.definePicture_free (sc := (s.station.heard src none).scene) hp hu, show (s.station.heard src none).scene.body b.page = some pg from hpg]
      dsimp only
      rw [if_neg (Nat.not_le.mpr hlt), readPicture_of_inRange ha hx hy]
    obtain ⟨t, ht, hb⟩ := State.close_whenRunning_becomes hs (by omega) (Station.applyDefinePicture_ok hsrc hdef)
    refine ⟨t, _, rfl, ht, ?_⟩
    change s.Becomes _ _ { s.station.closed src none with
      store := s.station.blocks.store.replacePlacements (fun m => decide (m = .picture b.page b.picture))
        [{ asset := b.asset, x := b.x, y := b.y, clip := none, maker := .picture b.page b.picture }] } t at hb
    rw [Store.replacePlacements_eq (P := fun m => m = .picture b.page b.picture) (fun _ => rfl)] at hb
    exact hb
  · refine State.close_refusesFrom hs hsrc (Station.applyDefinePicture_error (st := s.station.heard src none) hsrc ?_)
    rw [Scene.definePicture_free (sc := (s.station.heard src none).scene) hp hu]
    rcases hno with hnone | ⟨pg, hpg, hle⟩ | hbad
    · rw [show (s.station.heard src none).scene.body b.page = none from hnone]
    · rw [show (s.station.heard src none).scene.body b.page = some pg from hpg]
      exact if_pos hle
    · rw [readPicture_of_not hbad]
      cases (s.station.heard src none).scene.body b.page with
      | none => rfl
      | some pg => exact ite_self _

end Sys2Proof.Machine

/-! SUPPORT. The Frame Strobe by its parts: what the Band Compositor's steps leave (R141, R143, R152, R153), and the timers and
messages of the Speaker Timers' pulse (R38, R57, R64, R89, R91, R94, R99). -/

namespace Sys2Proof.Machine

/-! ### Several messages handed to the Link Interface -/

/-- Messages placed one after another at the tail, as far as the queue takes them. -/
def Link.enqueueAll (ms : List Message) (l : Link) : Link := ms.foldl (fun l m => l.enqueue m) l

theorem Link.enqueueAll_append (ms ns : List Message) (l : Link) :
    l.enqueueAll (ms ++ ns) = (l.enqueueAll ms).enqueueAll ns := List.foldl_append

/-- A message is taken at the tail or not at all; the overflow flag is never cleared. -/
theorem Link.enqueue_frame (m : Message) (l : Link) :
    l.enqueue m = { l with queue := (l.enqueue m).queue, overflow := (l.enqueue m).overflow }
      ∧ ((l.enqueue m).queue = l.queue ∨ (l.enqueue m).queue = l.queue ++ [m])
      ∧ (l.overflow = true → (l.enqueue m).overflow = true) := by
  unfold Link.enqueue
  split
  · exact ⟨rfl, .inl rfl, id⟩
  · split
    · exact ⟨rfl, .inl rfl, fun _ => rfl⟩
    · exact ⟨rfl, .inr rfl, id⟩

/-- The messages taken are some of those handed over, in their order. -/
theorem Link.enqueueAll_frame (ms : List Message) (l : Link) :
    l.enqueueAll ms = { l with queue := (l.enqueueAll ms).queue, overflow := (l.enqueueAll ms).overflow }
      ∧ (∃ added, (l.enqueueAll ms).queue = l.queue ++ added ∧ added.Sublist ms)
      ∧ (l.overflow = true → (l.enqueueAll ms).overflow = true) := by
  induction ms generalizing l with
  | nil => exact ⟨rfl, ⟨[], (List.append_nil _).symm, .slnil⟩, id⟩
  | cons m ms ih =>
    obtain ⟨hone, hqueue, hover⟩ := l.enqueue_frame m
    obtain ⟨hall, ⟨added, hadded, hsub⟩, hover'⟩ := ih (l.enqueue m)
    refine ⟨?_, ?_, fun h => hover' (hover h)⟩
    · have hframe : ∀ q o, ({ l.enqueue m with queue := q, overflow := o } : Link) = { l with queue := q, overflow := o } :=
        fun _ _ => by rw [hone]
      exact hall.trans (hframe _ _)
    · rcases hqueue with h | h
      · exact ⟨added, by rw [← h]; exact hadded, hsub.cons m⟩
      · exact ⟨m :: added, by rw [List.append_cons, ← h]; exact hadded, hsub.cons_cons m⟩

theorem Link.enqueueAll_room {ms : List Message} {l : Link} (hs : l.silent = false) (hq : l.queue.length + ms.length ≤ 8) :
    l.enqueueAll ms = { l with queue := l.queue ++ ms } := by
  induction ms generalizing l with
  | nil => rw [List.append_nil]; rfl
  | cons m ms ih =>
    rw [List.length_cons] at hq
    show (l.enqueue m).enqueueAll ms = _
    have hlength : (l.queue ++ [m]).length + ms.length ≤ 8 := by
      rw [List.length_append]
      exact (Nat.add_assoc _ _ _).trans_le (by rw [List.length_singleton]; omega)
    rw [Link.enqueue_room hs (by omega), ih (l := { l with queue := l.queue ++ [m] }) hs hlength, List.append_assoc]
    rfl

theorem Link.mem_queue_enqueueAll {ms : List Message} {x : Message} {l : Link} (h : x ∉ ms) :
    x ∈ (l.enqueueAll ms).queue ↔ x ∈ l.queue := by
  obtain ⟨-, ⟨added, hadded, hsub⟩, -⟩ := l.enqueueAll_frame ms
  rw [hadded, List.mem_append, or_iff_left fun hx => h (hsub.subset hx)]

theorem Station.enqueueAll_link (ms : List Message) (st : Station) :
    st.enqueueAll ms = { st with blocks := { st.blocks with link := st.blocks.link.enqueueAll ms } } := by
  induction ms generalizing st with
  | nil => rfl
  | cons m ms ih => exact ih (st.enqueue m)

/-! ### The timers at a pulse -/

/-- The station with these timers and with these messages handed over. -/
def Station.pulsed (ti : Timers) (ms : List Message) (st : Station) : Station :=
  { st with timers := ti, blocks := { st.blocks with link := st.blocks.link.enqueueAll ms } }

theorem Station.enqueueAll_pulsed (ti : Timers) (ms ns : List Message) (st : Station) :
    (st.pulsed ti ms).enqueueAll ns = st.pulsed ti (ms ++ ns) := by
  rw [Station.enqueueAll_link]
  unfold Station.pulsed
  rw [Link.enqueueAll_append]

/-- The Expire of a timer that the pulse brings to its end (R38, R89). -/
def expireDue (kind : Nat) (t : Option Timer) : List Message :=
  match t with
  | none => []
  | some u => if u.remaining ≤ 1 then [.expire { timer := kind, tag := u.tag }] else []

theorem Station.queueExpire_eq (kind : Nat) (t : Option Timer) (st : Station) :
    st.queueExpire kind t = st.enqueueAll (expireDue kind t) := by
  cases t with
  | none => rfl
  | some u =>
    unfold Station.queueExpire expireDue
    dsimp only
    split <;> rfl

/-- A partial Switch of the pending page change and its Fault, when the pulse ends the prepare limit (R57). -/
def Station.pageOverdue (st : Station) : List Message :=
  match st.scene.pendingPage with
  | none => []
  | some p =>
    if timerDue st.timers.pagePrepare && !st.timers.pageMark then
      [.switch (st.pageSwitchBody true p),
        .fault (overdueFault .page st.scene.pageChange (st.scene.missing st.scene.pageReady))]
    else []

/-- The same of the pending slide change (R94). -/
def Station.slideOverdue (st : Station) : List Message :=
  match st.scene.pendingIndex with
  | none => []
  | some i =>
    if timerDue st.timers.slidePrepare && !st.timers.slideMark then
      [.switch (st.slideSwitchBody true i),
        .fault (overdueFault .slide st.scene.slideChange (st.scene.missing st.scene.slideReady))]
    else []

/-- The Cue Hits of the Forced cues that the elapsed count reaches (R99). -/
def Station.forcedHits (st : Station) : List Message :=
  if st.counts then
    (reached (st.timers.elapsed + 1) 0 st.scene.cues).map
      (fun i => .cueHit (st.scene.forcedHit (st.timers.elapsed + 1) i))
  else []

/-- The Claim of an absence counter that reaches its threshold with no Claim in the queue (R63, R64). -/
def Station.claimDue (st : Station) : List Message :=
  if st.absenceDue && !st.blocks.link.queue.contains .claim then [.claim] else []

/-- The messages of the pulse, in the order of log 7. -/
def Station.pulseMessages (st : Station) : List Message :=
  expireDue 0 st.timers.pageTimeout ++ expireDue 1 st.timers.hold ++ expireDue 2 st.timers.slideDuration
    ++ st.pageOverdue ++ st.slideOverdue ++ st.forcedHits ++ st.claimDue

/-- The timers after the pulse. -/
def Station.pulseTimers (st : Station) : Timers where
  pageTimeout := timerTick st.timers.pageTimeout
  hold := timerTick st.timers.hold
  slideDuration := timerTick st.timers.slideDuration
  pagePrepare := timerTick st.timers.pagePrepare
  slidePrepare := timerTick st.timers.slidePrepare
  pageMark := st.timers.pageMark || st.prepareDue .page
  slideMark := st.timers.slideMark || st.prepareDue .slide
  elapsed := if st.counts then st.timers.elapsed + 1 else st.timers.elapsed
  remaining := st.timers.remaining
  absence := st.timers.absence.map (· + 1)

theorem timerTick_of_due {t : Option Timer} (h : timerDue t = true) : timerTick t = none := by
  cases t with
  | none => rfl
  | some u => exact if_pos (of_decide_eq_true h)

section Tick

variable {ti : Timers} {ms : List Message} {st : Station}

theorem Station.tickPageTimeout_pulsed :
    (st.pulsed ti ms).tickPageTimeout
      = st.pulsed { ti with pageTimeout := timerTick ti.pageTimeout } (ms ++ expireDue 0 ti.pageTimeout) := by
  unfold Station.tickPageTimeout
  rw [Station.queueExpire_eq]
  exact Station.enqueueAll_pulsed { ti with pageTimeout := timerTick ti.pageTimeout } ms (expireDue 0 ti.pageTimeout) st

theorem Station.tickHold_pulsed :
    (st.pulsed ti ms).tickHold = st.pulsed { ti with hold := timerTick ti.hold } (ms ++ expireDue 1 ti.hold) := by
  unfold Station.tickHold
  rw [Station.queueExpire_eq]
  exact Station.enqueueAll_pulsed { ti with hold := timerTick ti.hold } ms (expireDue 1 ti.hold) st

theorem Station.tickDuration_pulsed :
    (st.pulsed ti ms).tickDuration
      = st.pulsed { ti with slideDuration := timerTick ti.slideDuration } (ms ++ expireDue 2 ti.slideDuration) := by
  unfold Station.tickDuration
  rw [Station.queueExpire_eq]
  exact Station.enqueueAll_pulsed { ti with slideDuration := timerTick ti.slideDuration } ms (expireDue 2 ti.slideDuration) st

/-- The prepare limit of the page stream: it reads its own timer, its mark and the pending change. -/
theorem Station.tickPagePrepare_pulsed (hp : ti.pagePrepare = st.timers.pagePrepare) (hm : ti.pageMark = st.timers.pageMark) :
    (st.pulsed ti ms).tickPagePrepare
      = st.pulsed { ti with
          pagePrepare := timerTick st.timers.pagePrepare
          pageMark := st.timers.pageMark || st.prepareDue .page } (ms ++ st.pageOverdue) := by
  obtain ⟨pt, ho, sd, pp, sp, pm, sm, el, re, ab⟩ := ti
  obtain rfl : pp = st.timers.pagePrepare := hp
  obtain rfl : pm = st.timers.pageMark := hm
  unfold Station.tickPagePrepare Station.pageOverdue Station.prepareDue
  dsimp only [Station.pulsed]
  cases hpend : st.scene.pendingPage with
  | none => simp [Station.withTimers]
  | some p =>
    dsimp only
    by_cases hdue : (timerDue st.timers.pagePrepare && !st.timers.pageMark) = true
    · refine (if_pos hdue).trans ?_
      rw [if_pos hdue]
      have hmark : (st.timers.pageMark || (timerDue st.timers.pagePrepare && !st.timers.pageMark && (some p).isSome)) = true := by
        simp [hdue]
      rw [Station.queuePageSwitch_partial, Link.enqueueAll_append, hmark, timerTick_of_due (Bool.and_elim_left hdue)]
      rfl
    · rw [Bool.not_eq_true] at hdue
      simp [hdue, Station.withTimers]

/-- The prepare limit of the slide stream. -/
theorem Station.tickSlidePrepare_pulsed (hp : ti.slidePrepare = st.timers.slidePrepare)
    (hm : ti.slideMark = st.timers.slideMark) :
    (st.pulsed ti ms).tickSlidePrepare
      = st.pulsed { ti with
          slidePrepare := timerTick st.timers.slidePrepare
          slideMark := st.timers.slideMark || st.prepareDue .slide } (ms ++ st.slideOverdue) := by
  obtain ⟨pt, ho, sd, pp, sp, pm, sm, el, re, ab⟩ := ti
  obtain rfl : sp = st.timers.slidePrepare := hp
  obtain rfl : sm = st.timers.slideMark := hm
  unfold Station.tickSlidePrepare Station.slideOverdue Station.prepareDue
  dsimp only [Station.pulsed]
  cases hpend : st.scene.pendingIndex with
  | none => simp [Station.withTimers]
  | some p =>
    dsimp only
    by_cases hdue : (timerDue st.timers.slidePrepare && !st.timers.slideMark) = true
    · refine (if_pos hdue).trans ?_
      rw [if_pos hdue]
      have hmark : (st.timers.slideMark || (timerDue st.timers.slidePrepare && !st.timers.slideMark && (some p).isSome)) = true := by
        simp [hdue]
      rw [Station.queueSlideSwitch_partial, Link.enqueueAll_append, hmark, timerTick_of_due (Bool.and_elim_left hdue)]
      rfl
    · rw [Bool.not_eq_true] at hdue
      simp [hdue, Station.withTimers]

theorem Station.tickElapsed_pulsed (he : ti.elapsed = st.timers.elapsed) :
    (st.pulsed ti ms).tickElapsed
      = st.pulsed { ti with elapsed := if st.counts then st.timers.elapsed + 1 else st.timers.elapsed }
          (ms ++ st.forcedHits) := by
  have hcounts : (st.pulsed ti ms).counts = st.counts := by
    unfold Station.counts
    show (st.isSpeaker && _ && decide (ti.elapsed < _)) = _
    rw [he]
    rfl
  unfold Station.tickElapsed Station.forcedHits
  rw [hcounts]
  split
  · rw [← he]
    exact Station.enqueueAll_pulsed { ti with elapsed := ti.elapsed + 1 } ms _ st
  · rw [← he, List.append_nil]

theorem Station.tickAbsence_pulsed (ha : ti.absence = st.timers.absence) (hms : Message.claim ∉ ms) :
    (st.pulsed ti ms).tickAbsence
      = st.pulsed { ti with absence := st.timers.absence.map (· + 1) } (ms ++ st.claimDue) := by
  have hcontains : (st.blocks.link.enqueueAll ms).queue.contains .claim = st.blocks.link.queue.contains .claim :=
    Bool.eq_iff_iff.mpr (by simp only [List.contains_iff_mem, Link.mem_queue_enqueueAll hms])
  unfold Station.tickAbsence Station.claimDue Station.absenceDue
  rw [show (st.pulsed ti ms).timers.absence = st.timers.absence from ha]
  cases h : st.timers.absence with
  | none =>
    obtain ⟨pt, ho, sd, pp, sp, pm, sm, el, re, ab⟩ := ti
    obtain rfl : ab = none := ha.trans h
    exact congrArg (fun l => st.pulsed _ l) (List.append_nil ms).symm
  | some n =>
    dsimp only
    rw [show (st.pulsed ti ms).blocks.link.queue.contains .claim = _ from hcontains,
      show (st.pulsed ti ms).absenceLimit = st.absenceLimit from rfl]
    by_cases hdue : n + 1 = st.absenceLimit ∧ ¬ st.blocks.link.queue.contains .claim
    · rw [if_pos hdue, if_pos (by rw [Bool.eq_false_iff.mpr hdue.2]; simp [hdue.1])]
      exact Station.enqueueAll_pulsed { ti with absence := some (n + 1) } ms [.claim] st
    · rw [if_neg hdue, if_neg (by simpa using hdue), List.append_nil]
      rfl

end Tick

/-! ### No Claim among the other messages -/

theorem claim_notMem_expireDue (kind : Nat) (t : Option Timer) : Message.claim ∉ expireDue kind t := by
  unfold expireDue
  split
  · exact List.not_mem_nil
  · split <;> simp

theorem Station.claim_notMem_pageOverdue (st : Station) : Message.claim ∉ st.pageOverdue := by
  unfold Station.pageOverdue
  split
  · exact List.not_mem_nil
  · split <;> simp

theorem Station.claim_notMem_slideOverdue (st : Station) : Message.claim ∉ st.slideOverdue := by
  unfold Station.slideOverdue
  split
  · exact List.not_mem_nil
  · split <;> simp

theorem Station.claim_notMem_forcedHits (st : Station) : Message.claim ∉ st.forcedHits := by
  unfold Station.forcedHits
  split <;> simp

/-- The Speaker Timers at a pulse: every timer and every message of the pulse is read from the station as the pulse finds it. -/
theorem Station.tick_eq (st : Station) : st.tick = st.pulsed st.pulseTimers st.pulseMessages := by
  have h0 : st = st.pulsed st.timers [] := rfl
  unfold Station.tick
  conv_lhs => rw [h0]
  rw [Station.tickPageTimeout_pulsed, Station.tickHold_pulsed, Station.tickDuration_pulsed,
    Station.tickPagePrepare_pulsed, Station.tickSlidePrepare_pulsed, Station.tickElapsed_pulsed,
    Station.tickAbsence_pulsed]
  case hms =>
    simp [claim_notMem_expireDue, Station.claim_notMem_pageOverdue, Station.claim_notMem_slideOverdue,
      Station.claim_notMem_forcedHits]
  all_goals rfl

end Sys2Proof.Machine

/-! SUPPORT. The Band Compositor's steps of a strobe, one register at a time: the overrun test (R155), the page switch step
(R143), the slide step (R152, R153), and the output with the snapshot (R145, R146). -/

namespace Sys2Proof.Machine

/-! ### The overrun test -/

section Overrun

variable (b : Blocks)

theorem Blocks.noteOverrun_store : b.noteOverrun.store = b.store := by
  unfold Blocks.noteOverrun
  split
  · rfl
  · dsimp only
    split <;> rfl

theorem Blocks.noteOverrun_decode : b.noteOverrun.decode = b.decode := by
  unfold Blocks.noteOverrun
  split
  · rfl
  · dsimp only
    split <;> rfl

theorem Blocks.noteOverrun_link :
    b.noteOverrun.link
      = if b.bc.composing.isSome && !b.bc.overrunReported then
          b.link.enqueue (.fault (overrunFault b.bc.displayPage b.bc.frame))
        else b.link := by
  unfold Blocks.noteOverrun
  cases h : b.bc.composing with
  | none => rfl
  | some snap => cases hr : b.bc.overrunReported <;> rfl

theorem Blocks.noteOverrun_bc :
    b.noteOverrun.bc
      = { b.bc with
          composing := none
          overrun := b.bc.overrun || b.bc.composing.isSome
          overrunReported := b.bc.overrunReported || b.bc.composing.isSome } := by
  obtain ⟨link, store, decode, bc⟩ := b
  obtain ⟨fr, dp, hb, ps, lo, f, k, tr, ss, co, li, ov, re, lc, po⟩ := bc
  cases co with
  | none => simp [Blocks.noteOverrun]
  | some snap => cases re <;> simp [Blocks.noteOverrun, Blocks.withBc, Blocks.enqueue, Blocks.withLink]

end Overrun

/-! ### The slide step -/

/-- The surfaces after the step of a running transition (R153). -/
def Compositor.transitioned (c : Compositor) : Compositor :=
  match c.transition with
  | none => c
  | some t =>
    if t.length ≤ t.step + 1 then { c.exchange with transition := none }
    else { c with transition := some { t with step := t.step + 1 } }

/-- The surfaces after a slide switch has taken effect (R152). -/
def Compositor.madeVisible (w : SlideSwitch) (c : Compositor) : Compositor :=
  if w.kind = .cut ∨ c.layerOn = false then { c.exchange with layerOn := true, slideSwitch := none }
  else { c with
    slideSwitch := none
    transition := some { wipe := decide (w.kind = .wipeDown), length := w.length, step := 1 } }

/-- The held slide switch becomes visible at the strobe that brings the count to `frame`, when `c` is the block after the
step of a running transition (R152). -/
def Compositor.visible (frame : Long) (c : Compositor) : Bool :=
  match c.slideSwitch with
  | none => false
  | some w => c.shows (w.reach frame)

/-- The surfaces after the slide step of the strobe that brings the count to `frame` (R152, R153). -/
def Compositor.slid (frame : Long) (c : Compositor) : Compositor :=
  match c.transitioned.slideSwitch with
  | none => c.transitioned
  | some w =>
    if c.transitioned.shows (w.reach frame) then c.transitioned.madeVisible (w.reach frame)
    else { c.transitioned with slideSwitch := some (w.reach frame) }

/-- The slide switch that becomes visible exchanges the surfaces (R152). -/
def Compositor.cuts (frame : Long) (c : Compositor) : Bool :=
  match c.slideSwitch with
  | none => false
  | some w => c.shows (w.reach frame) && (decide (w.kind = .cut) || !c.layerOn)

theorem Compositor.cuts_of_none {frame : Long} {c : Compositor} (h : c.slideSwitch = none) : c.cuts frame = false := by
  unfold Compositor.cuts
  rw [h]

theorem Compositor.cuts_of_some {frame : Long} {w : SlideSwitch} {c : Compositor} (h : c.slideSwitch = some w) :
    c.cuts frame = (c.shows (w.reach frame) && (decide (w.kind = .cut) || !c.layerOn)) := by
  unfold Compositor.cuts
  rw [h]

/-- The slide step empties the fading role (R152, R153). -/
def Compositor.emptiesFading (frame : Long) (c : Compositor) : Bool := c.transitionEnds || c.transitioned.cuts frame

theorem SlideSwitch.reach_kind (frame : Long) (w : SlideSwitch) : (w.reach frame).kind = w.kind := by
  unfold SlideSwitch.reach
  split <;> rfl

theorem SlideSwitch.reach_content (frame : Long) (w : SlideSwitch) : (w.reach frame).content = w.content := by
  unfold SlideSwitch.reach
  split <;> rfl

theorem SlideSwitch.reach_length (frame : Long) (w : SlideSwitch) : (w.reach frame).length = w.length := by
  unfold SlideSwitch.reach
  split <;> rfl

theorem SlideSwitch.reach_awaiting (frame : Long) (w : SlideSwitch) :
    (w.reach frame).awaitingContent = true ↔ w.awaitingContent = true ∨ w.late = true ∨ w.target = frame := by
  unfold SlideSwitch.reach
  split
  · next h => exact ⟨fun _ => .inr h, fun _ => rfl⟩
  · next h => exact ⟨.inl, fun k => k.resolve_right h⟩

theorem Compositor.shows_iff (w : SlideSwitch) (c : Compositor) :
    c.shows w = true ↔ w.awaitingContent = true ∧ c.transition = none ∧ c.back.content = some w.content ∧ c.back.whole = true := by
  simp [Compositor.shows, and_assoc]

theorem Blocks.transitionStep_eq (b : Blocks) :
    b.transitionStep
      = { b with
          bc := b.bc.transitioned
          store := if b.bc.transitionEnds then b.store.emptyFading else b.store } := by
  unfold Blocks.transitionStep Compositor.transitioned Compositor.transitionEnds
  cases h : b.bc.transition with
  | none => rfl
  | some t =>
    dsimp only
    by_cases hend : t.length ≤ t.step + 1
    · rw [if_pos hend, if_pos hend, if_pos (decide_eq_true hend)]
      rfl
    · rw [if_neg hend, if_neg hend, if_neg (by simpa using hend)]
      rfl

theorem Blocks.makeVisible_eq (w : SlideSwitch) (b : Blocks) :
    b.makeVisible w
      = { b with
          bc := b.bc.madeVisible w
          store := if decide (w.kind = .cut) || !b.bc.layerOn then b.store.emptyFading else b.store } := by
  unfold Blocks.makeVisible Compositor.madeVisible
  by_cases h : w.kind = .cut ∨ b.bc.layerOn = false
  · rw [if_pos h, if_pos h, if_pos (by simpa using h)]
    rfl
  · rw [if_neg h, if_neg h, if_neg (by simpa using h)]
    rfl

theorem Blocks.switchStep_eq (b : Blocks) :
    b.switchStep
      = { b with
          bc := match b.bc.slideSwitch with
            | none => b.bc
            | some w =>
              if b.bc.shows (w.reach b.bc.frame) then b.bc.madeVisible (w.reach b.bc.frame)
              else { b.bc with slideSwitch := some (w.reach b.bc.frame) }
          store := if b.bc.cuts b.bc.frame then b.store.emptyFading else b.store } := by
  unfold Blocks.switchStep
  cases h : b.bc.slideSwitch with
  | none =>
    rw [Compositor.cuts_of_none h]
    rfl
  | some w =>
    rw [Compositor.cuts_of_some h]
    dsimp only
    by_cases hshows : b.bc.shows (w.reach b.bc.frame) = true
    · rw [if_pos hshows, if_pos hshows, Blocks.makeVisible_eq, SlideSwitch.reach_kind, hshows, Bool.true_and]
    · rw [if_neg hshows, if_neg hshows, Bool.eq_false_iff.mpr hshows]
      rfl

theorem Compositor.transitioned_frame (c : Compositor) :
    c.transitioned = { c with
      front := c.transitioned.front, back := c.transitioned.back, transition := c.transitioned.transition } := by
  unfold Compositor.transitioned
  split
  · rfl
  · split <;> rfl

/-- The fading role emptied where the slide step does so. -/
def Store.emptyFadingIf (ends : Bool) (s : Store) : Store := if ends then s.emptyFading else s

theorem Store.emptyFadingIf_roles (ends : Bool) (s : Store) :
    (s.emptyFadingIf ends).roles = { s.roles with fading := if ends then RoleSet.empty else s.roles.fading } := by
  cases ends <;> rfl

theorem Blocks.slideStep_eq (b : Blocks) :
    b.slideStep.link = b.link ∧ b.slideStep.decode = b.decode ∧ b.slideStep.bc = b.bc.slid b.bc.frame
      ∧ b.slideStep.store
          = (b.store.emptyFadingIf b.bc.transitionEnds).emptyFadingIf (b.bc.transitioned.cuts b.bc.frame) := by
  have hframe : b.bc.transitioned.frame = b.bc.frame := by rw [Compositor.transitioned_frame]
  unfold Blocks.slideStep Compositor.slid
  rw [Blocks.switchStep_eq, Blocks.transitionStep_eq]
  dsimp only
  rw [hframe]
  exact ⟨rfl, rfl, rfl, rfl⟩

section Other

variable (frame n : Long) (dp : Option Nat) (hb : Option (List Live)) (ps : Option PageSwitch) (x : Option Snapshot)
  (o r : Bool) (c : Compositor)

theorem Compositor.transitioned_congr :
    ({ c with frame := n, displayPage := dp, heldButtons := hb, pageSwitch := ps, composing := x, overrun := o
              overrunReported := r } : Compositor).transitioned
      = { c.transitioned with frame := n, displayPage := dp, heldButtons := hb, pageSwitch := ps, composing := x
                              overrun := o, overrunReported := r } := by
  obtain ⟨fr, d1, d2, d3, lo, f, k, tr, ss, co, li, ov, re, lc, po⟩ := c
  unfold Compositor.transitioned
  cases tr with
  | none => rfl
  | some t =>
    dsimp only
    split <;> rfl

/-- The slide step reads and writes none of the other registers. -/
theorem Compositor.slid_congr :
    ({ c with frame := n, displayPage := dp, heldButtons := hb, pageSwitch := ps, composing := x, overrun := o
              overrunReported := r } : Compositor).slid frame
      = { c.slid frame with frame := n, displayPage := dp, heldButtons := hb, pageSwitch := ps, composing := x
                            overrun := o, overrunReported := r } := by
  unfold Compositor.slid
  rw [Compositor.transitioned_congr]
  cases hw : c.transitioned.slideSwitch with
  | none => rfl
  | some w =>
    dsimp only
    by_cases hshows : c.transitioned.shows (w.reach frame) = true
    · refine (if_pos hshows).trans ?_
      rw [if_pos hshows]
      unfold Compositor.madeVisible
      dsimp only
      split <;> rfl
    · refine (if_neg hshows).trans ?_
      rw [if_neg hshows]

theorem Compositor.cuts_transitioned_congr :
    ({ c with frame := n, displayPage := dp, heldButtons := hb, pageSwitch := ps, composing := x, overrun := o
              overrunReported := r } : Compositor).transitioned.cuts frame = c.transitioned.cuts frame := by
  rw [Compositor.transitioned_congr]
  rfl

theorem Compositor.transitionEnds_congr :
    ({ c with frame := n, displayPage := dp, heldButtons := hb, pageSwitch := ps, composing := x, overrun := o
              overrunReported := r } : Compositor).transitionEnds = c.transitionEnds := rfl

end Other

theorem Compositor.slid_frame (frame : Long) (c : Compositor) :
    c.slid frame = { c with
      front := (c.slid frame).front, back := (c.slid frame).back, transition := (c.slid frame).transition
      slideSwitch := (c.slid frame).slideSwitch, layerOn := (c.slid frame).layerOn } := by
  have h := c.transitioned_frame
  unfold Compositor.slid
  split
  · rw [h]
  · split
    · unfold Compositor.madeVisible
      split <;> rw [h]
      rfl
    · rw [h]

end Sys2Proof.Machine

/-! SUPPORT. The strobe event of a Running station as a whole: the Band Compositor's registers and the store after its steps
(R141), the timers and messages of the pulse, and what the end of the event leaves of them. -/

namespace Sys2Proof.Machine

/-! ### The page switch step -/

/-- The page registers after the page switch step of the strobe that brings the count to `frame` (R143). -/
def Compositor.paged (frame : Long) (c : Compositor) : Compositor :=
  if c.pageDue frame then { c with displayPage := c.caughtUp, heldButtons := none, pageSwitch := none } else c

theorem Compositor.pageDue_of_some {frame : Long} {e : PageSwitch} {c : Compositor} (h : c.pageSwitch = some e) :
    c.pageDue frame = (e.late || decide (e.target = frame)) := by
  unfold Compositor.pageDue
  rw [h]

theorem Compositor.pageDue_of_none {frame : Long} {c : Compositor} (h : c.pageSwitch = none) : c.pageDue frame = false := by
  unfold Compositor.pageDue
  rw [h]

theorem Compositor.paged_of_due {frame : Long} {e : PageSwitch} {c : Compositor} (h : c.pageSwitch = some e)
    (hdue : c.pageDue frame = true) :
    c.paged frame = { c with displayPage := some e.page, heldButtons := none, pageSwitch := none } := by
  unfold Compositor.paged Compositor.caughtUp
  rw [if_pos hdue, h]

theorem Compositor.paged_of_rest {frame : Long} {c : Compositor} (h : c.pageDue frame = false) : c.paged frame = c :=
  if_neg (Bool.eq_false_iff.mp h)

/-- The shown page's set made the display role's where a page switch is made (R115, R143). -/
def Store.showIf (due : Bool) (s : Store) : Store :=
  if due then s.setRoles (fun r => { r with display := r.shown }) else s

theorem Store.showIf_roles (due : Bool) (s : Store) :
    (s.showIf due).roles = { s.roles with display := if due then s.roles.shown else s.roles.display } := by
  cases due <;> rfl

theorem Blocks.pageStep_eq (b : Blocks) :
    b.pageStep
      = { b with
          bc := b.bc.paged b.bc.frame
          store := b.store.showIf (b.bc.pageDue b.bc.frame) } := by
  unfold Blocks.pageStep Compositor.paged Compositor.caughtUp Blocks.catchUp
  cases h : b.bc.pageSwitch with
  | none =>
    rw [Compositor.pageDue_of_none h]
    rfl
  | some e =>
    cases b.bc.pageDue b.bc.frame
    · rfl
    · rfl

/-! ### The store under the strobe's steps -/

/-- The roles and the pins that follow from them have changed; nothing else of any entry. -/
def Store.Repins (s t : Store) : Prop :=
  t = { s with roles := t.roles, packed := t.packed, opened := t.opened }
    ∧ (∃ p : Packed → Nat, t.packed = s.packed.map (fun e => { e with pins := p e }))
    ∧ ∃ p : Opened → Nat, t.opened = s.opened.map (fun e => { e with pins := p e })

theorem Store.repins_refl (s : Store) : s.Repins s :=
  ⟨rfl, ⟨Packed.pins, (List.map_id' _).symm⟩, ⟨Opened.pins, (List.map_id' _).symm⟩⟩

theorem Store.Repins.trans {s t u : Store} (h : s.Repins t) (k : t.Repins u) : s.Repins u := by
  obtain ⟨hs, ⟨p, hp⟩, ⟨q, hq⟩⟩ := h
  obtain ⟨ks, ⟨p', hp'⟩, ⟨q', hq'⟩⟩ := k
  refine ⟨?_, ⟨fun e => p' { e with pins := p e }, ?_⟩, ⟨fun e => q' { e with pins := q e }, ?_⟩⟩
  · have hframe : ∀ r l m, ({ t with roles := r, packed := l, opened := m } : Store)
        = { s with roles := r, packed := l, opened := m } := fun _ _ _ => by rw [hs]
    exact ks.trans (hframe _ _ _)
  · rw [hp', hp, List.map_map]
    rfl
  · rw [hq', hq, List.map_map]
    rfl

theorem Store.repins_setRoles (f : Roles → Roles) (s : Store) : s.Repins (s.setRoles f) :=
  ⟨rfl, ⟨fun e => (f s.roles).pins e.id, rfl⟩, ⟨fun e => (f s.roles).pins e.id, rfl⟩⟩

theorem Store.repins_showIf (due : Bool) (s : Store) : s.Repins (s.showIf due) := by
  cases due
  · exact s.repins_refl
  · exact Store.repins_setRoles (fun r => { r with display := r.shown }) s

theorem Store.repins_emptyFadingIf (ends : Bool) (s : Store) : s.Repins (s.emptyFadingIf ends) := by
  cases ends
  · exact s.repins_refl
  · exact Store.repins_setRoles (fun r => { r with fading := RoleSet.empty }) s

section Repins

variable {s t : Store} (h : s.Repins t) (k : Strip)
include h

theorem Store.Repins.findPacked : ∃ p : Packed → Nat, t.findPacked k = (s.findPacked k).map (fun e => { e with pins := p e }) := by
  obtain ⟨-, ⟨p, hp⟩, -⟩ := h
  unfold Store.findPacked
  rw [hp]
  exact ⟨p, Table.find_map (f := fun e : Packed => { e with pins := p e }) (fun _ => rfl) k s.packed⟩

theorem Store.Repins.findOpened : ∃ p : Opened → Nat, t.findOpened k = (s.findOpened k).map (fun e => { e with pins := p e }) := by
  obtain ⟨-, -, ⟨p, hp⟩⟩ := h
  unfold Store.findOpened
  rw [hp]
  exact ⟨p, Table.find_map (f := fun e : Opened => { e with pins := p e }) (fun _ => rfl) k s.opened⟩

theorem Store.Repins.isSpoiled : t.isSpoiled k = s.isSpoiled k := by
  obtain ⟨p, hp⟩ := h.findPacked k
  unfold Store.isSpoiled
  rw [hp]
  cases s.findPacked k <;> rfl

end Repins

/-! ### The steps up to the output -/

/-- The blocks after the overrun test, the count, the page switch step and the slide step (R141). -/
def Blocks.moved (b : Blocks) : Blocks :=
  ((b.noteOverrun.withBc (fun c => { c with frame := c.frame + 1 })).pageStep).slideStep

section Moved

variable (b : Blocks)

/-- The registers that the overrun test and the count leave for the page switch step. -/
def Compositor.counted (c : Compositor) : Compositor :=
  { c with
    frame := c.frame + 1, composing := none, overrun := c.overrun || c.composing.isSome
    overrunReported := c.overrunReported || c.composing.isSome }

theorem Blocks.counted_eq :
    b.noteOverrun.withBc (fun c => { c with frame := c.frame + 1 })
      = { b with link := b.noteOverrun.link, bc := b.bc.counted } := by
  show ({ link := b.noteOverrun.link, store := b.noteOverrun.store, decode := b.noteOverrun.decode
          bc := { b.noteOverrun.bc with frame := b.noteOverrun.bc.frame + 1 } } : Blocks) = _
  rw [Blocks.noteOverrun_store, Blocks.noteOverrun_decode, Blocks.noteOverrun_bc]
  rfl

theorem Compositor.counted_pageDue (frame : Long) (c : Compositor) : c.counted.pageDue frame = c.pageDue frame := rfl

theorem Blocks.moved_eq :
    b.moved.link = b.noteOverrun.link ∧ b.moved.decode = b.decode
      ∧ b.moved.bc = { b.bc.slid (b.bc.frame + 1) with
          frame := b.bc.frame + 1
          displayPage := (b.bc.paged (b.bc.frame + 1)).displayPage
          heldButtons := (b.bc.paged (b.bc.frame + 1)).heldButtons
          pageSwitch := (b.bc.paged (b.bc.frame + 1)).pageSwitch
          composing := none
          overrun := b.bc.overrun || b.bc.composing.isSome
          overrunReported := b.bc.overrunReported || b.bc.composing.isSome }
      ∧ b.store.Repins b.moved.store
      ∧ b.moved.store.roles = { b.store.roles with
          display := if b.bc.pageDue (b.bc.frame + 1) then b.store.roles.shown else b.store.roles.display
          fading := if b.bc.emptiesFading (b.bc.frame + 1) then RoleSet.empty else b.store.roles.fading } := by
  have hpage : (b.noteOverrun.withBc (fun c => { c with frame := c.frame + 1 })).pageStep = { b with
      link := b.noteOverrun.link
      bc := { b.bc with
        frame := b.bc.frame + 1
        displayPage := (b.bc.paged (b.bc.frame + 1)).displayPage
        heldButtons := (b.bc.paged (b.bc.frame + 1)).heldButtons
        pageSwitch := (b.bc.paged (b.bc.frame + 1)).pageSwitch
        composing := none
        overrun := b.bc.overrun || b.bc.composing.isSome
        overrunReported := b.bc.overrunReported || b.bc.composing.isSome }
      store := b.store.showIf (b.bc.pageDue (b.bc.frame + 1)) } := by
    rw [Blocks.counted_eq, Blocks.pageStep_eq]
    unfold Compositor.paged
    cases hdue : b.bc.pageDue (b.bc.frame + 1)
    · rw [show b.bc.counted.pageDue b.bc.counted.frame = false from hdue]
      rfl
    · rw [show b.bc.counted.pageDue b.bc.counted.frame = true from hdue]
      rfl
  obtain ⟨hlink, hdecode, hbc, hstore⟩ := Blocks.slideStep_eq
    ((b.noteOverrun.withBc (fun c => { c with frame := c.frame + 1 })).pageStep)
  unfold Blocks.moved
  rw [hlink, hdecode, hbc, hstore, hpage]
  refine ⟨rfl, rfl, Compositor.slid_congr _ _ _ _ _ _ _ _ _, ?_, ?_⟩
  · exact ((Store.repins_showIf _ _).trans (Store.repins_emptyFadingIf _ _)).trans (Store.repins_emptyFadingIf _ _)
  · rw [Store.emptyFadingIf_roles, Store.emptyFadingIf_roles, Store.showIf_roles, Compositor.cuts_transitioned_congr,
      Compositor.transitionEnds_congr]
    unfold Compositor.emptiesFading
    cases b.bc.transitionEnds <;> cases b.bc.transitioned.cuts (b.bc.frame + 1) <;> rfl

end Moved

end Sys2Proof.Machine

/-! SUPPORT. FRAME_STROBE at a Running station: the station after the strobe's steps, and what the end of the event leaves of
it; the rows that name a pulse by what it brings (log 5). -/

namespace Sys2Proof.Machine

/-! ### A job in progress keeps the compositor -/

section Busy

variable (g : Geometry) (sc : Scene) (change : Half) (b : Blocks)

theorem Blocks.retryWait_bc (w : RoomWait) : (b.retryWait g change w).bc = b.bc := by
  unfold Blocks.retryWait
  split
  · rfl
  · split
    · split
      · rfl
      · split <;> rfl
    · split <;> rfl

theorem Blocks.retryRoom_bc (before : Blocks) : (b.retryRoom g change before).bc = b.bc := by
  have hall : ∀ (l : List RoomWait) (c : Blocks), (l.foldl (Blocks.retryWait g change) c).bc = c.bc := by
    intro l
    induction l with
    | nil => exact fun _ => rfl
    | cons w l ih => exact fun c => (ih _).trans (Blocks.retryWait_bc g change c w)
  unfold Blocks.retryRoom
  split
  · exact hall _ _
  · rfl

theorem Blocks.refill_bc : (b.refill change).bc = b.bc := by
  unfold Blocks.refill
  split
  · dsimp only
    split <;> rfl
  · rfl

theorem Blocks.prefetch_bc : (b.prefetch g sc).bc = b.bc := by
  unfold Blocks.prefetch
  split
  · rfl
  · split <;> rfl

theorem Blocks.pageReadiness_bc : (b.pageReadiness sc).bc = b.bc := by
  unfold Blocks.pageReadiness
  split
  · rfl
  · split <;> rfl

theorem Blocks.slideReadiness_bc : (b.slideReadiness sc).bc = b.bc := by
  unfold Blocks.slideReadiness
  split
  · rfl
  · split <;> rfl

theorem Blocks.queueWant_bc : b.queueWant.bc = b.bc := by
  unfold Blocks.queueWant
  split
  · rfl
  · split <;> rfl

theorem Blocks.queueWants_bc : b.queueWants.bc = b.bc := by
  unfold Blocks.queueWants
  rw [Blocks.queueWant_bc, Blocks.queueWant_bc, Blocks.queueWant_bc, Blocks.queueWant_bc]

end Busy

/-- While a job is in progress no batch is taken, so that the end of the event leaves the back surface too (R124, R130). -/
theorem Blocks.settle_bc {g : Geometry} {scBefore sc : Scene} {before b : Blocks} {r : Running}
    (h : b.decode.running = some r) : (Blocks.settle g scBefore sc before b).bc = b.bc := by
  have h1 := Blocks.retryRoom_keepsWork g sc.pageChange b before
  have h2 := Decode.keepsWork_trans h1 (Blocks.refill_keepsWork sc.pageChange (b.retryRoom g sc.pageChange before))
  have h3 := Decode.keepsWork_trans h2 (Blocks.prefetch_keepsWork g sc ((b.retryRoom g sc.pageChange before).refill sc.pageChange))
  unfold Blocks.settle
  dsimp only
  rw [Blocks.chooseJobs_busy (h1.1.trans h), Blocks.chooseJobs_busy (h2.1.trans h), Blocks.chooseJobs_busy (h3.1.trans h),
    Blocks.queueWants_bc, Blocks.slideReadiness_bc, Blocks.pageReadiness_bc]
  split
  · rw [Blocks.prefetch_bc, Blocks.refill_bc, Blocks.retryRoom_bc]
  · rw [Blocks.refill_bc, Blocks.retryRoom_bc]

/-! ### The station after the strobe's steps -/

/-- The snapshot of the strobe (R145). -/
def Station.snapshotTaken (st : Station) : Snapshot := st.blocks.moved.snapshot st.geometry st.placeholder st.scene

/-- The station after the Band Compositor's steps (R141). -/
def Station.strobed (st : Station) : Station := st.withBlocks (Blocks.strobe st.geometry st.placeholder st.scene)

/-- The blocks after the strobe's steps and the timers' pulse, before the end of the event. -/
def Station.strobedBlocks (st : Station) : Blocks :=
  { st.strobed.blocks with link := st.strobed.blocks.link.enqueueAll st.strobed.pulseMessages }

section Strobed

variable (st : Station)

theorem Station.strobed_link : st.strobed.blocks.link = st.blocks.noteOverrun.link := (Blocks.moved_eq st.blocks).1

theorem Station.strobed_decode : st.strobed.blocks.decode = st.blocks.decode := (Blocks.moved_eq st.blocks).2.1

theorem Station.strobed_store : st.strobed.blocks.store = st.blocks.moved.store.showStrips st.snapshotTaken := rfl

theorem Station.strobed_bc :
    st.strobed.blocks.bc = { st.blocks.bc.slid (st.blocks.bc.frame + 1) with
      frame := st.blocks.bc.frame + 1
      displayPage := (st.blocks.bc.paged (st.blocks.bc.frame + 1)).displayPage
      heldButtons := (st.blocks.bc.paged (st.blocks.bc.frame + 1)).heldButtons
      pageSwitch := (st.blocks.bc.paged (st.blocks.bc.frame + 1)).pageSwitch
      composing := some st.snapshotTaken
      overrun := st.blocks.bc.overrun || st.blocks.bc.composing.isSome
      overrunReported := st.blocks.bc.overrunReported || st.blocks.bc.composing.isSome
      port := st.blocks.bc.lastImage } := by
  obtain ⟨-, -, hbc, -⟩ := Blocks.moved_eq st.blocks
  show ({ st.blocks.moved.bc with port := st.blocks.moved.bc.lastImage, composing := some st.snapshotTaken } : Compositor) = _
  rw [hbc, Compositor.slid_frame]

theorem Station.strobed_roles :
    st.strobed.blocks.store.roles = { st.blocks.store.roles with
      display := if st.blocks.bc.pageDue (st.blocks.bc.frame + 1) then st.blocks.store.roles.shown
        else st.blocks.store.roles.display
      fading := if st.blocks.bc.emptiesFading (st.blocks.bc.frame + 1) then RoleSet.empty
        else st.blocks.store.roles.fading } := by
  obtain ⟨-, -, -, -, hroles⟩ := Blocks.moved_eq st.blocks
  exact hroles

theorem Station.strobe_eq {st : Station} (h : st.Runs) :
    st.strobe = (st.strobed.pulsed st.pulseTimers st.strobed.pulseMessages).settle st := by
  unfold Station.strobe
  rw [if_neg (Bool.eq_false_iff.mp h.2), h.1]
  show (st.strobed.tick).settle st = _
  rw [Station.tick_eq]
  rfl

end Strobed

/-- FRAME_STROBE at a Running station: the strobe's steps, the timers' pulse, and the end of the event, which writes at most the
back surface, and not that while a job is in progress. -/
theorem frameStrobe_becomes {s : State} (h : s.station.Runs) :
    ∃ t, exec .frameStrobe s = .next t ∧ s.Becomes s.station.scene s.station.pulseTimers s.station.strobedBlocks t
      ∧ (s.station.blocks.decode.running.isSome = true → t.station.blocks.bc = s.station.strobed.blocks.bc) := by
  have hstrobe := Station.strobe_eq h
  obtain ⟨c, hsettle, hworked⟩ := Station.settle_eq
    (s.station.strobed.pulsed s.station.pulseTimers s.station.strobed.pulseMessages) s.station
  refine ⟨{ s with station := s.station.strobe }, rfl, ⟨?_, ?_⟩, fun hr => ?_⟩
  · show ({ s with station := s.station.strobe } : State) = _
    rw [hstrobe, hsettle]
    rfl
  · show Blocks.Worked _ s.station.strobe.blocks
    rw [hstrobe, hsettle]
    exact hworked
  · show s.station.strobe.blocks.bc = _
    obtain ⟨r, hr⟩ := Option.isSome_iff_exists.mp hr
    rw [hstrobe, Station.settle_running (st := s.station.strobed.pulsed _ _) h.1]
    exact Blocks.settle_bc (s.station.strobed_decode ▸ hr)

/-! ### The rows that name a pulse by what it brings -/

section Rows

variable {s : State} {due : Station → Bool} (h : s.station.Runs)
include h

/-- A row that is due is the whole strobe event. -/
theorem strobeWhen_due (hdue : due s.station = true) :
    s.event (fun st => st.strobeWhen (due st)) = exec .frameStrobe s := by
  show (.next { s with station := s.station.strobeWhen (due s.station) } : Host.Outcome State Fault Refusal)
    = .next { s with station := s.station.strobe }
  unfold Station.strobeWhen
  rw [if_pos (by rw [hdue, h.1]; rfl)]

omit h in
/-- A row that is not due changes nothing. -/
theorem strobeWhen_rest (hdue : due s.station = false) : s.event (fun st => st.strobeWhen (due st)) = .next s :=
  State.next_same (if_neg (by rw [hdue]; exact Bool.false_ne_true))

end Rows

/-! ### What is left at the end of the event -/

section Becomes

variable {s t : State} (h : s.Becomes s.station.scene s.station.pulseTimers s.station.strobedBlocks t)
include h

theorem State.Becomes.strobe_bc :
    t.station.blocks.bc = { s.station.strobed.blocks.bc with back := t.station.blocks.bc.back } := h.2.2.2

theorem State.Becomes.strobe_roles : t.station.blocks.store.roles = s.station.strobed.blocks.store.roles := h.roles_eq

/-- The strobe adds to the queue's tail: what the pulse hands over and takes there, then what the end of the event queues. -/
theorem State.Becomes.strobe_queue :
    ∃ pulse ends, t.station.blocks.link.queue = s.station.blocks.noteOverrun.link.queue ++ pulse ++ ends
      ∧ pulse.Sublist s.station.strobed.pulseMessages ∧ ∀ m ∈ ends, m.endsEvent = true := by
  obtain ⟨-, ⟨⟨-, ⟨ends, hends, hkinds⟩, -⟩, -, -⟩⟩ := h
  obtain ⟨-, ⟨pulse, hpulse, hsub⟩, -⟩ := s.station.strobed.blocks.link.enqueueAll_frame s.station.strobed.pulseMessages
  refine ⟨pulse, ends, ?_, hsub, hkinds⟩
  rw [hends, show s.station.strobedBlocks.link = s.station.strobed.blocks.link.enqueueAll s.station.strobed.pulseMessages from rfl,
    hpulse, Station.strobed_link]

end Becomes

end Sys2Proof.Machine

/-! The strobe events: what a pulse leaves at a station of each state, the page switch, the slide switch and the transition. -/

namespace Sys2Proof.Machine

/-! ### The held switches' rows -/

theorem exec_pageSwitchTarget (s : State) :
    exec .pageSwitchTarget s = s.event (fun st => st.strobeWhen st.pageSwitchDue) := rfl

theorem exec_slideSwitchVisible (s : State) :
    exec .slideSwitchVisible s = s.event (fun st => st.strobeWhen st.slideSwitchDue) := rfl

theorem exec_transitionEnd (s : State) :
    exec .transitionEnd s = s.event (fun st => st.strobeWhen st.transitionDue) := rfl

/-- Settles O7: the page switch step moves the page registers and the display role, and nothing after it does. -/
theorem pageSwitchAtTarget : Obligations.PageSwitchAtTarget := by
  intro s e hruns he
  obtain ⟨t, hexec, hbec, -⟩ := frameStrobe_becomes hruns
  have hbc := hbec.strobe_bc
  have hroles := hbec.strobe_roles
  rw [Station.strobed_bc] at hbc
  rw [Station.strobed_roles] at hroles
  have hdue := Compositor.pageDue_of_some (frame := s.station.blocks.bc.frame + 1) he
  refine ⟨fun hnow => ?_, fun hlater => ?_⟩
  · replace hdue : s.station.blocks.bc.pageDue (s.station.blocks.bc.frame + 1) = true := by
      rw [hdue]
      simpa using hnow
    rw [Compositor.paged_of_due he hdue] at hbc
    rw [if_pos hdue] at hroles
    refine ⟨t, (strobeWhen_due (due := Station.pageSwitchDue) hruns hdue).trans hexec, hexec, hbec.scene_eq, ?_⟩
    rw [hbc, hroles]
    exact ⟨rfl, rfl, rfl, rfl, rfl, rfl⟩
  · replace hdue : s.station.blocks.bc.pageDue (s.station.blocks.bc.frame + 1) = false := by
      rw [hdue, hlater.1]
      simpa using hlater.2
    rw [Compositor.paged_of_rest hdue] at hbc
    rw [hdue] at hroles
    refine ⟨strobeWhen_rest (due := Station.pageSwitchDue) hdue, t, hexec, ?_⟩
    rw [hbc, hroles]
    exact ⟨rfl, he, rfl⟩

/-! ### The slide step -/

section Slid

variable {frame : Long} {c : Compositor}

theorem Compositor.slid_of_shown {w : SlideSwitch} (hw : c.transitioned.slideSwitch = some w)
    (h : c.transitioned.shows (w.reach frame) = true) :
    c.slid frame = c.transitioned.madeVisible (w.reach frame) := by
  unfold Compositor.slid
  rw [hw]
  exact if_pos h

/-- A slide step that makes no held switch visible leaves what the transition's step left. -/
theorem Compositor.slid_of_rest
    (h : ∀ w, c.transitioned.slideSwitch = some w → c.transitioned.shows (w.reach frame) = false) :
    c.slid frame = { c.transitioned with slideSwitch := (c.slid frame).slideSwitch } := by
  unfold Compositor.slid
  cases hw : c.transitioned.slideSwitch with
  | none => dsimp only
  | some w =>
    dsimp only
    rw [if_neg (Bool.eq_false_iff.mp (h w hw))]

theorem Compositor.cuts_of_rest {d : Compositor} (h : ∀ w, d.slideSwitch = some w → d.shows (w.reach frame) = false) :
    d.cuts frame = false := by
  cases hw : d.slideSwitch with
  | none => exact Compositor.cuts_of_none hw
  | some w => rw [Compositor.cuts_of_some hw, h w hw, Bool.false_and]

theorem Compositor.transitioned_of_end {r : Transition} (hr : c.transition = some r) (h : r.length ≤ r.step + 1) :
    c.transitioned = { c.exchange with transition := none } := by
  unfold Compositor.transitioned
  rw [hr]
  exact if_pos h

theorem Compositor.transitioned_of_more {r : Transition} (hr : c.transition = some r) (h : r.step + 1 < r.length) :
    c.transitioned = { c with transition := some { r with step := r.step + 1 } } := by
  unfold Compositor.transitioned
  rw [hr]
  exact if_neg (Nat.not_le.mpr h)

theorem Compositor.transitionEnds_of_some {r : Transition} (hr : c.transition = some r) :
    c.transitionEnds = decide (r.length ≤ r.step + 1) := by
  unfold Compositor.transitionEnds
  rw [hr]

/-- No held switch becomes visible while a transition goes on. -/
theorem Compositor.shows_of_transition {r : Transition} {w : SlideSwitch} (h : c.transition = some r) : c.shows w = false :=
  Bool.eq_false_iff.mpr fun hs => by
    obtain ⟨-, hnone, -⟩ := (Compositor.shows_iff w c).mp hs
    rw [h] at hnone
    cases hnone

theorem Blocks.slideDue_of_some {b : Blocks} {w : SlideSwitch} (hw : b.bc.transitioned.slideSwitch = some w) :
    b.slideDue = b.bc.transitioned.shows (w.reach (b.bc.frame + 1)) := by
  have hbc : ((b.withBc (fun c => { c with frame := c.frame + 1 })).transitionStep).bc
      = { b.bc.transitioned with
          frame := b.bc.frame + 1, displayPage := b.bc.displayPage, heldButtons := b.bc.heldButtons
          pageSwitch := b.bc.pageSwitch, composing := b.bc.composing, overrun := b.bc.overrun
          overrunReported := b.bc.overrunReported } := by
    rw [Blocks.transitionStep_eq]
    exact Compositor.transitioned_congr _ _ _ _ _ _ _ _
  unfold Blocks.slideDue
  dsimp only
  rw [hbc]
  dsimp only
  rw [hw]
  rfl

end Slid

/-- Settles O9: a transition's step, with the slide switch examined after it and not made visible. -/
theorem transitionRunsAndEnds : Obligations.TransitionRunsAndEnds := by
  intro s r hruns hr
  obtain ⟨t, hexec, hbec, -⟩ := frameStrobe_becomes hruns
  have hbc := hbec.strobe_bc
  have hroles := hbec.strobe_roles
  rw [Station.strobed_bc] at hbc
  rw [Station.strobed_roles] at hroles
  refine ⟨fun hend hwait => ?_, fun hmore => ?_⟩
  · have hdue : s.station.blocks.bc.transitionEnds = true := by
      rw [Compositor.transitionEnds_of_some hr]
      exact decide_eq_true hend
    have htrans := Compositor.transitioned_of_end hr hend
    have hrest : ∀ w, s.station.blocks.bc.transitioned.slideSwitch = some w →
        s.station.blocks.bc.transitioned.shows (w.reach (s.station.blocks.bc.frame + 1)) = false := by
      intro w hw
      rw [htrans] at hw ⊢
      refine Bool.eq_false_iff.mpr fun hshows => ?_
      rw [Compositor.shows_iff, SlideSwitch.reach_awaiting, SlideSwitch.reach_content] at hshows
      obtain ⟨hawait, -, hcontent, hwhole⟩ := hshows
      rcases hwait w hw with ⟨h1, h2, h3⟩ | h | h
      · rcases hawait with h | h | h
        · exact Bool.false_ne_true (h1.symm.trans h)
        · exact Bool.false_ne_true (h2.symm.trans h)
        · exact h3 h
      · exact h hcontent
      · exact Bool.false_ne_true (h.symm.trans hwhole)
    have hempty : s.station.blocks.bc.emptiesFading (s.station.blocks.bc.frame + 1) = true := by
      unfold Compositor.emptiesFading
      rw [hdue, Bool.true_or]
    rw [Compositor.slid_of_rest hrest, htrans] at hbc
    rw [if_pos hempty] at hroles
    refine ⟨t, (strobeWhen_due (due := Station.transitionDue) hruns hdue).trans hexec, hexec, hbec.scene_eq, ?_⟩
    rw [hbc, hroles]
    exact ⟨rfl, rfl, rfl, rfl⟩
  · have hdue : s.station.transitionDue = false := by
      refine (Compositor.transitionEnds_of_some hr).trans ?_
      exact decide_eq_false (Nat.not_le.mpr hmore)
    have htrans := Compositor.transitioned_of_more hr hmore
    rw [Compositor.slid_of_rest fun w _ => Compositor.shows_of_transition (by rw [htrans]), htrans] at hbc
    refine ⟨strobeWhen_rest (due := Station.transitionDue) hdue, t, hexec, ?_⟩
    rw [hbc]
    exact ⟨rfl, rfl⟩

/-- Settles O8: the examination of the held slide switch, on the surfaces that the transition's step leaves. -/
theorem slideSwitchBecomesVisible : Obligations.SlideSwitchBecomesVisible := by
  intro s w c hruns hw hc hnone hreach hcontent hwhole
  obtain ⟨t, hexec, hbec, hbusy⟩ := frameStrobe_becomes hruns
  have hbc := hbec.strobe_bc
  have hroles := hbec.strobe_roles
  rw [Station.strobed_bc] at hbc hbusy
  rw [Station.strobed_roles] at hroles
  have hcbc : c.bc = s.station.blocks.bc.transitioned := by rw [hc, Blocks.transitionStep_eq]
  rw [hcbc] at hnone hcontent hwhole ⊢
  have hsw : s.station.blocks.bc.transitioned.slideSwitch = some w := by rw [Compositor.transitioned_frame]; exact hw
  have hlayer : s.station.blocks.bc.transitioned.layerOn = s.station.blocks.bc.layerOn := by rw [Compositor.transitioned_frame]
  have hshows : s.station.blocks.bc.transitioned.shows (w.reach (s.station.blocks.bc.frame + 1)) = true := by
    rw [Compositor.shows_iff, SlideSwitch.reach_awaiting, SlideSwitch.reach_content]
    exact ⟨hreach, hnone, hcontent, hwhole⟩
  have hcuts := Compositor.cuts_of_some (frame := s.station.blocks.bc.frame + 1) hsw
  rw [hshows, Bool.true_and, hlayer] at hcuts
  have hdue : s.station.slideSwitchDue = true := (Blocks.slideDue_of_some hsw).trans hshows
  rw [Compositor.slid_of_shown hsw hshows] at hbc hbusy
  refine ⟨t, (strobeWhen_due (due := Station.slideSwitchDue) hruns hdue).trans hexec, hexec, hbec.scene_eq, ?_⟩
  have hend : s.station.blocks.bc.emptiesFading (s.station.blocks.bc.frame + 1)
      = (s.station.blocks.bc.transitionEnds || (decide (w.kind = .cut) || !s.station.blocks.bc.layerOn)) := by
    unfold Compositor.emptiesFading
    rw [hcuts]
  by_cases hcut : w.kind = .cut ∨ s.station.blocks.bc.layerOn = false
  · have hmade : s.station.blocks.bc.transitioned.madeVisible (w.reach (s.station.blocks.bc.frame + 1))
        = { s.station.blocks.bc.transitioned.exchange with layerOn := true, slideSwitch := none } :=
      if_pos (by rwa [SlideSwitch.reach_kind, hlayer])
    have hempty : s.station.blocks.bc.emptiesFading (s.station.blocks.bc.frame + 1) = true := by
      rw [hend]
      rcases hcut with h | h <;> simp [h]
    rw [hmade] at hbc hbusy
    rw [if_pos hempty] at hroles
    rw [hbc, hroles]
    refine ⟨rfl, rfl, rfl, fun _ => ⟨rfl, hnone, fun hr => ?_, rfl⟩, fun h => ?_⟩
    · show t.station.blocks.bc.back = _
      rw [hbusy hr]
      rfl
    · exact absurd hcut (by simp [h])
  · have hmade : s.station.blocks.bc.transitioned.madeVisible (w.reach (s.station.blocks.bc.frame + 1))
        = { s.station.blocks.bc.transitioned with
            slideSwitch := none
            transition := some { wipe := decide (w.kind = .wipeDown), length := w.length, step := 1 } } := by
      unfold Compositor.madeVisible
      rw [if_neg (by rwa [SlideSwitch.reach_kind, hlayer]), SlideSwitch.reach_kind, SlideSwitch.reach_length]
    have hends : s.station.blocks.bc.emptiesFading (s.station.blocks.bc.frame + 1) = s.station.blocks.bc.transitionEnds := by
      rw [hend]
      simp only [not_or, Bool.not_eq_false] at hcut
      simp [hcut]
    have hon : s.station.blocks.bc.layerOn = true := by simpa using (not_or.mp hcut).2
    have hfading : c.store.roles.fading
        = if s.station.blocks.bc.transitionEnds then RoleSet.empty else s.station.blocks.store.roles.fading := by
      rw [hc, Blocks.transitionStep_eq]
      cases s.station.blocks.bc.transitionEnds <;> rfl
    rw [hmade] at hbc hbusy
    rw [hends] at hroles
    rw [hbc, hroles, hfading]
    refine ⟨rfl, hlayer.trans hon, rfl, fun h => absurd h hcut, fun _ => ⟨rfl, fun hr => ?_, rfl, rfl⟩⟩
    show t.station.blocks.bc.back = _
    rw [hbusy hr]

end Sys2Proof.Machine

/-! The pulse by the station's state (R141, R145, R146): the queue's growth, the snapshot and the last-shown frames. -/

namespace Sys2Proof.Machine

/-! ### The outgoing queue under a pulse -/

/-- Messages may have joined the queue's tail and the overflow flag may have been set; nothing else of the link has moved. -/
def Link.Extends (l m : Link) : Prop :=
  m = { l with queue := m.queue, overflow := m.overflow } ∧ l.queue <+: m.queue ∧ (l.overflow = true → m.overflow = true)

theorem Link.Extends.trans {l m n : Link} (h : l.Extends m) (k : m.Extends n) : l.Extends n := by
  obtain ⟨hl, hq, ho⟩ := h
  obtain ⟨kl, kq, ko⟩ := k
  have hframe : ∀ q o, ({ m with queue := q, overflow := o } : Link) = { l with queue := q, overflow := o } :=
    fun _ _ => by rw [hl]
  exact ⟨kl.trans (hframe _ _), hq.trans kq, ko ∘ ho⟩

theorem Link.Grows.extends {l m : Link} (h : l.Grows m) : l.Extends m := ⟨h.1, h.isPrefix, h.2.2⟩

theorem Link.extends_enqueueAll (ms : List Message) (l : Link) : l.Extends (l.enqueueAll ms) := by
  obtain ⟨hframe, ⟨added, hadded, -⟩, hover⟩ := l.enqueueAll_frame ms
  exact ⟨hframe, ⟨added, hadded.symm⟩, hover⟩

theorem Blocks.extends_noteOverrun (b : Blocks) : b.link.Extends b.noteOverrun.link := by
  rw [Blocks.noteOverrun_link]
  split
  · exact Link.extends_enqueueAll [_] b.link
  · exact Link.extends_enqueueAll [] b.link

theorem State.Becomes.strobe_link {s t : State}
    (h : s.Becomes s.station.scene s.station.pulseTimers s.station.strobedBlocks t) :
    s.station.blocks.link.Extends t.station.blocks.link := by
  have hpulse : s.station.blocks.noteOverrun.link.Extends s.station.strobedBlocks.link :=
    s.station.strobed_link ▸ Link.extends_enqueueAll _ _
  exact ((Blocks.extends_noteOverrun _).trans hpulse).trans h.2.1.extends

/-! ### The snapshot -/

/-- A slide layer that a transition is running on keeps the back surface that the transition's step left (R152, R153). -/
theorem Compositor.slid_back_of_transition {frame : Long} {c : Compositor} (h : (c.slid frame).transition.isSome = true) :
    (c.slid frame).back = c.transitioned.back := by
  cases hw : c.transitioned.slideSwitch with
  | none =>
    rw [Compositor.slid_of_rest fun w hw' => absurd (hw.symm.trans hw') (by simp)]
  | some w =>
    by_cases hshows : c.transitioned.shows (w.reach frame) = true
    · obtain ⟨-, hnone, -⟩ := (Compositor.shows_iff _ _).mp hshows
      rw [Compositor.slid_of_shown hw hshows] at h ⊢
      unfold Compositor.madeVisible at h ⊢
      split at h
      · exact absurd (show c.transitioned.transition.isSome = true from h) (by rw [hnone]; exact Bool.false_ne_true)
      · next hcut => rw [if_neg hcut]
    · rw [Compositor.slid_of_rest fun w' hw' => ?_]
      obtain rfl : w = w' := Option.some.inj (hw.symm.trans hw')
      exact Bool.eq_false_iff.mpr hshows

theorem Compositor.transitioned_back {c : Compositor}
    (h : ∀ r, c.transition = some r → r.step + 1 < r.length) : c.transitioned.back = c.back := by
  cases hr : c.transition with
  | none =>
    unfold Compositor.transitioned
    rw [hr]
  | some r => rw [Compositor.transitioned_of_more hr (h r hr)]

theorem Scene.drawnPage_congr {c d : Compositor} (sc : Scene) (hp : d.displayPage = c.displayPage)
    (hb : d.heldButtons = c.heldButtons) : sc.drawnPage d = sc.drawnPage c := by
  unfold Scene.drawnPage
  rw [hp, hb]

section Taken

variable (st : Station)

theorem Station.snapshotTaken_bc :
    st.snapshotTaken.layerOn = st.strobed.blocks.bc.layerOn ∧ st.snapshotTaken.front = st.strobed.blocks.bc.front
      ∧ st.snapshotTaken.back = (st.blocks.bc.slid (st.blocks.bc.frame + 1)).back
      ∧ st.snapshotTaken.transition = (st.blocks.bc.slid (st.blocks.bc.frame + 1)).transition
      ∧ st.snapshotTaken.transition = st.strobed.blocks.bc.transition
      ∧ st.snapshotTaken.frame = st.blocks.bc.frame + 1
      ∧ st.snapshotTaken.page = st.scene.drawnPage st.strobed.blocks.bc := by
  obtain ⟨-, -, hbc, -⟩ := Blocks.moved_eq st.blocks
  refine ⟨rfl, rfl, ?_, ?_, rfl, ?_, rfl⟩
  · show st.blocks.moved.bc.back = _
    rw [hbc]
  · show st.blocks.moved.bc.transition = _
    rw [hbc]
  · show st.blocks.moved.bc.frame = _
    rw [hbc]

theorem Station.snapshotTaken_assets : st.snapshotTaken.assets = st.blocks.store.assets := by
  obtain ⟨-, -, -, ⟨hstore, -⟩, -⟩ := Blocks.moved_eq st.blocks
  show st.blocks.moved.store.assets = _
  rw [hstore]

/-- The entries the snapshot names Ready, read on the store as the pulse finds it: the steps before change pins alone. -/
theorem Station.mem_snapshotTaken_ready (e : Opened) :
    e ∈ st.snapshotTaken.ready ↔ e ∈ st.blocks.moved.store.opened ∧ e.ready = true
      ∧ st.strobed.blocks.store.roles.display.strips.contains e.id = true ∧ st.blocks.store.isSpoiled e.id = false := by
  obtain ⟨-, -, -, hrepins, -⟩ := Blocks.moved_eq st.blocks
  show e ∈ st.blocks.moved.store.readyToDraw ↔ _
  unfold Store.readyToDraw
  rw [List.mem_filter, hrepins.isSpoiled, show st.strobed.blocks.store.roles = st.blocks.moved.store.roles from rfl,
    Bool.and_eq_true, Bool.and_eq_true, Bool.not_eq_true', and_assoc]

theorem Station.snapshotTaken_ready_iff (k : Strip) (rows : Rows) :
    (∃ e ∈ st.snapshotTaken.ready, e.id = k ∧ e.rows = rows)
      ↔ (∃ e ∈ st.blocks.store.opened, e.id = k ∧ e.rows = rows ∧ e.ready = true)
        ∧ st.strobed.blocks.store.roles.display.strips.contains k = true ∧ st.blocks.store.isSpoiled k = false := by
  obtain ⟨-, -, -, ⟨-, -, ⟨p, hp⟩⟩, -⟩ := Blocks.moved_eq st.blocks
  simp only [Station.mem_snapshotTaken_ready, hp, List.mem_map]
  constructor
  · rintro ⟨_, ⟨⟨e, he, rfl⟩, hready, hdisplay, hspoiled⟩, rfl, rfl⟩
    exact ⟨⟨e, he, rfl, rfl, hready⟩, hdisplay, hspoiled⟩
  · rintro ⟨⟨e, he, rfl, rfl, hready⟩, hdisplay, hspoiled⟩
    exact ⟨_, ⟨⟨e, he, rfl⟩, hready, hdisplay, hspoiled⟩, rfl, rfl⟩

/-- A Ready entry of the store is named by the snapshot by its strip alone. -/
theorem Station.snapshotTaken_strip {e : Opened} (he : st.blocks.moved.store.findOpened e.id = some e) (hr : e.ready = true) :
    (st.snapshotTaken.strip e.id).isSome
      = (st.strobed.blocks.store.roles.display.strips.contains e.id && !st.blocks.store.isSpoiled e.id) := by
  unfold Snapshot.strip
  rw [Bool.eq_iff_iff, Bool.and_eq_true, Bool.not_eq_true']
  constructor
  · intro h
    obtain ⟨x, hx⟩ := Option.isSome_iff_exists.mp h
    obtain ⟨hmem, hid⟩ := Table.mem_of_find hx
    obtain ⟨-, -, hdisplay, hspoiled⟩ := (st.mem_snapshotTaken_ready x).mp hmem
    rw [← hid]
    exact ⟨hdisplay, hspoiled⟩
  · rintro ⟨hdisplay, hspoiled⟩
    exact Table.find_of_mem Opened.id
      ((st.mem_snapshotTaken_ready e).mpr ⟨(Table.mem_of_find he).1, hr, hdisplay, hspoiled⟩)

/-- The last-shown frame of a Ready strip after the snapshot step (R146). -/
theorem Station.strobed_lastShown {k : Strip} {d : Opened} (hd : st.strobed.blocks.store.findOpened k = some d)
    (hr : d.ready = true) :
    ∃ e, st.blocks.store.findOpened k = some e
      ∧ d.lastShown = (if st.strobed.blocks.store.roles.display.strips.contains k && !st.blocks.store.isSpoiled k
          && st.snapshotTaken.draws k then st.blocks.bc.frame + 1 else e.lastShown) := by
  obtain ⟨-, -, -, hrepins, -⟩ := Blocks.moved_eq st.blocks
  obtain ⟨-, -, -, -, -, hframe, -⟩ := st.snapshotTaken_bc
  obtain ⟨p, hp⟩ := hrepins.findOpened k
  have hshown : st.strobed.blocks.store.findOpened k = (st.blocks.moved.store.findOpened k).map (fun e =>
      if (st.snapshotTaken.strip e.id).isSome && st.snapshotTaken.draws e.id then
        { e with lastShown := st.snapshotTaken.frame } else e) :=
    Table.find_map (fun e => by split <;> rfl) k _
  rw [hshown, Option.map_eq_some_iff] at hd
  obtain ⟨m, hm, rfl⟩ := hd
  have hmr : m.ready = true := by
    split at hr
    · exact hr
    · exact hr
  obtain rfl : m.id = k := (Table.mem_of_find hm).2
  rw [hp, Option.map_eq_some_iff] at hm
  obtain ⟨e, he, hme⟩ := hm
  refine ⟨e, he, ?_⟩
  rw [st.snapshotTaken_strip (by rw [hp, he, ← hme]; rfl) hmr, hframe]
  have hlast : m.lastShown = e.lastShown := by rw [← hme]
  split
  · rfl
  · exact hlast

end Taken

/-- Settles O5: the strobe's steps one register at a time, and the end of the event, which keeps what they write. -/
theorem strobeByStationState : Obligations.StrobeByStationState := by
  refine ⟨fun s hruns => ?_, fun s hl hm => ?_⟩
  · obtain ⟨t, hexec, hbec, -⟩ := frameStrobe_becomes hruns
    have hbc := hbec.strobe_bc
    have hroles := hbec.strobe_roles
    obtain ⟨hlink, hprefix, hover⟩ := hbec.strobe_link
    obtain ⟨hlayer, hfront, hback, htrans, htrans', hframe, hpage⟩ := s.station.snapshotTaken_bc
    have hkeeps := hbec.2.2.1.2.1.2
    have hstrobed := Station.strobed_bc s.station
    refine ⟨t, s.station.snapshotTaken, hexec, by rw [hbec.1], by rw [hbec.1], hlink, hprefix, hover, ?_, ?_, ?_, ?_, ?_,
      hframe, rfl, rfl, s.station.snapshotTaken_assets, ?_, fun e he => ?_, fun k rows => ?_, ?_, ?_, ?_, fun r hsome hr hend => ?_,
      fun hsome hmore => ?_, fun k d hd hready => ?_⟩
    · rw [hbc, hstrobed]
    · rw [hbc, hstrobed]
    · rw [hbc, hstrobed, Compositor.slid_frame]
    · rw [hbc, hstrobed, Compositor.slid_frame]
    · rw [hbc, hstrobed]
    · rw [hpage, hbc]
      rfl
    · obtain ⟨-, hr, hdisplay, -⟩ := (Station.mem_snapshotTaken_ready _ e).mp he
      exact ⟨hr, hroles ▸ hdisplay⟩
    · rw [hroles]
      exact Station.snapshotTaken_ready_iff s.station k rows
    · rw [hlayer, hbc]
    · rw [hfront, hbc]
    · rw [htrans', hbc]
    · rw [htrans] at hsome
      rw [hback, Compositor.slid_back_of_transition hsome, Compositor.transitioned_of_end hr hend]
      rfl
    · rw [htrans] at hsome
      rw [hback, Compositor.slid_back_of_transition hsome, Compositor.transitioned_back hmore]
    · rw [hroles]
      rcases hkeeps k d hd with hfound | hnot
      · exact s.station.strobed_lastShown hfound hready
      · exact absurd (hready.symm.trans hnot) Bool.noConfusion
  · show (.next { s with station := s.station.strobe } : Host.Outcome State Fault Refusal) = _
    have hidle : s.station.strobe = s.station.strobeIdle := by
      unfold Station.strobe
      rw [if_neg (Bool.eq_false_iff.mp hl)]
      rcases hm with h | h | h <;> rw [h]
    rw [hidle]
    rfl

end Sys2Proof.Machine

/-! The composition's end and the overrun (R155), and the pixels that a composition draws (R147 to R150). -/

namespace Sys2Proof.Machine

/-! ### Colours -/

theorem channel_lt (i : Nat) (c : Colour) : channel i c < 256 := Nat.mod_lt _ (by decide)

/-- The channels of a colour are those it is made of. -/
theorem channel_colourOf {a r g b : Nat} (ha : a < 256) (hr : r < 256) (hg : g < 256) (hb : b < 256) :
    channel 0 (colourOf a r g b) = a ∧ channel 1 (colourOf a r g b) = r ∧ channel 2 (colourOf a r g b) = g
      ∧ channel 3 (colourOf a r g b) = b := by
  simp only [channel, colourOf, BitVec.toNat_ofNat]
  refine ⟨?_, ?_, ?_, ?_⟩ <;> omega

/-- A weighted mean of two channels stays a channel (R147). -/
theorem mixChannel_lt {a top below : Nat} (ha : a < 256) (ht : top < 256) (hb : below < 256) : mixChannel a top below < 256 := by
  have h1 : top * a ≤ 255 * a := Nat.mul_le_mul_right a (by omega)
  have h2 : below * (255 - a) ≤ 255 * (255 - a) := Nat.mul_le_mul_right _ (by omega)
  unfold mixChannel over255
  omega

/-- The alpha of two layers stays a channel (R147, log 16). -/
theorem blendAlpha_lt {a below : Nat} (ha : a < 256) (hb : below < 256) : a + over255 (below * (255 - a)) < 256 := by
  have h : below * (255 - a) ≤ 255 * (255 - a) := Nat.mul_le_mul_right _ (by omega)
  unfold over255
  omega

theorem channel_blend (top below : Colour) {i : Nat} (h1 : 1 ≤ i) (h4 : i < 4) :
    channel i (blend top below) = mixChannel (channel 0 top) (channel i top) (channel i below)
      ∧ channel 0 (blend top below) = channel 0 top + over255 (channel 0 below * (255 - channel 0 top)) := by
  have hmix : ∀ j, mixChannel (channel 0 top) (channel j top) (channel j below) < 256 := fun j =>
    mixChannel_lt (channel_lt 0 top) (channel_lt j top) (channel_lt j below)
  obtain ⟨hc0, hc1, hc2, hc3⟩ := channel_colourOf (blendAlpha_lt (channel_lt 0 top) (channel_lt 0 below)) (hmix 1) (hmix 2) (hmix 3)
  refine ⟨?_, hc0⟩
  match i, h1, h4 with
  | 1, _, _ => exact hc1
  | 2, _, _ => exact hc2
  | 3, _, _ => exact hc3

/-- A step of a Fade between two channels stays a channel (R150). -/
theorem fadeChannel_lt {k l front back : Nat} (hk : k < l) (hf : front < 256) (hb : back < 256) :
    fadeChannel k l front back < 256 := by
  have h1 : front * (l - k) ≤ 255 * (l - k) := Nat.mul_le_mul_right _ (by omega)
  have h2 : back * k ≤ 255 * k := Nat.mul_le_mul_right _ (by omega)
  unfold fadeChannel
  rw [Nat.div_lt_iff_lt_mul (by omega)]
  omega

theorem channel_fadePixel {k l i : Nat} (front back : Colour) (hk : k < l) (hi : i < 4) :
    channel i (fadePixel k l front back) = fadeChannel k l (channel i front) (channel i back) := by
  have hfade : ∀ j, fadeChannel k l (channel j front) (channel j back) < 256 := fun j =>
    fadeChannel_lt hk (channel_lt j front) (channel_lt j back)
  obtain ⟨hc0, hc1, hc2, hc3⟩ := channel_colourOf (hfade 0) (hfade 1) (hfade 2) (hfade 3)
  match i, hi with
  | 0, _ => exact hc0
  | 1, _ => exact hc1
  | 2, _ => exact hc2
  | 3, _ => exact hc3

/-! ### The layers of a composition -/

section Layers

variable (snap : Snapshot) (x y : Nat)

theorem Snapshot.pixel_eq :
    snap.pixel x y = match snap.page with
      | none => if snap.layerOn then blend (snap.slidePixel x y) 0 else 0
      | some d =>
        d.body.buttons.foldl (fun c b => layOver (snap.buttonPixel d b x y) c)
          (d.body.pictures.foldl (fun c o => layOver (snap.placed (picturePlacement d.number o) x y) c)
            (layOver (snap.backgroundPixel d x y) (if snap.layerOn then blend (snap.slidePixel x y) 0 else 0))) := by
  unfold Snapshot.pixel
  cases snap.page <;> rfl

theorem Snapshot.slidePixel_still (h : snap.transition = none) : snap.slidePixel x y = snap.front.pixel x y := by
  unfold Snapshot.slidePixel
  rw [h]

theorem Snapshot.slidePixel_wipe {r : Transition} (h : snap.transition = some r) (hw : r.wipe = true) :
    snap.slidePixel x y
      = if y < snap.geometry.height * r.step / r.length then snap.back.pixel x y else snap.front.pixel x y := by
  unfold Snapshot.slidePixel
  rw [h]
  exact if_pos hw

theorem Snapshot.slidePixel_fade {r : Transition} (h : snap.transition = some r) (hw : r.wipe = false) :
    snap.slidePixel x y = fadePixel r.step r.length (snap.front.pixel x y) (snap.back.pixel x y) := by
  unfold Snapshot.slidePixel
  rw [h]
  exact if_neg (Bool.eq_false_iff.mp hw)

variable {snap x y} {pl : Placement} (hin : pl.inside snap.geometry x y = true)
include hin

theorem Snapshot.placed_unknown (ha : snap.asset pl.asset = none) : snap.placed pl x y = some snap.placeholder := by
  unfold Snapshot.placed
  rw [hin, ha]
  rfl

theorem Snapshot.placed_known {a : Asset} (ha : snap.asset pl.asset = some a) (hw : x - pl.x < a.width)
    (hh : y - pl.y < a.height) :
    snap.placed pl x y = some ((snap.strip { asset := pl.asset, index := (y - pl.y) / 8 }).elim snap.placeholder
      (fun e => pixelAt e.rows (x - pl.x) ((y - pl.y) % 8))) := by
  have hcovers : ¬ (a.width ≤ x - pl.x ∨ a.height ≤ y - pl.y) := by omega
  unfold Snapshot.placed
  rw [hin, ha]
  dsimp only
  rw [if_neg (by simp), if_neg hcovers]
  cases snap.strip { asset := pl.asset, index := (y - pl.y) / 8 } <;> rfl

end Layers

theorem Button.appearance_eq (b : Button) (l : Live) :
    b.appearance l = if l.enabled = false ∨ l.state = .normal then b.normal
      else if l.state = .selected then b.selected else b.activated.getD b.selected := by
  obtain ⟨enabled, state⟩ := l
  cases enabled <;> cases state <;> rfl

/-- A button is drawn in the asset of its state, a disabled one with its alpha halved (R149). -/
theorem Snapshot.buttonPixel_eq (snap : Snapshot) (x y : Nat) {d : DrawnPage} {b : Button} {l : Live} {pl : Placement}
    (hl : l = d.live b.id) (hpl : pl = b.drawn d.number l) :
    (l.enabled = true → snap.buttonPixel d b x y = snap.placed pl x y)
      ∧ (l.enabled = false → snap.buttonPixel d b x y = (snap.placed pl x y).map fadedPixel) := by
  subst hpl hl
  unfold Snapshot.buttonPixel
  exact ⟨fun h => if_pos h, fun h => if_neg (Bool.eq_false_iff.mp h)⟩

/-! ### The messages of a pulse -/

/-- The one kind of Fault that the timers' pulse hands over is Prepare Overdue (R57, R94). -/
theorem Station.fault_mem_pulseMessages {st : Station} {f : FaultBody} (h : .fault f ∈ st.pulseMessages) :
    f.kind = FaultKind.prepareOverdue.code := by
  have hexpire : ∀ k t, Message.fault f ∉ expireDue k t := by
    intro k t
    unfold expireDue
    split
    · exact List.not_mem_nil
    · split <;> simp
  have hhits : Message.fault f ∉ st.forcedHits := by
    unfold Station.forcedHits
    split <;> simp
  have hclaim : Message.fault f ∉ st.claimDue := by
    unfold Station.claimDue
    split <;> simp
  simp only [Station.pulseMessages, List.mem_append, hexpire, hhits, hclaim, or_false, false_or] at h
  rcases h with h | h
  · unfold Station.pageOverdue at h
    split at h
    · cases h
    · split at h
      · simp only [List.mem_cons, reduceCtorEq, Message.fault.injEq, List.not_mem_nil, or_false, false_or] at h
        rw [h]
        rfl
      · cases h
  · unfold Station.slideOverdue at h
    split at h
    · cases h
    · split at h
      · simp only [List.mem_cons, reduceCtorEq, Message.fault.injEq, List.not_mem_nil, or_false, false_or] at h
        rw [h]
        rfl
      · cases h

/-! ### The obligation -/

theorem exec_compositionComplete (s : State) : exec .compositionComplete s = s.event Station.composeComplete := rfl

theorem compositionComplete_ends {s : State} {snap : Snapshot} (hruns : s.station.Runs)
    (hsnap : s.station.blocks.bc.composing = some snap) :
    exec .compositionComplete s = .next { s with
      station := { s.station with
        blocks := { s.station.blocks with
          bc := { s.station.blocks.bc with lastImage := .composed snap, composing := none } } } } := by
  have hcomplete : s.station.blocks.bc.complete = { s.station.blocks.bc with lastImage := .composed snap, composing := none } := by
    unfold Compositor.complete
    rw [hsnap]
  have hevent : s.station.composeComplete = s.station.withBlocks (fun b => b.withBc Compositor.complete) := if_pos hruns
  rw [exec_compositionComplete, State.event_eq, ← hcomplete, hevent]
  rfl

/-- A pulse over a composition in progress (R155). -/
theorem frameStrobe_overruns {s : State} {old : Snapshot} (hruns : s.station.Runs)
    (hold : s.station.blocks.bc.composing = some old) :
    ∃ t, exec .frameStrobe s = .next t ∧ t.station.blocks.bc.overrun = true
      ∧ t.station.blocks.bc.overrunReported = true
      ∧ (s.station.blocks.bc.overrunReported = false → s.station.blocks.link.silent = false →
          s.station.blocks.link.queue.length < 8 →
          s.station.blocks.link.queue ++ [.fault (overrunFault s.station.blocks.bc.displayPage s.station.blocks.bc.frame)]
            <+: t.station.blocks.link.queue)
      ∧ (s.station.blocks.bc.overrunReported = true →
          ∃ added, t.station.blocks.link.queue = s.station.blocks.link.queue ++ added
            ∧ ∀ f, .fault f ∈ added → f.kind ≠ FaultKind.frameOverrun.code) := by
  obtain ⟨t, hexec, hbec, -⟩ := frameStrobe_becomes hruns
  obtain ⟨pulse, ends, hqueue, hpulse, hends⟩ := hbec.strobe_queue
  have hbc := hbec.strobe_bc
  rw [Station.strobed_bc, hold] at hbc
  have hlink := Blocks.noteOverrun_link s.station.blocks
  rw [hold] at hlink
  refine ⟨t, hexec, by rw [hbc]; exact Bool.or_true _, by rw [hbc]; exact Bool.or_true _, fun hrep hs hq => ?_, fun hrep => ?_⟩
  · rw [hrep] at hlink
    rw [hqueue, hlink, List.append_assoc]
    rw [show (if (some old).isSome && !false then _ else _) = s.station.blocks.link.enqueue _ from if_pos rfl,
      Link.enqueue_room hs hq]
    exact List.prefix_append _ (pulse ++ ends)
  · rw [hrep] at hlink
    refine ⟨pulse ++ ends, ?_, fun f hf => ?_⟩
    · rw [hqueue, hlink, List.append_assoc]
      rfl
    · rcases List.mem_append.mp hf with h | h
      · rw [Station.fault_mem_pulseMessages (hpulse.subset h)]
        decide
      · rw [show f.kind = FaultKind.storeExhausted.code from of_decide_eq_true (hends _ h)]
        decide

/-- Settles O6: the end of a composition, the overrun at a pulse, and the pixels layer by layer. -/
theorem compositionEndsOrOverruns : Obligations.CompositionEndsOrOverruns := by
  refine ⟨fun s snap => compositionComplete_ends, fun s old => frameStrobe_overruns, fun snap x y => ?_,
    fun top below i h1 h4 => channel_blend top below h1 h4⟩
  refine ⟨snap.pixel_eq x y, snap.slidePixel_still x y, fun r => snap.slidePixel_wipe x y, fun r i hr hw hlt hi => ?_,
    fun pl hin => Snapshot.placed_unknown hin, fun pl a hin ha hw hh => ?_, fun d b l pl hl hpl => ?_⟩
  · rw [snap.slidePixel_fade x y hr hw]
    exact channel_fadePixel _ _ hlt hi
  · rw [Snapshot.placed_known hin ha hw hh]
    exact ⟨fun h => by rw [h, Option.elim_none], fun e h => by rw [h, Option.elim_some]⟩
  · refine snap.buttonPixel_eq x y hl (hpl.trans ?_)
    unfold Button.drawn
    rw [Button.appearance_eq]

end Sys2Proof.Machine

/-! The Speaker Timers at a pulse: the viewer timers (R38, R39, R89), the prepare limits (R57, R94), the absence counter (R63,
R64) and the forced-cue watch (R91, R99). -/

namespace Sys2Proof.Machine

/-! ### What the pulse hands over and what the queue takes -/

/-- The overrun test adds at most one message, a Fault. -/
theorem Blocks.noteOverrun_queue (b : Blocks) :
    ∃ faults : List FaultBody, b.noteOverrun.link.queue = b.link.queue ++ faults.map .fault ∧ faults.length ≤ 1
      ∧ b.noteOverrun.link.silent = b.link.silent := by
  have hrest : ∃ faults : List FaultBody, b.link.queue = b.link.queue ++ faults.map .fault ∧ faults.length ≤ 1
      ∧ b.link.silent = b.link.silent := ⟨[], (List.append_nil _).symm, Nat.zero_le 1, rfl⟩
  rw [Blocks.noteOverrun_link]
  split
  · obtain ⟨hframe, hqueue | hqueue, -⟩ := b.link.enqueue_frame (.fault (overrunFault b.bc.displayPage b.bc.frame))
    · rw [hqueue, hframe]
      exact hrest
    · refine ⟨[_], hqueue, Nat.le_refl 1, ?_⟩
      rw [hframe]
  · exact hrest

/-- The first of a pulse's messages are in the queue when there is room for them. -/
theorem State.Becomes.strobe_takes {s t : State}
    (h : s.Becomes s.station.scene s.station.pulseTimers s.station.strobedBlocks t) {ms rest : List Message}
    (hms : s.station.strobed.pulseMessages = ms ++ rest) (hs : s.station.blocks.link.silent = false)
    (hq : s.station.blocks.noteOverrun.link.queue.length + ms.length ≤ 8) :
    s.station.blocks.noteOverrun.link.queue ++ ms <+: t.station.blocks.link.queue := by
  obtain ⟨_, -, -, hsilent⟩ := s.station.blocks.noteOverrun_queue
  have hpulse : s.station.strobedBlocks.link = (s.station.blocks.noteOverrun.link.enqueueAll ms).enqueueAll rest := by
    rw [← Link.enqueueAll_append, ← hms, ← Station.strobed_link]
    rfl
  rw [Link.enqueueAll_room (hsilent.trans hs) hq] at hpulse
  have hprefix := (Link.extends_enqueueAll rest { s.station.blocks.noteOverrun.link with
    queue := s.station.blocks.noteOverrun.link.queue ++ ms }).2.1
  rw [← hpulse] at hprefix
  exact hprefix.trans h.2.1.isPrefix

theorem Blocks.noteOverrun_length (b : Blocks) : b.noteOverrun.link.queue.length ≤ b.link.queue.length + 1 := by
  obtain ⟨faults, hqueue, hlength, -⟩ := b.noteOverrun_queue
  rw [hqueue, List.length_append, List.length_map]
  omega

theorem expireDue_length (kind : Nat) (t : Option Timer) : (expireDue kind t).length ≤ 1 := by
  unfold expireDue
  split
  · exact Nat.zero_le 1
  · split
    · exact Nat.le_refl 1
    · exact Nat.zero_le 1

theorem expireDue_of_some {u : Timer} (kind : Nat) (h : u.remaining ≤ 1) :
    expireDue kind (some u) = [.expire { timer := kind, tag := u.tag }] := if_pos h

theorem expireDue_of_rest {t : Option Timer} (kind : Nat) (h : timerDue t = false) : expireDue kind t = [] := by
  cases t with
  | none => rfl
  | some u => exact if_neg (of_decide_eq_false h)

theorem mem_expireDue {kind : Nat} {t : Option Timer} {b : ExpireBody} (h : .expire b ∈ expireDue kind t) :
    b.timer = kind ∧ timerDue t = true := by
  cases hdue : timerDue t with
  | false =>
    rw [expireDue_of_rest kind hdue] at h
    cases h
  | true =>
    cases t with
    | none => cases h
    | some u =>
      rw [expireDue_of_some kind (of_decide_eq_true hdue)] at h
      simp only [List.mem_singleton, Message.expire.injEq] at h
      exact ⟨by rw [h], rfl⟩

theorem timerTick_of_le {u : Timer} (h : u.remaining ≤ 1) : timerTick (some u) = none := if_pos h

theorem timerTick_of_more {u : Timer} (h : 2 ≤ u.remaining) :
    timerTick (some u) = some { u with remaining := u.remaining - 1 } := if_neg (by omega)

/-! ### The viewer timers -/

/-- The viewer timers by the kind that their Expire names (R38, R39, R89). -/
def Timers.viewer (kind : Nat) (t : Timers) : Option Timer :=
  match kind with
  | 0 => t.pageTimeout
  | 1 => t.hold
  | _ => t.slideDuration

theorem Station.pulseTimers_viewer (kind : Nat) (st : Station) :
    st.pulseTimers.viewer kind = timerTick (st.timers.viewer kind) := by
  unfold Timers.viewer
  split <;> rfl

/-- The Expires of a pulse are those of the timers that it ends. -/
theorem Station.expire_mem_pulseMessages {st : Station} {b : ExpireBody} (h : .expire b ∈ st.pulseMessages) :
    timerDue (st.timers.viewer b.timer) = true := by
  have hpage : Message.expire b ∉ st.pageOverdue := by
    unfold Station.pageOverdue
    split
    · exact List.not_mem_nil
    · split <;> simp
  have hslide : Message.expire b ∉ st.slideOverdue := by
    unfold Station.slideOverdue
    split
    · exact List.not_mem_nil
    · split <;> simp
  have hhits : Message.expire b ∉ st.forcedHits := by
    unfold Station.forcedHits
    split <;> simp
  have hclaim : Message.expire b ∉ st.claimDue := by
    unfold Station.claimDue
    split <;> simp
  simp only [Station.pulseMessages, List.mem_append, hpage, hslide, hhits, hclaim, or_false, or_assoc] at h
  rcases h with h | h | h <;> obtain ⟨hkind, hdue⟩ := mem_expireDue h <;> rw [hkind] <;> exact hdue

theorem timerDue_of_le {t : Option Timer} {u : Timer} (ht : t = some u) (h : u.remaining ≤ 1) : timerDue t = true := by
  rw [ht]
  exact decide_eq_true h

theorem timerDue_of_more {t : Option Timer} {u : Timer} (ht : t = some u) (h : 2 ≤ u.remaining) : timerDue t = false := by
  rw [ht]
  exact decide_eq_false (by omega)

/-- A viewer timer's Expire reaches the queue when it has room for an overrun Fault and all three. -/
theorem viewerTimer_expires {s : State} {u : Timer} {kind : Nat} (hkind : kind < 3) (hruns : s.station.Runs)
    (hu : u.remaining ≤ 1) (hs : s.station.blocks.link.silent = false) (hq : s.station.blocks.link.queue.length ≤ 4)
    (ht : s.station.timers.viewer kind = some u) :
    ∃ t, s.event (fun st => st.strobeWhen (timerDue (st.timers.viewer kind))) = .next t ∧ exec .frameStrobe s = .next t
      ∧ t.station.timers.viewer kind = none ∧ .expire { timer := kind, tag := u.tag } ∈ t.station.blocks.link.queue
      ∧ t.station.scene = s.station.scene := by
  obtain ⟨t, hexec, hbec, -⟩ := frameStrobe_becomes hruns
  have hdue := timerDue_of_le ht hu
  have hms : s.station.strobed.pulseMessages
      = (expireDue 0 s.station.timers.pageTimeout ++ expireDue 1 s.station.timers.hold
          ++ expireDue 2 s.station.timers.slideDuration)
        ++ (s.station.strobed.pageOverdue ++ s.station.strobed.slideOverdue ++ s.station.strobed.forcedHits
          ++ s.station.strobed.claimDue) := by
    simp only [Station.pulseMessages, List.append_assoc]
    rfl
  have hlength := s.station.blocks.noteOverrun_length
  have h0 := expireDue_length 0 s.station.timers.pageTimeout
  have h1 := expireDue_length 1 s.station.timers.hold
  have h2 := expireDue_length 2 s.station.timers.slideDuration
  have htakes := hbec.strobe_takes hms hs (by simp only [List.length_append]; omega)
  have hmem : Message.expire { timer := kind, tag := u.tag } ∈ expireDue kind (s.station.timers.viewer kind) := by
    rw [ht, expireDue_of_some kind hu]
    exact List.mem_singleton.mpr rfl
  refine ⟨t, (strobeWhen_due (due := fun st => timerDue (st.timers.viewer kind)) hruns hdue).trans hexec, hexec, ?_,
    htakes.subset (List.mem_append_right _ ?_), hbec.scene_eq⟩
  · rw [hbec.timers_eq, Station.pulseTimers_viewer, timerTick_of_due hdue]
  · rw [List.mem_append, List.mem_append]
    match kind, hkind with
    | 0, _ => exact .inl (.inl hmem)
    | 1, _ => exact .inl (.inr hmem)
    | 2, _ => exact .inr hmem

/-- A viewer timer that goes on has no Expire of its kind among what a pulse adds: neither the overrun test nor the end of the
event queues one. -/
theorem viewerTimer_counts {st : Station} {u : Timer} {kind : Nat} {faults : List FaultBody} {pulse ends : List Message}
    (hpulse : pulse.Sublist st.strobed.pulseMessages) (hends : ∀ m ∈ ends, m.endsEvent = true) (hu : 2 ≤ u.remaining)
    (ht : st.timers.viewer kind = some u) :
    st.pulseTimers.viewer kind = some { u with remaining := u.remaining - 1 }
      ∧ ∀ tag, .expire { timer := kind, tag := tag } ∉ faults.map .fault ++ (pulse ++ ends) := by
  refine ⟨by rw [Station.pulseTimers_viewer, ht, timerTick_of_more hu], fun tag h => ?_⟩
  rcases List.mem_append.mp h with h | h
  · simp at h
  rcases List.mem_append.mp h with h | h
  · have hdue := Station.expire_mem_pulseMessages (hpulse.subset h)
    exact Bool.false_ne_true ((timerDue_of_more ht hu).symm.trans hdue)
  · exact Bool.noConfusion (hends _ h)

/-- Settles O10: the three timers' own parts of the pulse. -/
theorem viewerTimersCountAndExpire : Obligations.ViewerTimersCountAndExpire := by
  refine ⟨fun s u hruns hu hs hq => ?_, fun s u hruns hu => ?_⟩
  · exact ⟨viewerTimer_expires (kind := 0) (by decide) hruns hu hs hq,
      viewerTimer_expires (kind := 1) (by decide) hruns hu hs hq, viewerTimer_expires (kind := 2) (by decide) hruns hu hs hq⟩
  · obtain ⟨t, hexec, hbec, -⟩ := frameStrobe_becomes hruns
    obtain ⟨pulse, ends, hqueue, hpulse, hends⟩ := hbec.strobe_queue
    obtain ⟨faults, hfaults, -, -⟩ := s.station.blocks.noteOverrun_queue
    rw [hfaults, List.append_assoc, List.append_assoc] at hqueue
    refine ⟨t, _, hexec, hqueue, ?_⟩
    rw [hbec.timers_eq]
    exact ⟨viewerTimer_counts (kind := 0) hpulse hends hu,
      viewerTimer_counts (kind := 1) hpulse hends hu, viewerTimer_counts (kind := 2) hpulse hends hu⟩

/-! ### The prepare limits -/

theorem Station.strobed_frame (st : Station) : st.strobed.blocks.bc.frame = st.blocks.bc.frame + 1 := by
  rw [Station.strobed_bc]

theorem Station.strobed_pageOverdue {st : Station} {p : Nat} (hp : st.scene.pendingPage = some p)
    (hdue : timerDue st.timers.pagePrepare = true) (hm : st.timers.pageMark = false) :
    st.strobed.pageOverdue
      = [.switch { stream := 0, index := p, change := st.scene.pageChange, target := st.blocks.bc.frame + 1 + 2
                   partialFlag := 1 },
          .fault (overdueFault .page st.scene.pageChange (st.scene.missing st.scene.pageReady))] := by
  have hbody : st.strobed.pageSwitchBody true p = { stream := 0, index := p, change := st.scene.pageChange
                                                    target := st.blocks.bc.frame + 1 + 2, partialFlag := 1 } := by
    unfold Station.pageSwitchBody
    rw [Station.strobed_frame]
    rfl
  unfold Station.pageOverdue
  rw [show st.strobed.scene.pendingPage = some p from hp]
  dsimp only
  rw [if_pos (show _ = true by rw [show timerDue st.strobed.timers.pagePrepare = true from hdue,
    show st.strobed.timers.pageMark = false from hm]; rfl), hbody]
  rfl

theorem Station.strobed_slideOverdue {st : Station} {i : Nat} (hi : st.scene.pendingIndex = some i)
    (hdue : timerDue st.timers.slidePrepare = true) (hm : st.timers.slideMark = false) :
    st.strobed.slideOverdue
      = [.switch { stream := 1, index := i, change := st.scene.slideChange, target := st.blocks.bc.frame + 1 + 2
                   partialFlag := 1 },
          .fault (overdueFault .slide st.scene.slideChange (st.scene.missing st.scene.slideReady))] := by
  have hbody : st.strobed.slideSwitchBody true i = { stream := 1, index := i, change := st.scene.slideChange
                                                     target := st.blocks.bc.frame + 1 + 2, partialFlag := 1 } := by
    unfold Station.slideSwitchBody
    rw [Station.strobed_frame]
    rfl
  unfold Station.slideOverdue
  rw [show st.strobed.scene.pendingIndex = some i from hi]
  dsimp only
  rw [if_pos (show _ = true by rw [show timerDue st.strobed.timers.slidePrepare = true from hdue,
    show st.strobed.timers.slideMark = false from hm]; rfl), hbody]
  rfl

theorem Station.pageOverdue_of_rest {st : Station} (h : timerDue st.timers.pagePrepare = false) : st.pageOverdue = [] := by
  unfold Station.pageOverdue
  split
  · rfl
  · rw [h]
    rfl

theorem Station.slideOverdue_of_rest {st : Station} (h : timerDue st.timers.slidePrepare = false) : st.slideOverdue = [] := by
  unfold Station.slideOverdue
  split
  · rfl
  · rw [h]
    rfl

theorem exec_prepareLimitExpiry (stream : Stream) (s : State) :
    exec (.prepareLimitExpiry stream) s = s.event (fun st => st.strobeWhen (st.prepareDue stream)) := rfl

/-- Two messages of the pulse that come after the Expires reach the queue when it has room for those and an overrun Fault. -/
theorem State.Becomes.strobe_infix {s t : State}
    (h : s.Becomes s.station.scene s.station.pulseTimers s.station.strobedBlocks t) {ms rest : List Message}
    (hms : s.station.strobed.pulseMessages
      = (expireDue 0 s.station.timers.pageTimeout ++ expireDue 1 s.station.timers.hold
          ++ expireDue 2 s.station.timers.slideDuration) ++ ms ++ rest)
    (hlength : ms.length = 2) (hs : s.station.blocks.link.silent = false) (hq : s.station.blocks.link.queue.length ≤ 2) :
    ms <:+: t.station.blocks.link.queue := by
  have hover := s.station.blocks.noteOverrun_length
  have h0 := expireDue_length 0 s.station.timers.pageTimeout
  have h1 := expireDue_length 1 s.station.timers.hold
  have h2 := expireDue_length 2 s.station.timers.slideDuration
  obtain ⟨tail, htail⟩ := h.strobe_takes hms hs (by simp only [List.length_append]; omega)
  refine ⟨s.station.blocks.noteOverrun.link.queue ++ (expireDue 0 s.station.timers.pageTimeout
    ++ expireDue 1 s.station.timers.hold ++ expireDue 2 s.station.timers.slideDuration), tail, ?_⟩
  rw [← htail]
  simp only [List.append_assoc]

/-- Settles O11: the prepare-limit parts of the pulse, whose messages come after the Expires of the viewer timers. -/
theorem prepareLimitClosesTheChange : Obligations.PrepareLimitClosesTheChange := by
  intro s u hruns hu hs hq
  obtain ⟨t, hexec, hbec, -⟩ := frameStrobe_becomes hruns
  refine ⟨fun p hp hm hpend => ?_, fun i hi hm hpend hpage => ?_⟩
  · have htimer := timerDue_of_le hp hu
    have hdue : s.station.prepareDue .page = true := by
      unfold Station.prepareDue
      dsimp only
      rw [htimer, hm, hpend]
      rfl
    refine ⟨t, (strobeWhen_due (due := Station.prepareDue .page) hruns hdue).trans hexec, hexec, ?_, ?_, hbec.scene_eq, ?_⟩
    · rw [hbec.timers_eq]
      exact timerTick_of_due htimer
    · rw [hbec.timers_eq]
      exact (congrArg (_ || ·) hdue).trans (Bool.or_true _)
    · rw [← Station.strobed_pageOverdue hpend htimer hm]
      refine hbec.strobe_infix (rest := s.station.strobed.slideOverdue ++ s.station.strobed.forcedHits
        ++ s.station.strobed.claimDue) ?_ (by rw [Station.strobed_pageOverdue hpend htimer hm]; rfl) hs hq
      simp only [Station.pulseMessages, List.append_assoc]
      rfl
  · have htimer := timerDue_of_le hi hu
    have hdue : s.station.prepareDue .slide = true := by
      unfold Station.prepareDue
      dsimp only
      rw [htimer, hm, hpend]
      rfl
    have hnone : s.station.strobed.pageOverdue = [] := Station.pageOverdue_of_rest (congrArg timerDue hpage)
    refine ⟨t, (strobeWhen_due (due := Station.prepareDue .slide) hruns hdue).trans hexec, hexec, ?_, ?_, hbec.scene_eq, ?_⟩
    · rw [hbec.timers_eq]
      exact timerTick_of_due htimer
    · rw [hbec.timers_eq]
      exact (congrArg (_ || ·) hdue).trans (Bool.or_true _)
    · rw [← Station.strobed_slideOverdue hpend htimer hm]
      refine hbec.strobe_infix (rest := s.station.strobed.forcedHits ++ s.station.strobed.claimDue) ?_
        (by rw [Station.strobed_slideOverdue hpend htimer hm]; rfl) hs hq
      simp only [Station.pulseMessages, List.append_assoc, hnone, List.nil_append]
      rfl

/-! ### The absence counter -/

theorem exec_absenceThreshold (s : State) : exec .absenceThreshold s = s.event (fun st => st.strobeWhen st.absenceDue) := rfl

section Owner

variable {st : Station} (hsp : st.isSpeaker = false) (hwf : st.timersWf = true)
include hsp hwf

/-- A band owner that is not the speaker has no timer but the absence counter (R61, R63). -/
theorem Station.owner_timers :
    st.timers.pageTimeout = none ∧ st.timers.hold = none ∧ st.timers.slideDuration = none ∧ st.timers.pagePrepare = none
      ∧ st.timers.slidePrepare = none := by
  rw [Station.timersWf_eq, hsp, Timers.fit_iff] at hwf
  exact hwf.2 rfl

theorem Station.owner_pulseTimers : st.pulseTimers = { st.timers with absence := st.timers.absence.map (· + 1) } := by
  obtain ⟨h1, h2, h3, h4, h5⟩ := Station.owner_timers hsp hwf
  have hcounts : st.counts = false := by
    unfold Station.counts
    rw [hsp]
    rfl
  have hpage : st.prepareDue .page = false := by
    unfold Station.prepareDue
    dsimp only
    rw [h4]
    rfl
  have hslide : st.prepareDue .slide = false := by
    unfold Station.prepareDue
    dsimp only
    rw [h5]
    rfl
  unfold Station.pulseTimers
  dsimp only
  rw [hcounts, hpage, hslide, h1, h2, h3, h4, h5, Bool.or_false, Bool.or_false]
  rfl

theorem Station.owner_pulseMessages : st.strobed.pulseMessages = st.strobed.claimDue := by
  obtain ⟨h1, h2, h3, h4, h5⟩ := Station.owner_timers hsp hwf
  have hhits : st.strobed.forcedHits = [] := by
    unfold Station.forcedHits Station.counts
    rw [show st.strobed.isSpeaker = false from hsp]
    rfl
  unfold Station.pulseMessages
  rw [Station.pageOverdue_of_rest (st := st.strobed) (congrArg timerDue h4),
    Station.slideOverdue_of_rest (st := st.strobed) (congrArg timerDue h5), hhits,
    show st.strobed.timers = st.timers from rfl, h1, h2, h3]
  rfl

end Owner

/-- Settles O12: a station that is not the speaker has the absence counter alone, and the Claim is all its pulse hands over. -/
theorem absenceRaisesAClaim : Obligations.AbsenceRaisesAClaim := by
  intro s n hruns hsp hwf hn hs hq hclaim
  obtain ⟨t, hexec, hbec, -⟩ := frameStrobe_becomes hruns
  have htimers : t.station.timers = { s.station.timers with absence := some (n + 1) } := by
    rw [hbec.timers_eq, Station.owner_pulseTimers hsp hwf, hn]
    rfl
  have hdue : s.station.absenceDue = decide (n + 1 = s.station.absenceLimit) := by
    unfold Station.absenceDue
    rw [hn]
  refine ⟨fun hreach => ?_, fun hbelow => ?_⟩
  · replace hdue : s.station.absenceDue = true := hdue.trans (decide_eq_true hreach)
    refine ⟨t, (strobeWhen_due (due := Station.absenceDue) hruns hdue).trans hexec, hexec, htimers, ?_, hbec.scene_eq⟩
    obtain ⟨faults, hover, -, -⟩ := s.station.blocks.noteOverrun_queue
    have hnone : s.station.strobed.blocks.link.queue.contains .claim = false := by
      rw [Station.strobed_link, hover]
      simp [hclaim]
    have hmessages : s.station.strobed.pulseMessages = [.claim] ++ [] := by
      rw [Station.owner_pulseMessages hsp hwf]
      unfold Station.claimDue
      rw [hnone, show s.station.strobed.absenceDue = true from hdue]
      rfl
    have hlength := s.station.blocks.noteOverrun_length
    refine (hbec.strobe_takes hmessages hs (by rw [List.length_singleton]; omega)).subset ?_
    exact List.mem_append_right _ (List.mem_singleton.mpr rfl)
  · exact ⟨strobeWhen_rest (due := Station.absenceDue) (hdue.trans (decide_eq_false hbelow)), t, hexec, htimers⟩

/-! ### The forced-cue watch -/

theorem exec_forcedCueWatch (s : State) : exec .forcedCueWatch s = s.event (fun st => st.strobeWhen st.forcedDue) := rfl

/-- Settles O13: with no other timer due, the Cue Hits are the first that the pulse hands over. -/
theorem forcedCuesAreReported : Obligations.ForcedCuesAreReported := by
  intro s hruns hsp hplay hlimit ht hh hd hp hsl hcomposing hs hq hreached
  obtain ⟨t, hexec, hbec, -⟩ := frameStrobe_becomes hruns
  have hcounts : s.station.counts = true := by
    unfold Station.counts
    rw [hsp, hplay, decide_eq_true (show s.station.timers.elapsed < Config.elapsedLimit from hlimit)]
    rfl
  have hdue : s.station.forcedDue = true := by
    unfold Station.forcedDue
    rw [hcounts]
    simpa using hreached
  have hhits : s.station.strobed.forcedHits
      = (reached (s.station.timers.elapsed + 1) 0 s.station.scene.cues).map (fun i =>
          .cueHit { index := i, kind := 0, trigger := s.station.timers.elapsed + 1
                    slide := s.station.scene.current, change := s.station.scene.slideChange }) := if_pos hcounts
  have hmessages : s.station.strobed.pulseMessages = s.station.strobed.forcedHits ++ s.station.strobed.claimDue := by
    unfold Station.pulseMessages
    rw [Station.pageOverdue_of_rest (st := s.station.strobed) hp, Station.slideOverdue_of_rest (st := s.station.strobed) hsl,
      show s.station.strobed.timers = s.station.timers from rfl, expireDue_of_rest 0 ht, expireDue_of_rest 1 hh,
      expireDue_of_rest 2 hd]
    rfl
  have hlink : s.station.blocks.noteOverrun.link = s.station.blocks.link := by
    rw [Blocks.noteOverrun_link, hcomposing]
    rfl
  have htakes := hbec.strobe_takes hmessages hs (by rw [hhits, hlink, List.length_map]; exact hq)
  rw [hhits, hlink] at htakes
  refine ⟨t, (strobeWhen_due (due := Station.forcedDue) hruns hdue).trans hexec, hexec, hbec.scene_eq, ?_, htakes⟩
  rw [hbec.timers_eq]
  exact if_pos hcounts

end Sys2Proof.Machine

/-! The Answers to an Ask (R172, R181 to R186). -/

namespace Sys2Proof.Machine

theorem exec_ask (src station topic arg : Nat) (s : State) :
    exec (.ask src station topic arg) s = s.event (Station.close src none (Station.applyAsk src station topic arg)) := rfl

/-- A message command at a station that frames: when its rule leaves these blocks alone changed, so does the command, but for the
end of the event. -/
theorem State.close_frames {s : State} {rule : Station → Station} {b : Blocks} (hf : s.station.framing = true)
    (hr : rule (s.station.heard 0 none) = { s.station with blocks := b }) :
    ∃ t, s.event (Station.close 0 none rule) = .next t ∧ s.Becomes s.station.scene s.station.timers b t := by
  obtain ⟨c, hc, hw⟩ := Station.settle_eq { s.station with blocks := b } s.station
  refine ⟨_, rfl, ?_⟩
  rw [Station.close_framing hf]
  change s.Becomes _ _ _ { s with station := (rule (s.station.heard 0 none)).settle s.station }
  rw [hr, hc]
  exact ⟨rfl, hw⟩

/-! ### The Answer -/

section Answer

variable {st : Station} {arg : Nat}

theorem Station.applyAsk_of_ne {src station : Nat} (topic : Nat) (h : src ≠ 0 ∨ station ≠ st.number) :
    st.applyAsk src station topic arg = st := by
  refine if_neg fun hs => ?_
  rcases h with h | h
  · exact h hs.1
  · exact h hs.2

theorem Station.applyAsk_other {topic : Nat} (h : topic ≠ 0) :
    st.applyAsk 0 st.number topic arg = st.enqueue (.answer (st.answer topic arg)) := by
  unfold Station.applyAsk Station.giveAnswer
  rw [if_pos ⟨rfl, rfl⟩, if_neg h]

theorem Link.enqueue_full {l : Link} (hs : l.silent = false) (hq : 8 ≤ l.queue.length) (m : Message) :
    l.enqueue m = { l with overflow := true } := by
  unfold Link.enqueue
  rw [if_neg (Bool.eq_false_iff.mp hs)]
  exact if_pos hq

/-- The link after the Answer to Station Status: the flag is taken where the Answer found room (R172). -/
def Link.answered (m : Message) (l : Link) : Link :=
  if l.silent then l
  else if l.queue.length < 8 then { l with overflow := false, queue := l.queue ++ [m] }
  else { l with overflow := true }

theorem Link.takeOverflow_enqueue (m : Message) (l : Link) : l.takeOverflow.enqueue m = l.answered m := by
  unfold Link.answered
  by_cases hs : l.silent = true
  · rw [if_pos hs, show l.takeOverflow = l from if_pos hs]
    exact Link.enqueue_silent hs m
  · rw [if_neg hs, show l.takeOverflow = { l with overflow := false } from if_neg hs]
    rw [Bool.not_eq_true] at hs
    by_cases hq : l.queue.length < 8
    · rw [if_pos hq]
      exact Link.enqueue_room (l := { l with overflow := false }) hs hq m
    · rw [if_neg hq]
      exact Link.enqueue_full (l := { l with overflow := false }) hs (Nat.not_lt.mp hq) m

theorem Station.applyAsk_status :
    st.applyAsk 0 st.number 0 arg
      = { st with blocks := { st.blocks with
            link := st.blocks.link.answered
              (.answer { topic := 0, argument := arg, busy := false, data := st.statusData }) } } := by
  rw [← Link.takeOverflow_enqueue]
  unfold Station.applyAsk
  rw [if_pos ⟨rfl, rfl⟩]
  rfl

theorem Station.answer_unknown {topic : Nat} (h : 4 ≤ topic ∨ (st.mode ≠ .running ∧ topic ≠ 0)) :
    topic ≠ 0 ∧ st.answer topic arg = { topic := topic, argument := arg, busy := true, data := .empty } := by
  have hne : topic ≠ 0 := h.elim (fun h4 => by omega) And.right
  refine ⟨hne, ?_⟩
  unfold Station.answer
  rw [if_neg hne]
  split
  · next hm =>
    have h4 : 4 ≤ topic := h.resolve_right fun hr => hr.1 hm
    match topic, h4 with
    | n + 4, _ => rfl
  · rfl

theorem Station.answer_asset (hm : st.mode = .running) :
    st.answer 1 arg = { topic := 1, argument := arg, busy := st.blocks.decode.worksOn arg
                        data := st.blocks.store.assetData arg } := by
  unfold Station.answer
  exact (if_neg (by decide)).trans (if_pos hm)

theorem Station.answer_digest (hm : st.mode = .running) :
    st.answer 2 arg = { topic := 2, argument := arg, busy := st.scene.changing, data := st.scene.digestData } := by
  unfold Station.answer
  exact (if_neg (by decide)).trans (if_pos hm)

theorem Station.answer_page (hm : st.mode = .running) :
    st.answer 3 arg = { topic := 3, argument := arg, busy := false, data := st.scene.pageData arg } := by
  unfold Station.answer
  exact (if_neg (by decide)).trans (if_pos hm)

end Answer

/-! ### What the Answers carry -/

theorem Decode.worksOn_iff (a : Nat) (d : Decode) :
    d.worksOn a = true ↔ (∃ j, d.running = some (.page j) ∧ j.id.asset = a)
      ∨ (∃ q i stopping, d.running = some (.batch q i stopping) ∧ q.content.asset = a)
      ∨ ∃ c k, d.running = some (.check c k) ∧ k.asset = a := by
  unfold Decode.worksOn
  match d.running with
  | none => simp
  | some (.page j) => simp [Running.strip]
  | some (.batch q i stopping) => simp [Running.strip]
  | some (.check c k) => simp [Running.strip]

theorem Store.assetData_eq (a : Nat) (s : Store) :
    s.assetData a = match s.asset a with
      | none => .asset none none 0 0 0 0 0
      | some r => .asset (some r.width) (some r.height)
          (s.packed.filter (fun e => decide (e.id.asset = a ∧ e.state = .held))).length
          (s.packed.filter (fun e => decide (e.id.asset = a ∧ e.state = .skipped))).length
          (s.packed.filter (fun e => decide (e.id.asset = a ∧ e.state = .bad ∧ e.failures = 1))).length
          (s.packed.filter (fun e => decide (e.id.asset = a ∧ e.state = .bad ∧ 2 ≤ e.failures))).length
          (s.opened.filter (fun e => decide (e.id.asset = a ∧ e.ready = true))).length := by
  unfold Store.assetData Store.countPacked
  cases s.asset a with
  | none => rfl
  | some r => simp only [Bool.decide_and, Bool.decide_eq_true, beq_eq_decide]

theorem Scene.pageData_eq (p : Nat) (sc : Scene) :
    sc.pageData p = if 63 < p then .page none false false false 0 0 [] []
      else match sc.pages.getD p .undefined with
        | .undefined => .page (some 0) (decide (sc.shown = some p)) (decide (sc.pendingPage = some p))
            (decide (sc.leaving = some p)) 0 0 [] []
        | .defining b => .page (some 1) (decide (sc.shown = some p)) (decide (sc.pendingPage = some p))
            (decide (sc.leaving = some p)) b.header.buttons b.header.pictures (b.buttons.map Button.id) (b.pictures.map Picture.id)
        | .complete b => .page (some 2) (decide (sc.shown = some p)) (decide (sc.pendingPage = some p))
            (decide (sc.leaving = some p)) b.header.buttons b.header.pictures (b.buttons.map Button.id)
            (b.pictures.map Picture.id) := by
  unfold Scene.pageData
  refine if_congr Iff.rfl rfl ?_
  cases sc.pages.getD p .undefined <;> rfl

/-- Station Status at a station that frames: the three station states that answer (R182). -/
theorem Station.statusData_eq {st : Station} (hf : st.framing = true) :
    st.statusData = .status (if st.mode = .joining then 0 else if st.mode = .running then 1 else 2)
      (decide (st.mode = .running ∧ st.scene.speaker = some st.number)) st.blocks.link.overflow st.blocks.bc.overrun
      st.blocks.bc.lateCount st.blocks.store.freeUnits st.blocks.link.queue.length
      (st.blocks.decode.pageJobs.length + (if st.blocks.decode.batch.isSome then 1 else 0)
        + (if st.blocks.decode.check.isSome then 1 else 0)) st.blocks.decode.suspended.isSome := by
  have hcode : st.mode.code = if st.mode = .joining then 0 else if st.mode = .running then 1 else 2 := by
    unfold Station.framing at hf
    cases hm : st.mode with
    | joining => rfl
    | running => rfl
    | spare => rfl
    | uncalibrated => rw [hm] at hf; simp [Mode.frames] at hf
    | strapFault => rw [hm] at hf; simp [Mode.frames] at hf
  unfold Station.statusData Station.isSpeaker Decode.depth
  rw [hcode, Bool.decide_and]

theorem Link.answered_full {m : Message} {l : Link} (h : l.silent = true ∨ 3 ≤ l.queue.length) :
    (l.answered m).silent = true ∨ 4 ≤ (l.answered m).queue.length := by
  unfold Link.answered
  split
  · next hs => exact .inl hs
  · next hs =>
    have hq : 3 ≤ l.queue.length := h.resolve_left hs
    split
    · right
      rw [List.length_append, List.length_singleton]
      omega
    · right
      show 4 ≤ l.queue.length
      omega

/-- With a job in progress, nothing pending and no Want to queue, an event that changes the link alone leaves it so. -/
theorem Blocks.settle_link {g : Geometry} {sc : Scene} {b : Blocks} {before : Blocks} {r : Running}
    (hr : b.decode.running = some r) (hd : b.decode.deferred = false) (hw : b.store.roomWait = [])
    (hp : sc.pendingPage = none) (hi : sc.pendingIndex = none) (hbc : b.bc = before.bc) (hdec : b.decode = before.decode)
    (hwant : (b.link.silent = true ∨ 4 ≤ b.link.queue.length) ∨ takeWant b.store.outstanding b.store.wants = none) :
    Blocks.settle g sc sc before b = b := by
  rw [Blocks.settle_busy hr hw hd (prefetchDue_same hbc (hdec ▸ id)), Blocks.pageReadiness_none hp, Blocks.slideReadiness_none hi]
  exact hwant.elim Blocks.queueWants_full Blocks.queueWants_none

/-- Settles O50: the Answer by its topic, handed over at the close; Station Status with the link it leaves. -/
theorem askQueuesAnAnswer : Obligations.AskQueuesAnAnswer := by
  intro s arg b hf hb
  subst hb
  have hother : ∀ topic a, topic ≠ 0 → (s.station.heard 0 none).answer topic arg = a →
      ∃ t, exec (.ask 0 s.station.number topic arg) s = .next t
        ∧ s.Becomes s.station.scene s.station.timers ((s.station.closed 0 none).enqueue (.answer a)) t := by
    rintro topic _ hne rfl
    exact State.close_frames hf (Station.applyAsk_other (st := s.station.heard 0 none) hne)
  refine ⟨fun m answered after hm hanswered hafter => ?_, fun hmode => ?_, fun busy data hmode hbusy hdata => ?_,
    fun data hmode hdata => ?_, fun topic htopic => ?_, fun src station topic hne => ?_⟩
  · have hframes : (s.station.heard 0 none).framing = true := by
      have hrx : (s.station.heard 0 none).blocks.link.rx = .idle := by rw [Station.heard_none]
      unfold Station.framing at hf ⊢
      simp only [Bool.and_eq_true] at hf ⊢
      exact ⟨hf.1, by rw [hrx]; rfl⟩
    have hrule : (s.station.heard 0 none).applyAsk 0 s.station.number 0 arg
        = { s.station with blocks := { s.station.closed 0 none with link := answered } } := by
      rw [hanswered, hm]
      exact (Station.applyAsk_status (st := s.station.heard 0 none)).trans (by rw [Station.statusData_eq hframes]; rfl)
    refine ⟨State.close_frames hf hrule, fun hmode => ?_, fun r hmode hr hd hw hp hi hwant => ?_⟩
    · rw [hafter]
      refine State.close_exactly hf hrule (Station.settle_of_not_running ?_ _)
      rcases hmode with h | h <;> simp [h]
    · rw [hafter]
      refine State.close_exactly hf hrule ?_
      unfold Station.settle
      rw [if_pos (show _ = Mode.running from hmode)]
      have hfull : (answered.silent = true ∨ 4 ≤ answered.queue.length)
          ∨ takeWant (s.station.closed 0 none).store.outstanding (s.station.closed 0 none).store.wants = none := by
        rcases hwant with h | h | h
        · exact .inl (hanswered ▸ Link.answered_full (.inl h))
        · exact .inl (hanswered ▸ Link.answered_full (.inr h))
        · rw [h]
          exact .inr rfl
      exact congrArg (fun c => { s.station with blocks := c })
        (Blocks.settle_link (b := { s.station.closed 0 none with link := answered }) hr hd hw hp hi rfl rfl hfull)
  · exact hother 2 _ (by decide) (Station.answer_digest (st := s.station.heard 0 none) hmode)
  · refine hother 1 _ (by decide) ((Station.answer_asset (st := s.station.heard 0 none) hmode).trans ?_)
    have hworks : (s.station.heard 0 none).blocks.decode.worksOn arg = busy :=
      Bool.eq_iff_iff.mpr ((Decode.worksOn_iff _ _).trans hbusy.symm)
    have hasset : (s.station.heard 0 none).blocks.store.assetData arg = data := (Store.assetData_eq arg _).trans hdata.symm
    rw [hworks, hasset]
  · refine hother 3 _ (by decide) ((Station.answer_page (st := s.station.heard 0 none) hmode).trans ?_)
    have hpage : (s.station.heard 0 none).scene.pageData arg = data := (Scene.pageData_eq arg _).trans hdata.symm
    rw [hpage]
  · obtain ⟨hne, hanswer⟩ := Station.answer_unknown (st := s.station.heard 0 none) (arg := arg) htopic
    exact hother topic _ hne hanswer
  · exact State.close_ignored hf fun _ => Station.applyAsk_of_ne (st := s.station.heard src none) topic hne

end Sys2Proof.Machine

/-! A Check addressed to the station (R124, R136, R137). -/

namespace Sys2Proof.Machine

theorem exec_check (src station first count : Nat) (s : State) :
    exec (.check src station first count) s
      = s.event (Station.close src none (Station.whenRunning (Station.applyCheck src station first count))) := rfl

/-- A message command at a station that listens, with the end of its event by name. -/
theorem State.close_settled {s : State} {src : Nat} {own : Option Message} {rule : Station → Station} {b : Blocks}
    (h : s.station.Listens) (hs : src < 6) (hr : rule (s.station.heard src own) = { s.station with blocks := b }) :
    ∃ t, s.event (Station.close src own (Station.whenRunning rule)) = .next t
      ∧ s.Becomes s.station.scene s.station.timers b t
      ∧ t.station.blocks = Blocks.settle s.station.geometry s.station.scene s.station.scene s.station.blocks b := by
  have hexec := State.close_settles h hs hr
  have hblocks := Station.settle_running (st := { s.station with blocks := b }) h.1 s.station
  refine ⟨_, hexec, ⟨?_, ?_⟩, hblocks⟩
  · show ({ s with station := ({ s.station with blocks := b } : Station).settle s.station } : State) = _
    obtain ⟨c, hc, -⟩ := Station.settle_eq { s.station with blocks := b } s.station
    rw [hc]
  · show Blocks.Worked b (({ s.station with blocks := b } : Station).settle s.station).blocks
    rw [hblocks]
    exact Blocks.settle_worked _ _ _ _ _

/-- The end of an event whose choices come to rest, with the room-wait list empty, no offer deferred and no prefetch test due:
readiness and Wants are left. -/
theorem Blocks.settle_chosen {g : Geometry} {scBefore sc : Scene} {before b c : Blocks}
    (h : b.chooseJobs sc chooseBound = c) (hc : c.chooseJobs sc chooseBound = c) (hw : b.store.roomWait = [])
    (hd : c.decode.deferred = false) (hp : prefetchDue scBefore sc before c = false) :
    Blocks.settle g scBefore sc before b = ((c.pageReadiness sc).slideReadiness sc).queueWants := by
  unfold Blocks.settle
  dsimp only
  rw [Blocks.retryRoom_empty hw, h, Blocks.refill_clear hd, hc, hp]
  rfl

/-- The readiness tests and the Wants leave the work of the Decode Unit. -/
theorem Blocks.ended_keepsWork (sc : Scene) (c : Blocks) :
    c.decode.KeepsWork ((c.pageReadiness sc).slideReadiness sc).queueWants.decode := by
  rw [Blocks.queueWants_decode]
  exact Decode.keepsWork_trans (Blocks.pageReadiness_keepsWork sc _) (Blocks.slideReadiness_keepsWork sc _)

theorem Blocks.ended_worked (sc : Scene) (c : Blocks) :
    Blocks.Worked c ((c.pageReadiness sc).slideReadiness sc).queueWants :=
  Blocks.worked_trans (Blocks.worked_pageReadiness sc _)
    (Blocks.worked_trans (Blocks.worked_slideReadiness sc _) (Blocks.worked_queueWants _))

/-- One choice, and then those that come to rest. -/
theorem Blocks.chooseJobs_next {sc : Scene} {n : Nat} {b c : Blocks} (h : b.chooseOne sc = some c)
    (hc : c.chooseJobs sc n = c) : b.chooseJobs sc (n + 1) = c := by
  unfold Blocks.chooseJobs
  rw [h]
  exact hc

/-! ### The rule -/

theorem Decode.checking_iff (d : Decode) :
    d.checking = true ↔ d.check.isSome = true ∨ ∃ c k, d.running = some (.check c k) := by
  unfold Decode.checking
  rw [Bool.or_eq_true]
  refine or_congr Iff.rfl ?_
  match d.running with
  | none => simp
  | some (.page j) => simp
  | some (.batch q i stopping) => simp
  | some (.check c k) => simp

section Rule

variable {first count : Nat} {st : Station}

theorem Station.applyCheck_of_ne {src station : Nat} (h : src ≠ 0 ∨ station ≠ st.number) :
    st.applyCheck src station first count = st := if_pos h

theorem Station.applyCheck_busy (h : st.blocks.decode.checking = true) :
    st.applyCheck 0 st.number first count = st.enqueue (.fault (checkBusyFault first count)) := by
  unfold Station.applyCheck
  rw [if_neg (by simp), if_pos h]

theorem Station.applyCheck_empty (h : st.blocks.decode.checking = false) (hf : 1023 < first) :
    st.applyCheck 0 st.number first count
      = st.enqueue (.checkDone { checked := 0, bad := 0, firstBad := none, remaining := 0 }) := by
  unfold Station.applyCheck
  rw [if_neg (by simp), if_neg (by simp [h]), if_pos hf]
  rfl

theorem Station.applyCheck_queued (h : st.blocks.decode.checking = false) (hf : first ≤ 1023) :
    st.applyCheck 0 st.number first count
      = { st with blocks := { st.blocks with
          decode := { st.blocks.decode with check := some (checkJobOf first count) } } } := by
  unfold Station.applyCheck
  rw [if_neg (by simp), if_neg (by simp [h]), if_neg (by omega)]
  rfl

end Rule

/-! ### The Check taken up -/

/-- The Held strips of a Check that has just been queued (R137). -/
theorem Store.unchecked_job (first count : Nat) (s : Store) :
    s.unchecked (checkJobOf first count)
      = s.packed.filter (fun e => decide (e.state = .held ∧ first ≤ e.id.asset ∧ e.id.asset < (checkJobOf first count).stop)) := by
  refine List.filter_congr fun e _ => ?_
  unfold CheckJob.ahead
  rw [show (checkJobOf first count).position = none from rfl]
  rw [Bool.eq_iff_iff, show (checkJobOf first count).first = first from rfl]
  simp

theorem Blocks.takeCheck_none {c : CheckJob} {b : Blocks} (h : b.store.unchecked c = []) :
    b.takeCheck c = b.enqueue (.checkDone (c.report 0)) := by
  unfold Blocks.takeCheck
  rw [h]

theorem Blocks.takeCheck_some {c : CheckJob} {e : Packed} {rest : List Packed} {b : Blocks}
    (h : b.store.unchecked c = e :: rest) :
    b.takeCheck c = { b with decode := { b.decode with running := some (.check c e.id) } } := by
  unfold Blocks.takeCheck
  rw [h]
  rfl

section Idle

variable {g : Geometry} {sc : Scene} {c : CheckJob} {b before : Blocks} (hr : b.decode.running = none)
  (hj : b.decode.pageJobs = []) (hs : b.decode.suspended = none) (hb : b.decode.batch = none) (hc : b.decode.check = some c)
include hr hj hs hb hc

/-- A unit with nothing else to do takes the Check in hand (R124). -/
theorem Blocks.chooseOne_check :
    b.chooseOne sc = some (Blocks.takeCheck c { b with decode := { b.decode with check := none } }) := by
  unfold Blocks.chooseOne
  rw [hr, hj, hs, hb, hc]
  rfl

variable (hw : b.store.roomWait = []) (hd : b.decode.deferred = false)
  (hdue : ∀ d : Blocks, d.bc = b.bc → prefetchDue sc sc before d = false)
include hw hd hdue

/-- At the event's end the Check begins with the first Held strip of its range. -/
theorem Blocks.settle_check_begins {e : Packed} {rest : List Packed} (hu : b.store.unchecked c = e :: rest) :
    (Blocks.settle g sc sc before b).decode.check = none
      ∧ (Blocks.settle g sc sc before b).decode.running = some (.check c e.id) := by
  have hone := Blocks.chooseOne_check (sc := sc) hr hj hs hb hc
  rw [Blocks.takeCheck_some (b := { b with decode := { b.decode with check := none } }) hu] at hone
  rw [Blocks.settle_choose hone rfl hw hd (hdue _ rfl)]
  obtain ⟨hrunning, hcheck, -⟩ := Blocks.ended_keepsWork sc
    { b with decode := { b.decode with check := none, running := some (.check c e.id) } }
  exact ⟨hcheck, hrunning⟩

/-- Without one its Check Done goes out, before the other messages of the event's end. -/
theorem Blocks.settle_check_ends (hu : b.store.unchecked c = []) :
    (Blocks.settle g sc sc before b).decode.check = none ∧ (Blocks.settle g sc sc before b).decode.running = none
      ∧ (b.link.enqueue (.checkDone (c.report 0))).queue <+: (Blocks.settle g sc sc before b).link.queue := by
  have hone := Blocks.chooseOne_check (sc := sc) hr hj hs hb hc
  rw [Blocks.takeCheck_none (b := { b with decode := { b.decode with check := none } }) hu] at hone
  have hempty : ∀ n, Blocks.chooseJobs sc n
      (Blocks.enqueue (.checkDone (c.report 0)) { b with decode := { b.decode with check := none } }) = _ := fun _ =>
    Blocks.chooseJobs_empty hj hs hb rfl
  rw [Blocks.settle_chosen (Blocks.chooseJobs_next (n := 39) hone (hempty 39)) (hempty _) hw hd (hdue _ rfl)]
  obtain ⟨hrunning, hcheck, -⟩ := Blocks.ended_keepsWork sc
    (Blocks.enqueue (.checkDone (c.report 0)) { b with decode := { b.decode with check := none } })
  exact ⟨hcheck, hrunning.trans hr, (Blocks.ended_worked sc (Blocks.enqueue (.checkDone (c.report 0))
    { b with decode := { b.decode with check := none } })).1.isPrefix⟩

end Idle

theorem prefetchDue_idle {sc : Scene} {before b : Blocks} (hbc : b.bc = before.bc)
    (hr : ∀ q i x, before.decode.running ≠ some (.batch q i x)) (hb : before.decode.batch = none)
    (hs : before.decode.suspended = none) : prefetchDue sc sc before b = false := by
  refine prefetchDue_same hbc fun h => ?_
  unfold Decode.hasBatch at h
  rw [hb, hs] at h
  match hrun : before.decode.running with
  | none => simp [hrun] at h
  | some (.page j) => simp [hrun] at h
  | some (.batch q i x) => exact absurd hrun (hr q i x)
  | some (.check c k) => simp [hrun] at h

/-- Settles O49: the rule by the unit's work, and the choice of the Check at the event's end. -/
theorem checkIsQueuedOnce : Obligations.CheckIsQueuedOnce := by
  intro s first count hl
  refine ⟨fun hnone hrun => ?_, fun hbusy => ?_, fun src station hne => ?_⟩
  · have hchecking : (s.station.heard 0 none).blocks.decode.checking = false := by
      rw [← Bool.not_eq_true, Decode.checking_iff, not_or]
      refine ⟨by rw [show (s.station.heard 0 none).blocks.decode.check = none from hnone]; exact Bool.false_ne_true, ?_⟩
      rintro ⟨c, k, hck⟩
      exact hrun c k hck
    refine ⟨fun job held hf hjob hheld => ?_, fun hf => ?_⟩
    · obtain rfl : job = checkJobOf first count := hjob
      obtain ⟨t, hexec, hbec, hblocks⟩ := State.close_settled hl (src := 0) (by decide)
        (Station.applyCheck_queued (st := s.station.heard 0 none) (count := count) hchecking hf)
      refine ⟨t, hexec, hbec, fun r hr => ?_, fun hr hj hs hb hd hw => ?_⟩
      · obtain ⟨hrunning, hcheck, -⟩ := Blocks.settle_keepsWork (g := s.station.geometry) (scBefore := s.station.scene)
          (sc := s.station.scene) (before := s.station.blocks) (b := { s.station.closed 0 none with
            decode := { s.station.blocks.decode with check := some (checkJobOf first count) } }) hr
        rw [hblocks]
        exact ⟨hrunning.trans hr, hcheck⟩
      · have hunchecked : s.station.blocks.store.unchecked (checkJobOf first count) = held :=
          (Store.unchecked_job first count _).trans hheld.symm
        have hdue : ∀ c : Blocks, c.bc = s.station.blocks.bc →
            prefetchDue s.station.scene s.station.scene s.station.blocks c = false := fun c hbc =>
          prefetchDue_idle hbc (fun q i x => by rw [hr]; exact nofun) hb hs
        rw [hblocks]
        cases held with
        | nil =>
          obtain ⟨hcheck, hrunning, hqueue⟩ := Blocks.settle_check_ends (g := s.station.geometry)
            (b := { s.station.closed 0 none with
              decode := { s.station.blocks.decode with check := some (checkJobOf first count) } })
            hr hj hs hb rfl hw hd hdue hunchecked
          refine ⟨hcheck, fun e rest h => (by cases h), fun _ => ⟨hrunning, fun hsilent hq => ?_⟩⟩
          rw [Link.enqueue_room (l := (s.station.closed 0 none).link) (by rw [Station.closed_link]; exact hsilent)
            (by rw [Station.closed_link]; exact hq), Station.closed_link] at hqueue
          exact hqueue
        | cons e rest =>
          obtain ⟨hcheck, hrunning⟩ := Blocks.settle_check_begins (g := s.station.geometry)
            (b := { s.station.closed 0 none with
              decode := { s.station.blocks.decode with check := some (checkJobOf first count) } })
            hr hj hs hb rfl hw hd hdue hunchecked
          refine ⟨hcheck, fun e' rest' h => ?_, fun h => by cases h⟩
          obtain ⟨rfl, -⟩ := List.cons.inj h
          exact hrunning
    · exact State.close_whenRunning_becomes hl (by decide)
        (Station.applyCheck_empty (st := s.station.heard 0 none) hchecking hf)
  · have hchecking : (s.station.heard 0 none).blocks.decode.checking = true := (Decode.checking_iff _).mpr hbusy
    obtain ⟨t, hexec, hbec, -⟩ := State.close_settled hl (src := 0) (by decide)
      (Station.applyCheck_busy (st := s.station.heard 0 none) (first := first) (count := count) hchecking)
    exact ⟨t, hexec, hbec⟩
  · exact State.close_ignoredRunning hl (Station.applyCheck_of_ne (st := s.station.heard src none) hne)

end Sys2Proof.Machine

/-! The Want list: its trimming, the Wants that an event's end queues, and the room-wait retry (R118, R120, R121). -/

namespace Sys2Proof.Machine

theorem exec_want (src : Nat) (b : WantBody) (s : State) :
    exec (.want src b) s
      = s.event (Station.close src (some (.want b)) (Station.whenRunning (Station.applyWant src b))) := rfl

/-! ### The oldest range that may be asked for (R120) -/

section TakeWant

variable {o : List Nat} {l : List WantRange}

/-- The Want of a range: its first 16 strips at most, or the whole asset (R120). -/
def WantRange.ask (w : WantRange) : WantBody :=
  match w.span with
  | none => { asset := w.asset, first := 0, count := 0 }
  | some (f, e) => { asset := w.asset, first := f, count := min 16 (e + 1 - f) }

/-- What a range leaves on the list. -/
def WantRange.rest (w : WantRange) : List WantRange :=
  match w.span with
  | none => []
  | some (f, e) => if f + 16 ≤ e then [{ asset := w.asset, span := some (f + 16, e) }] else []

theorem takeWant_skip {w : WantRange} (h : o.contains w.asset = true) :
    takeWant o (w :: l) = (takeWant o l).map (fun (m, l') => (m, w :: l')) := if_pos h

theorem takeWant_cons {w : WantRange} (h : o.contains w.asset = false) :
    takeWant o (w :: l) = some (w.ask, w.rest ++ l) := by
  obtain ⟨a, span⟩ := w
  unfold takeWant WantRange.ask WantRange.rest
  rw [if_neg (Bool.eq_false_iff.mp h)]
  match span with
  | none => rfl
  | some (f, e) =>
    by_cases hc : e < f + 16
    · refine (if_pos hc).trans ?_
      dsimp only
      rw [if_neg (by omega), Nat.min_eq_right (by omega)]
      rfl
    · refine (if_neg hc).trans ?_
      dsimp only
      rw [if_pos (by omega), Nat.min_eq_left (by omega)]
      rfl

theorem takeWant_none_iff : takeWant o l = none ↔ ∀ w ∈ l, o.contains w.asset = true := by
  induction l with
  | nil => simp [takeWant]
  | cons r l ih =>
    rw [List.forall_mem_cons]
    by_cases hr : o.contains r.asset = true
    · rw [takeWant_skip hr, Option.map_eq_none_iff, ih]
      exact ⟨fun h => ⟨hr, h⟩, And.right⟩
    · rw [takeWant_cons (Bool.eq_false_iff.mpr hr)]
      exact ⟨nofun, fun h => absurd h.1 hr⟩

theorem takeWant_append {pre : List WantRange} {w : WantRange} (hpre : ∀ x ∈ pre, o.contains x.asset = true)
    (h : o.contains w.asset = false) :
    takeWant o (pre ++ w :: l) = some (w.ask, pre ++ w.rest ++ l) := by
  induction pre with
  | nil => exact takeWant_cons h
  | cons x pre ih =>
    obtain ⟨hx, hpre⟩ := List.forall_mem_cons.mp hpre
    rw [List.cons_append, takeWant_skip hx, ih hpre]
    rfl

end TakeWant

/-! ### The Wants of an event's end -/

/-- No Want can be queued: Link Silent, a queue of four messages, or every range's asset has a Want outstanding (R120). -/
def Blocks.Asked (b : Blocks) : Prop :=
  b.link.silent = true ∨ 4 ≤ b.link.queue.length ∨ ∀ w ∈ b.store.wants, b.store.outstanding.contains w.asset = true

theorem Blocks.queueWant_asked {b : Blocks} (h : b.Asked) : b.queueWant = b := by
  unfold Blocks.queueWant
  rcases h with h | h | h
  · rw [if_pos (by simp [h])]
  · rw [if_pos (by simp [Config.wantQueueRoom, h])]
  · exact Blocks.queueWant_none (takeWant_none_iff.mpr h)

/-- A Want queued: it stands at the tail, and its asset is outstanding. -/
theorem Blocks.queueWant_some {b : Blocks} {w : WantBody} {l : List WantRange} (hs : b.link.silent = false)
    (hq : b.link.queue.length < 4) (h : takeWant b.store.outstanding b.store.wants = some (w, l)) :
    b.queueWant = { b with
      link := { b.link with queue := b.link.queue ++ [.want w] }
      store := { b.store with wants := l, outstanding := Stations.insert w.asset b.store.outstanding } } := by
  have hroom : (b.link.silent || decide (Config.wantQueueRoom ≤ b.link.queue.length)) = false := by
    rw [hs, Bool.false_or]
    exact decide_eq_false (Nat.not_le.mpr hq)
  have henqueue : b.enqueue (.want w) = { b with link := { b.link with queue := b.link.queue ++ [.want w] } } :=
    congrArg (fun l => { b with link := l }) (Link.enqueue_room hs (by omega) (.want w))
  unfold Blocks.queueWant
  rw [hroom, if_neg Bool.false_ne_true, h]
  dsimp only
  rw [henqueue]
  rfl

/-- Each round comes to rest or makes the queue one longer. -/
theorem Blocks.queueWant_progress (b : Blocks) :
    b.queueWant.Asked ∨ b.queueWant.link.queue.length = b.link.queue.length + 1 := by
  by_cases hs : b.link.silent = true
  · rw [Blocks.queueWant_asked (.inl hs)]
    exact .inl (.inl hs)
  by_cases hq : 4 ≤ b.link.queue.length
  · rw [Blocks.queueWant_asked (.inr (.inl hq))]
    exact .inl (.inr (.inl hq))
  cases h : takeWant b.store.outstanding b.store.wants with
  | none =>
    have hall := takeWant_none_iff.mp h
    rw [Blocks.queueWant_asked (.inr (.inr hall))]
    exact .inl (.inr (.inr hall))
  | some p =>
    obtain ⟨w, l⟩ := p
    rw [Blocks.queueWant_some (Bool.eq_false_iff.mpr hs) (by omega) h]
    exact .inr (List.length_append.trans (by rw [List.length_singleton]))

theorem Blocks.queueWants_rest {b : Blocks} (h : b.Asked) : b.queueWants = b := by
  unfold Blocks.queueWants
  rw [Blocks.queueWant_asked h, Blocks.queueWant_asked h, Blocks.queueWant_asked h, Blocks.queueWant_asked h]

/-- An asset that is outstanding stays so while Wants are queued. -/
theorem Blocks.queueWant_outstanding {a : Nat} {b : Blocks} (h : a ∈ b.store.outstanding) :
    a ∈ b.queueWant.store.outstanding := by
  unfold Blocks.queueWant
  split
  · exact h
  · split
    · exact h
    · exact (Stations.mem_insert _ _ _).mpr (.inr h)

section Takes

variable {b : Blocks} {pre post : List WantRange} {w : WantRange} (hs : b.link.silent = false)
  (hwants : b.store.wants = pre ++ w :: post) (hpre : ∀ x ∈ pre, b.store.outstanding.contains x.asset = true)
  (hw : b.store.outstanding.contains w.asset = false)

theorem WantRange.ask_asset (w : WantRange) : w.ask.asset = w.asset := by
  unfold WantRange.ask
  split <;> rfl

include hs hwants hpre hw

/-- The oldest range whose asset has none outstanding gives the first Want (R120). -/
theorem Blocks.queueWant_takes (hq : b.link.queue.length < 4) :
    b.queueWant = { b with
      link := { b.link with queue := b.link.queue ++ [.want w.ask] }
      store := { b.store with wants := pre ++ w.rest ++ post, outstanding := Stations.insert w.asset b.store.outstanding } } := by
  have htake := takeWant_append (l := post) hpre hw
  rw [← hwants] at htake
  rw [Blocks.queueWant_some hs hq htake, WantRange.ask_asset]

theorem Blocks.queueWants_takes (hq : b.link.queue.length < 4) :
    b.link.queue ++ [.want w.ask] <+: b.queueWants.link.queue
      ∧ b.queueWants.store.outstanding.contains w.asset = true := by
  have hone := Blocks.queueWant_takes hs hwants hpre hw hq
  have hgrows : b.queueWant.link.queue <+: b.queueWants.link.queue :=
    (Blocks.worked_trans (Blocks.worked_queueWant _)
      (Blocks.worked_trans (Blocks.worked_queueWant _) (Blocks.worked_queueWant _))).1.isPrefix
  have hmem : w.asset ∈ b.queueWant.store.outstanding := by
    rw [hone]
    exact (Stations.mem_insert _ _ _).mpr (.inl rfl)
  refine ⟨?_, ?_⟩
  · rw [hone] at hgrows
    exact hgrows
  · rw [List.contains_iff_mem]
    exact Blocks.queueWant_outstanding (Blocks.queueWant_outstanding (Blocks.queueWant_outstanding hmem))

/-- A queue of three messages takes that Want and no more. -/
theorem Blocks.queueWants_takesOne (hq : b.link.queue.length = 3) :
    b.queueWants = { b with
      link := { b.link with queue := b.link.queue ++ [.want w.ask] }
      store := { b.store with wants := pre ++ w.rest ++ post, outstanding := Stations.insert w.asset b.store.outstanding } } := by
  have hone := Blocks.queueWant_takes hs hwants hpre hw (by omega)
  have hasked : b.queueWant.Asked := by
    rw [hone]
    refine .inr (.inl ?_)
    rw [List.length_append, List.length_singleton, hq]
  unfold Blocks.queueWants
  rw [Blocks.queueWant_asked hasked, Blocks.queueWant_asked hasked, Blocks.queueWant_asked hasked, hone]

end Takes

theorem Blocks.queueWants_asked (b : Blocks) : b.queueWants.Asked := by
  have hkeep : ∀ c : Blocks, c.Asked → c.queueWant.Asked := fun c h => by rwa [Blocks.queueWant_asked h]
  have hfull : ∀ c : Blocks, 4 ≤ c.link.queue.length → c.Asked := fun c h => .inr (.inl h)
  unfold Blocks.queueWants
  rcases b.queueWant_progress with h1 | h1
  · exact hkeep _ (hkeep _ (hkeep _ h1))
  rcases b.queueWant.queueWant_progress with h2 | h2
  · exact hkeep _ (hkeep _ h2)
  rcases b.queueWant.queueWant.queueWant_progress with h3 | h3
  · exact hkeep _ h3
  rcases b.queueWant.queueWant.queueWant.queueWant_progress with h4 | h4
  · exact h4
  · exact hfull _ (by omega)

theorem Station.settle_asked {u : Station} (hm : u.mode = .running) (before : Station) : (u.settle before).blocks.Asked := by
  rw [Station.settle_running hm]
  exact Blocks.queueWants_asked _

/-- An event of the blocks of a Running station, with its end. -/
theorem State.blocksEvent_ends {s : State} (h : s.station.Runs) (f : Station → Blocks → Blocks) :
    s.event (fun st => st.blocksEvent (f st))
      = .next { s with station := (s.station.withBlocks (f s.station)).settle s.station } := by
  have hevent : s.station.blocksEvent (f s.station) = (s.station.withBlocks (f s.station)).settle s.station := if_pos h
  rw [State.event_eq, hevent]

theorem exec_segmentArrival (bytes : List Byte) (s : State) :
    exec (.segmentArrival bytes) s
      = s.event (fun st => st.blocksEvent (Blocks.arrive st.geometry st.scene.pageChange bytes)) := rfl

theorem exec_pagePrepareComplete (decoded : Option Rows) (s : State) :
    exec (.pagePrepareComplete decoded) s = s.event (fun st => st.blocksEvent (Blocks.pageComplete st.geometry decoded)) := rfl

theorem exec_batchStripComplete (decoded : Option Rows) (s : State) :
    exec (.batchStripComplete decoded) s
      = s.event (fun st => st.blocksEvent (Blocks.batchComplete st.geometry st.scene decoded)) := rfl

theorem exec_checkStripComplete (intact : Bool) (s : State) :
    exec (.checkStripComplete intact) s = s.event (fun st => st.blocksEvent (Blocks.checkComplete st.geometry intact)) := rfl

/-- Every event of a Running station that ends with R120: its next state is some station's event end. -/
theorem exec_ends {s : State} {c : Instr} (hl : s.station.Listens)
    (hc : (∃ src own, c.carried = some (src, own)) ∨ c = .frameStrobe ∨ (∃ bytes, c = .segmentArrival bytes)
      ∨ (∃ d, c = .pagePrepareComplete d) ∨ (∃ d, c = .batchStripComplete d) ∨ (∃ d, c = .checkStripComplete d)) :
    (∀ straps, c ≠ .resetRelease straps) ∧ ∃ u : Station, exec c s = .next { s with station := u.settle s.station } := by
  have hruns : s.station.Runs := ⟨hl.1, hl.2.1⟩
  rcases hc with ⟨src, own, hc⟩ | rfl | ⟨bytes, rfl⟩ | ⟨d, rfl⟩ | ⟨d, rfl⟩ | ⟨d, rfl⟩
  · obtain ⟨rule, hrule, -⟩ := exec_carried hc
    refine ⟨fun straps h => ?_, if src < 6 then rule (s.station.heard src own) else s.station.heard src own, ?_⟩
    · rw [h] at hc
      cases hc
    · rw [hrule, State.event_eq, Station.close_framing (Station.framing_of_listens hl)]
      rfl
  · refine ⟨nofun, s.station.strobed.pulsed s.station.pulseTimers s.station.strobed.pulseMessages, ?_⟩
    show (.next { s with station := s.station.strobe } : Host.Outcome State Fault Refusal) = _
    rw [Station.strobe_eq hruns]
  · exact ⟨nofun, _, State.blocksEvent_ends hruns (fun st => Blocks.arrive st.geometry st.scene.pageChange bytes)⟩
  · exact ⟨nofun, _, State.blocksEvent_ends hruns (fun st => Blocks.pageComplete st.geometry d)⟩
  · exact ⟨nofun, _, State.blocksEvent_ends hruns (fun st => Blocks.batchComplete st.geometry st.scene d)⟩
  · exact ⟨nofun, _, State.blocksEvent_ends hruns (fun st => Blocks.checkComplete st.geometry d)⟩

/-! ### The retry of the room-wait list (R118) -/

theorem Store.unpinnedSince_iff (before now : Store) :
    Store.unpinnedSince before now = true
      ↔ (∃ e ∈ before.packed, 0 < e.pins ∧ ∃ d, now.findPacked e.id = some d ∧ d.pins = 0)
        ∨ ∃ e ∈ before.opened, 0 < e.pins ∧ ∃ d, now.findOpened e.id = some d ∧ d.pins = 0 := by
  unfold Store.unpinnedSince
  rw [Bool.or_eq_true, List.any_eq_true, List.any_eq_true]
  refine or_congr (exists_congr fun e => and_congr_right fun _ => ?_) (exists_congr fun e => and_congr_right fun _ => ?_)
  · rw [Bool.and_eq_true, decide_eq_true_eq]
    refine and_congr_right fun _ => ?_
    cases now.findPacked e.id <;> simp
  · rw [Bool.and_eq_true, decide_eq_true_eq]
    refine and_congr_right fun _ => ?_
    cases now.findOpened e.id <;> simp

theorem Store.isBroken_of_held {k : Strip} {s : Store} (h : s.isHeld k = true) : s.isBroken k = false := by
  unfold Store.isHeld at h
  unfold Store.isBroken
  cases hp : s.findPacked k with
  | none => rfl
  | some e =>
    rw [hp] at h
    have hstate : e.state = .held := by simpa using h
    show (e.state == .bad && _) = false
    rw [hstate]
    rfl

section Retry

variable {g : Geometry} {change : Half} {b : Blocks} {w : RoomWait}

theorem Blocks.retryRoom_of_pinned {before : Blocks} (h : Store.unpinnedSince before.store b.store = false) :
    b.retryRoom g change before = b := if_neg (Bool.eq_false_iff.mp h)

theorem Blocks.retryRoom_of_unpinned {before : Blocks} (h : Store.unpinnedSince before.store b.store = true) :
    b.retryRoom g change before
      = b.store.roomWait.foldl (Blocks.retryWait g change) { b with store := { b.store with roomWait := [] } } := if_pos h

theorem Blocks.retryWait_broken (h : b.store.isBroken w.id = true) : b.retryWait g change w = b := if_pos h

variable (hbroken : b.store.isBroken w.id = false)
include hbroken

theorem Blocks.retryWait_packed (h : w.inOpen = false) :
    b.retryWait g change w
      = if b.store.needed g w.id then b.withStore (Store.withWants (addRun w.id.asset w.id.index w.id.index)) else b := by
  unfold Blocks.retryWait
  rw [if_neg (Bool.eq_false_iff.mp hbroken), if_neg (Bool.eq_false_iff.mp h)]

variable (h : w.inOpen = true)
include h

theorem Blocks.retryWait_unheld (hheld : b.store.isHeld w.id = false) :
    b.retryWait g change w = b.withStore (Store.withWants (addRun w.id.asset w.id.index w.id.index)) := by
  unfold Blocks.retryWait
  rw [if_neg (Bool.eq_false_iff.mp hbroken), if_pos h, if_pos (by rw [hheld]; rfl)]

variable (hheld : b.store.isHeld w.id = true)
include hheld

theorem Blocks.retryWait_unnamed (hn : ¬ (w.id ∈ b.store.roles.pending.strips ∨ w.id ∈ b.store.roles.shown.strips)) :
    b.retryWait g change w = b := by
  unfold Blocks.retryWait
  rw [if_neg (Bool.eq_false_iff.mp hbroken), if_pos h, if_neg (by simp [hheld]), if_neg (by simpa using hn)]

theorem Blocks.retryWait_named (hn : w.id ∈ b.store.roles.pending.strips ∨ w.id ∈ b.store.roles.shown.strips) :
    b.retryWait g change w = b.withDecode (Decode.offer change w.id) := by
  unfold Blocks.retryWait
  rw [if_neg (Bool.eq_false_iff.mp hbroken), if_pos h, if_neg (by simp [hheld]), if_pos (by simpa using hn)]

end Retry

section Offer

variable {change : Half} {k : Strip} {d : Decode}

theorem Decode.offer_passed (h : d.hasJob k = true) : d.offer change k = d := if_pos h

theorem Decode.offer_queued (h : d.hasJob k = false) (hl : d.pageJobs.length < 30) :
    d.offer change k = { d with pageJobs := d.pageJobs ++ [{ id := k, tag := change }] } :=
  (if_neg (Bool.eq_false_iff.mp h)).trans (if_pos hl)

theorem Decode.offer_deferred (h : d.hasJob k = false) (hl : 30 ≤ d.pageJobs.length) :
    d.offer change k = { d with deferred := true } :=
  (if_neg (Bool.eq_false_iff.mp h)).trans (if_neg (Nat.not_lt.mpr hl))

end Offer

/-! ### The rule -/

section Rule

variable {src : Nat} {b : WantBody} {st : Station}

theorem Station.applyWant_foreign (h : src < 2 ∨ 5 < src) : st.applyWant src b = st := if_pos h

theorem Station.applyWant_own (h2 : 2 ≤ src) (h5 : src ≤ 5) (h : src = st.number) :
    st.applyWant src b = { st with blocks := { st.blocks with
      store := { st.blocks.store with outstanding := st.blocks.store.outstanding.erase b.asset } } } := by
  unfold Station.applyWant
  rw [if_neg (by omega), if_pos h]
  rfl

theorem Station.applyWant_other (h2 : 2 ≤ src) (h5 : src ≤ 5) (h : src ≠ st.number) :
    st.applyWant src b = { st with blocks := { st.blocks with
      store := { st.blocks.store with wants := removeWanted b st.blocks.store.wants } } } := by
  unfold Station.applyWant
  rw [if_neg (by omega), if_neg h]
  rfl

end Rule

/-- With a job in progress and nothing pending an event that leaves the Decode Unit and the compositor ends with its Wants. -/
theorem Blocks.settle_wants {g : Geometry} {sc : Scene} {before b : Blocks} {r : Running} (hr : b.decode.running = some r)
    (hd : b.decode.deferred = false) (hw : b.store.roomWait = []) (hp : sc.pendingPage = none) (hi : sc.pendingIndex = none)
    (hbc : b.bc = before.bc) (hdec : b.decode = before.decode) : Blocks.settle g sc sc before b = b.queueWants := by
  rw [Blocks.settle_busy hr hw hd (prefetchDue_same hbc (hdec ▸ id)), Blocks.pageReadiness_none hp, Blocks.slideReadiness_none hi]

/-- A Want of the station's own ends the event with the Wants that R120 then allows, when nothing else is left to do. -/
theorem exec_ownWant {s : State} {b : WantBody} {r : Running} (hl : s.station.Listens) (h2 : 2 ≤ s.station.number)
    (h5 : s.station.number ≤ 5) (hr : s.station.blocks.decode.running = some r)
    (hd : s.station.blocks.decode.deferred = false) (hw : s.station.blocks.store.roomWait = [])
    (hp : s.station.scene.pendingPage = none) (hi : s.station.scene.pendingIndex = none) {own : Blocks}
    (hown : own = { s.station.closed s.station.number (some (.want b)) with
      store := { s.station.blocks.store with outstanding := s.station.blocks.store.outstanding.erase b.asset } }) :
    exec (.want s.station.number b) s
      = .next { s with station := { s.station with blocks := own.queueWants } } := by
  have hrule := Station.applyWant_own (st := s.station.heard s.station.number (some (.want b))) (b := b) h2 h5 rfl
  have hsettle : Blocks.settle s.station.geometry s.station.scene s.station.scene s.station.blocks own = own.queueWants := by
    refine Blocks.settle_wants (r := r) ?_ ?_ ?_ hp hi ?_ ?_ <;> rw [hown]
    · exact hr
    · exact hd
    · exact hw
  rw [hown] at hsettle ⊢
  rw [exec_want, State.close_settles hl (by omega) hrule]
  exact congrArg (fun u : Station => Host.Outcome.next { s with station := u })
    ((if_pos hl.1).trans (congrArg (fun c => { s.station with blocks := c }) hsettle))

/-- Settles O48: the rule on the list, the queueing at the event's end, and the room-wait retry. -/
theorem wantTrimsTheList : Obligations.WantTrimsTheList := by
  refine ⟨fun s src b own hl hown => ?_, fun s b r o own after hl h2 h5 hown ho hr hd hw hp hi hafter => ?_,
    fun s c hl hc => ?_, fun g change before b unpinned hun => ?_, fun g change b want w named hwant hnamed => ?_⟩
  · subst hown
    refine ⟨fun h2 h5 hs => ?_, fun h2 h5 hs => ?_, fun hs => ?_⟩
    · exact State.close_whenRunning_becomes hl (by omega)
        (Station.applyWant_own (st := s.station.heard src (some (.want b))) h2 h5 hs)
    · obtain ⟨t, hexec, hbec, hblocks⟩ := State.close_settled hl (by omega)
        (Station.applyWant_other (st := s.station.heard src (some (.want b))) (b := b) h2 h5 hs)
      refine ⟨t, removeWanted b s.station.blocks.store.wants, hexec, hbec, fun hq => ?_, fun h0 => if_pos h0, fun h0 => if_neg h0⟩
      obtain ⟨r, hr⟩ := Option.isSome_iff_exists.mp hq.1
      rw [hblocks]
      exact congrArg Store.wants (Blocks.settle_rests (b := { s.station.closed src (some (.want b)) with
        store := { s.station.blocks.store with wants := removeWanted b s.station.blocks.store.wants } })
        hr hq.2.2.1 (.inl hq.2.1) (prefetchDue_same rfl id) (Station.closed_full hq src _)).store
    · exact State.close_ignoredRunning hl (Station.applyWant_foreign (st := s.station.heard src _) hs)
  · have hexec := exec_ownWant hl h2 h5 hr hd hw hp hi (b := b)
      (own := { own with store := { s.station.blocks.store with outstanding := o } }) (by rw [hown, ho])
    refine ⟨fun hrest => ?_, fun pre w post m left hs hwants hpre hw' hm hleft => ⟨fun hq => ?_, fun hq => ?_⟩⟩
    · have hasked : Blocks.Asked { own with store := { s.station.blocks.store with outstanding := o } } := hrest
      rw [hexec, Blocks.queueWants_rest hasked, hafter, hown]
    · obtain rfl : m = w.ask := hm
      obtain ⟨hqueue, hout⟩ := Blocks.queueWants_takes
        (b := { own with store := { s.station.blocks.store with outstanding := o } }) hs hwants hpre hw' hq
      exact ⟨_, hexec, hqueue, hout⟩
    · obtain rfl : m = w.ask := hm
      obtain rfl : left = w.rest := hleft
      rw [hexec, Blocks.queueWants_takesOne
        (b := { own with store := { s.station.blocks.store with outstanding := o } }) hs hwants hpre hw' hq, hafter, hown]
  · obtain ⟨hne, u, hexec⟩ := exec_ends hl hc
    refine ⟨_, hexec, Station.settle_asked ?_ _⟩
    have hmode := (exec_sound hexec hne).mode hl.1
    rwa [Station.settle_mode] at hmode
  · have hiff := (Store.unpinnedSince_iff before.store b.store).trans hun.symm
    exact ⟨fun h => Blocks.retryRoom_of_pinned (Bool.eq_false_iff.mpr (mt hiff.mp h)),
      fun h => Blocks.retryRoom_of_unpinned (hiff.mpr h)⟩
  · subst hwant
    have hheld : b.store.isHeld w.id = true → b.store.isBroken w.id = false := Store.isBroken_of_held
    refine ⟨Blocks.retryWait_broken, fun ho hb => Blocks.retryWait_packed hb ho, fun ho hh hb => Blocks.retryWait_unheld hb ho hh,
      fun ho hh hn => Blocks.retryWait_unnamed (hheld hh) ho hh (mt hnamed.mpr hn), fun ho hh hn => ?_⟩
    have hoffer := Blocks.retryWait_named (g := g) (change := change) (hheld hh) ho hh (hnamed.mp hn)
    unfold Blocks.withDecode at hoffer
    refine ⟨fun hj => ?_, fun hj hlt => ?_, fun hj hge => ?_⟩
    · rw [hoffer, Decode.offer_passed hj]
    · rw [hoffer, Decode.offer_queued hj hlt]
    · rw [hoffer, Decode.offer_deferred hj hge]

end Sys2Proof.Machine

/-! SUPPORT. Room for a request: which entry is evicted next, and what the evictions of a granted request leave (R116, O52). -/

namespace Sys2Proof.Machine

/-! ### The candidates -/

theorem Store.openCandidates_eq (working : Option Strip) (s : Store) :
    s.openCandidates working
      = s.opened.filter (fun e => decide (e.ready = true ∧ e.pins = 0 ∧ working ≠ some e.id)) := by
  unfold Store.openCandidates
  congr 1
  funext e
  rw [Bool.eq_iff_iff]
  simp [and_assoc]

theorem Store.packedCandidates_eq (working : Option Strip) (s : Store) :
    s.packedCandidates working
      = s.packed.filter (fun e => decide (e.state = .held ∧ e.pins = 0 ∧ working ≠ some e.id)) := by
  unfold Store.packedCandidates
  congr 1
  funext e
  rw [Bool.eq_iff_iff]
  simp [and_assoc]

/-- The Open entry shown the longest ago, the last of the directory's order among equals, is the one chosen. -/
theorem earliestShown_eq {frame : Long} {l : List Opened} {e : Opened} (hs : Table.sorted Opened.id l = true) (he : e ∈ l)
    (h : ∀ d ∈ l, d ≠ e → (frame - d.lastShown).toNat < (frame - e.lastShown).toNat
      ∨ ((frame - d.lastShown).toNat = (frame - e.lastShown).toNat ∧ e.id.before d.id = true)) :
    earliestShown frame l = some e := by
  induction l with
  | nil => exact absurd he (by simp)
  | cons x l ih =>
    obtain ⟨hx, hl⟩ := Table.sorted_cons.mp hs
    unfold earliestShown
    by_cases hxe : x = e
    · subst hxe
      split
      · rfl
      · next f hf =>
        by_cases hfx : f = x
        · rw [hfx, if_neg (Nat.lt_irrefl _)]
        · rw [if_neg]
          rcases h f (List.mem_cons_of_mem x (earliestShown_mem hf)) hfx with hlt | ⟨heq, -⟩
          · exact Nat.not_lt_of_lt hlt
          · rw [heq]
            exact Nat.lt_irrefl _
    · have hmem : e ∈ l := (List.mem_cons.mp he).resolve_left fun heq => hxe heq.symm
      rw [ih hl hmem fun d hd => h d (List.mem_cons_of_mem x hd)]
      refine if_pos ?_
      rcases h x List.mem_cons_self hxe with hlt | ⟨-, hbefore⟩
      · exact hlt
      · have hself := Strip.before_trans (hx e hmem) hbefore
        exact absurd rfl (Strip.ne_of_before hself)

/-- The Packed entry with the lowest arrival number is the one chosen. -/
theorem earliestArrived_eq {l : List Packed} {e : Packed} (he : e ∈ l)
    (h : ∀ d ∈ l, d ≠ e → e.arrival.toNat < d.arrival.toNat) : earliestArrived l = some e := by
  induction l with
  | nil => exact absurd he (by simp)
  | cons x l ih =>
    unfold earliestArrived
    by_cases hxe : x = e
    · subst hxe
      split
      · rfl
      · next f hf =>
        by_cases hfx : f = x
        · rw [hfx, if_neg (Nat.lt_irrefl _)]
        · rw [if_neg (Nat.not_lt_of_lt (h f (List.mem_cons_of_mem x (earliestArrived_mem hf)) hfx))]
    · have hmem : e ∈ l := (List.mem_cons.mp he).resolve_left fun heq => hxe heq.symm
      rw [ih hmem fun d hd => h d (List.mem_cons_of_mem x hd)]
      exact if_pos (h x List.mem_cons_self hxe)

/-! ### The next eviction -/

section Evict

variable {working : Option Strip} {b : Blocks}

theorem Blocks.evictNext_open {e : Opened} (h : earliestShown b.bc.frame (b.store.openCandidates working) = some e) :
    b.evictNext working = some { b with store := b.store.dropOpened e.id } := by
  unfold Blocks.evictNext
  rw [h]
  rfl

theorem Blocks.evictNext_packed {e : Packed} (ho : b.store.openCandidates working = [])
    (h : earliestArrived (b.store.packedCandidates working) = some e) :
    b.evictNext working = some (b.evictPacked e.id) := by
  unfold Blocks.evictNext
  rw [ho, h]
  rfl

theorem Blocks.evictNext_none (ho : b.store.openCandidates working = []) (hp : b.store.packedCandidates working = []) :
    b.evictNext working = none := by
  unfold Blocks.evictNext
  rw [ho, hp]
  rfl

/-- An eviction drops an Open candidate, or, when there is none, skips a Packed one. -/
theorem Blocks.evictNext_cases {c : Blocks} (h : b.evictNext working = some c) :
    (∃ e ∈ b.store.openCandidates working, c = { b with store := b.store.dropOpened e.id })
      ∨ (b.store.openCandidates working = [] ∧ ∃ e ∈ b.store.packedCandidates working, c = b.evictPacked e.id) := by
  unfold Blocks.evictNext at h
  split at h
  · next e he => exact .inl ⟨e, earliestShown_mem he, (Option.some.inj h).symm⟩
  · next hn =>
    split at h
    · next e he =>
      exact .inr ⟨earliestShown_eq_none hn, e, earliestArrived_mem he, (Option.some.inj h).symm⟩
    · exact absurd h (by simp)

end Evict

theorem Blocks.evictPacked_bc (k : Strip) (b : Blocks) : (b.evictPacked k).bc = b.bc := by
  unfold Blocks.evictPacked
  dsimp only
  split <;> rfl

theorem Blocks.evictPacked_wants (k : Strip) (b : Blocks) :
    (b.evictPacked k).store.wants = if (∃ j ∈ b.decode.pageJobs, j.id = k) ∨ b.decode.awaits k = true then
      addRun k.asset k.index k.index b.store.wants else b.store.wants := by
  have hwanted : (b.decode.pageJobs.any (fun j => j.id == k) || b.decode.awaits k) = true
      ↔ (∃ j ∈ b.decode.pageJobs, j.id = k) ∨ b.decode.awaits k = true := by simp
  unfold Blocks.evictPacked
  dsimp only
  split
  · next h => exact (if_pos (hwanted.mp h)).symm
  · next h => exact (if_neg fun hc => h (hwanted.mpr hc)).symm

theorem Blocks.evictPacked_findOpened (k j : Strip) (b : Blocks) :
    (b.evictPacked k).store.findOpened j = b.store.findOpened j := by
  obtain ⟨wants, hw⟩ := b.evictPacked_store k
  rw [hw]
  rfl

theorem Blocks.evictPacked_findPacked_other {k j : Strip} (h : k ≠ j) (b : Blocks) :
    (b.evictPacked k).store.findPacked j = b.store.findPacked j := by
  obtain ⟨wants, hw⟩ := b.evictPacked_store k
  rw [hw]
  refine Store.findPacked_setPacked_other
    (e := { b.store.packedOrNew k with state := .skipped, units := 0, data := [], checkWord := 0 }) ?_ b.store
  exact fun hk => h ((Store.packedOrNew_id k b.store).symm.trans hk)

theorem Blocks.evictPacked_findPacked_same {e : Packed} {b : Blocks} (h : b.store.findPacked e.id = some e) :
    (b.evictPacked e.id).store.findPacked e.id = some (e.evicted b.store) := by
  obtain ⟨wants, hw⟩ := b.evictPacked_store e.id
  rw [hw]
  unfold Store.skip
  rw [Store.packedOrNew_of_find h]
  exact Store.findPacked_setPacked_same { e with state := .skipped, units := 0, data := [], checkWord := 0 } b.store

theorem Blocks.evictPacked_freeUnits {e : Packed} {b : Blocks} (h : b.store.findPacked e.id = some e) :
    (b.evictPacked e.id).store.freeUnits = b.store.freeUnits + e.units := by
  obtain ⟨wants, hw⟩ := b.evictPacked_store e.id
  rw [hw]
  unfold Store.skip Store.setPacked
  simp [Store.packedOrNew_of_find h, h]

/-! ### What the evictions of one request leave -/

/-- `c` is `b` after evictions for one request: an Open entry is kept, or it was a candidate and is gone; a Packed entry is
kept, or it was a candidate and is Skipped with every Open candidate gone. -/
structure Blocks.Evicted (working : Option Strip) (b c : Blocks) : Prop where
  link : c.link = b.link
  bc : c.bc = b.bc
  roles : c.store.roles = b.store.roles
  sorted : c.store.Sorted
  opened : ∀ k, c.store.findOpened k = b.store.findOpened k
    ∨ (c.store.findOpened k = none ∧ ∃ e ∈ b.store.openCandidates working, e.id = k)
  packed : ∀ k, c.store.findPacked k = b.store.findPacked k
    ∨ ∃ e ∈ b.store.packedCandidates working, e.id = k
      ∧ (∀ d ∈ b.store.openCandidates working, c.store.findOpened d.id = none)
      ∧ c.store.findPacked k = some (e.evicted b.store)

section Evicted

variable {working : Option Strip}

theorem Blocks.evicted_refl {b : Blocks} (h : b.store.Sorted) : Blocks.Evicted working b b :=
  ⟨rfl, rfl, rfl, h, fun _ => .inl rfl, fun _ => .inl rfl⟩

theorem Store.findOpened_of_candidate {s : Store} {e : Opened} (h : s.Sorted) (he : e ∈ s.openCandidates working) :
    s.findOpened e.id = some e := Table.find_eq_of_mem h.2 (List.mem_filter.mp he).1

theorem Store.findPacked_of_candidate {s : Store} {e : Packed} (h : s.Sorted) (he : e ∈ s.packedCandidates working) :
    s.findPacked e.id = some e := Table.find_eq_of_mem h.1 (List.mem_filter.mp he).1

/-- An entry found that qualifies is a candidate. -/
theorem Store.mem_openCandidates {s t : Store} {e : Opened} (h : t.findOpened e.id = some e)
    (he : e ∈ s.openCandidates working) : e ∈ t.openCandidates working :=
  List.mem_filter.mpr ⟨(Table.mem_of_find h).1, (List.mem_filter.mp he).2⟩

theorem Store.mem_packedCandidates {s t : Store} {e : Packed} (h : t.findPacked e.id = some e)
    (he : e ∈ s.packedCandidates working) : e ∈ t.packedCandidates working :=
  List.mem_filter.mpr ⟨(Table.mem_of_find h).1, (List.mem_filter.mp he).2⟩

theorem Packed.evicted_not_candidate {s t : Store} {e : Packed} :
    e.evicted t ∉ s.packedCandidates working := by
  intro h
  have hstate := (List.mem_filter.mp h).2
  simp [Packed.evicted] at hstate

theorem Blocks.Evicted.next {b c d : Blocks} (h : Blocks.Evicted working b c) (hb : b.store.Sorted)
    (hd : c.evictNext working = some d) : Blocks.Evicted working b d := by
  have hsorted := (Blocks.evicts_evictNext h.sorted hd).sorted
  rcases Blocks.evictNext_cases hd with ⟨e, he, rfl⟩ | ⟨hnone, e, he, rfl⟩
  · -- an Open candidate is dropped
    have hopened : ∀ k, (c.store.dropOpened e.id).findOpened k = c.store.findOpened k
        ∨ (c.store.dropOpened e.id).findOpened k = none := fun k => by
      by_cases hk : e.id = k
      · rw [hk]
        exact .inr (Store.findOpened_dropOpened_same k c.store)
      · exact .inl (Store.findOpened_dropOpened_other hk c.store)
    refine ⟨h.link, h.bc, h.roles, hsorted, fun k => ?_, fun k => (h.packed k).imp_right ?_⟩
    · by_cases hk : e.id = k
      · subst hk
        refine .inr ⟨Store.findOpened_dropOpened_same e.id c.store, ?_⟩
        have hfound := Store.findOpened_of_candidate h.sorted he
        rcases h.opened e.id with hkept | ⟨hgone, -⟩
        · exact ⟨e, Store.mem_openCandidates (hkept.symm.trans hfound) he, rfl⟩
        · rw [hgone] at hfound
          exact absurd hfound (by simp)
      · have hother := Store.findOpened_dropOpened_other (j := e.id) hk c.store
        exact (h.opened k).imp hother.trans (And.imp_left hother.trans)
    · rintro ⟨p, hp, hid, hgone, hfound⟩
      exact ⟨p, hp, hid, fun o ho => ((hopened o.id).elim (·.trans (hgone o ho)) id), hfound⟩
  · -- a Packed candidate is skipped, no Open candidate being left
    have hfound := Store.findPacked_of_candidate h.sorted he
    refine ⟨(c.evictPacked_link e.id).trans h.link, (c.evictPacked_bc e.id).trans h.bc,
      (c.evictPacked_roles e.id).trans h.roles, hsorted, fun k => ?_, fun k => ?_⟩
    · rw [Blocks.evictPacked_findOpened]
      exact h.opened k
    · by_cases hk : e.id = k
      · subst hk
        refine .inr ⟨e, ?_, rfl, fun o ho => ?_, ?_⟩
        · rcases h.packed e.id with hkept | ⟨p, -, -, -, hgone⟩
          · exact Store.mem_packedCandidates (hkept.symm.trans hfound) he
          · obtain rfl : e = p.evicted _ := Option.some.inj (hfound.symm.trans hgone)
            exact absurd he Packed.evicted_not_candidate
        · rw [Blocks.evictPacked_findOpened]
          rcases h.opened o.id with hkept | ⟨hgone, -⟩
          · have hmem := Store.mem_openCandidates (hkept.trans (Store.findOpened_of_candidate hb ho)) ho
            rw [hnone] at hmem
            exact absurd hmem (by simp)
          · exact hgone
        · rw [Blocks.evictPacked_findPacked_same hfound]
          unfold Packed.evicted
          rw [h.roles]
      · rw [Blocks.evictPacked_findPacked_other hk]
        refine (h.packed k).imp_right ?_
        rintro ⟨p, hp, hid, hgone, hp'⟩
        exact ⟨p, hp, hid, fun o ho => by rw [Blocks.evictPacked_findOpened]; exact hgone o ho, hp'⟩

theorem Blocks.Evicted.until {u : Nat} (n : Nat) {b c : Blocks} (h : Blocks.Evicted working b c) (hb : b.store.Sorted) :
    Blocks.Evicted working b (c.evictUntil working u n) := by
  induction n generalizing c with
  | zero => exact h
  | succ n ih =>
    unfold Blocks.evictUntil
    split
    · exact h
    · split
      · exact h
      · next d hd => exact ih (h.next hb hd)

theorem Blocks.findRoom_evicted {u : Nat} {b c : Blocks} (hb : b.store.Sorted) (h : b.findRoom working u = some c) :
    Blocks.Evicted working b c := by
  unfold Blocks.findRoom at h
  split at h
  · obtain rfl := Option.some.inj h
    exact Blocks.evicted_refl hb
  · split at h
    · exact absurd h (by simp)
    · obtain rfl := Option.some.inj h
      exact (Blocks.evicted_refl hb).until _ hb

theorem Blocks.findRoom_free {u : Nat} {b : Blocks} (h : u ≤ b.store.freeUnits) : b.findRoom working u = some b := if_pos h

theorem Blocks.findRoom_none {u : Nat} {b : Blocks} (h : b.store.freeUnits + b.store.candidateUnits working < u) :
    b.findRoom working u = none := by
  unfold Blocks.findRoom
  rw [if_neg (by omega), if_pos h]

/-- Room is granted from the free units and those of the candidates. -/
theorem Blocks.findRoom_some {u : Nat} {b : Blocks} (h : u ≤ b.store.freeUnits + b.store.candidateUnits working) :
    ∃ c, b.findRoom working u = some c := by
  unfold Blocks.findRoom
  split
  · exact ⟨b, rfl⟩
  · rw [if_neg (by omega)]
    exact ⟨_, rfl⟩

end Evicted

end Sys2Proof.Machine

/-! SUPPORT. The choice of the next job, the start of a Page Prepare job and the refill (R117, R124 to R126, O52). -/

namespace Sys2Proof.Machine

/-! ### The choice -/

theorem Compositor.backFreeFor_iff (k : Content) (c : Compositor) :
    c.backFreeFor k = true ↔ c.transition = none ∧ ∀ w, c.slideSwitch = some w → w.content = k := by
  unfold Compositor.backFreeFor
  cases c.slideSwitch <;> simp

theorem Blocks.eligible_iff (b : Blocks) (q : Batch) :
    b.eligible q = true ↔ q.strips.isSome = true ∧ b.bc.transition = none
      ∧ (∀ w, b.bc.slideSwitch = some w → w.content = q.content)
      ∧ (q.pendingStrips = [] ∨ ∃ k ∈ q.pendingStrips, b.store.isHeld k = true ∨ b.store.isBroken k = true) := by
  unfold Blocks.eligible Store.takable
  simp only [Bool.and_eq_true, Bool.or_eq_true, Compositor.backFreeFor_iff, List.isEmpty_iff, List.any_eq_true, and_assoc]

section Choice

variable {sc : Scene} {b : Blocks}

theorem Blocks.chooseOne_running {r : Running} (h : b.decode.running = some r) : b.chooseOne sc = none := by
  unfold Blocks.chooseOne
  rw [h]

variable (hr : b.decode.running = none)
include hr

theorem Blocks.chooseOne_page {j : PageJob} {rest : List PageJob} (hj : b.decode.pageJobs = j :: rest) :
    b.chooseOne sc = some (Blocks.startPage j { b with decode := { b.decode with pageJobs := rest } }) := by
  unfold Blocks.chooseOne
  rw [hr, hj]
  rfl

variable (hj : b.decode.pageJobs = [])
include hj

theorem Blocks.chooseOne_suspended {q : Batch} (hs : b.decode.suspended = some q) :
    b.chooseOne sc
      = some (Blocks.takeBatch sc { q with progress := 0 } { b with decode := { b.decode with suspended := none } }) := by
  unfold Blocks.chooseOne
  rw [hr, hj, hs]
  rfl

variable (hs : b.decode.suspended = none)
include hs

theorem Blocks.chooseOne_batch {q : Batch} (hb : b.decode.batch = some q) (he : b.eligible q = true) :
    b.chooseOne sc = some (Blocks.takeBatch sc q { b with decode := { b.decode with batch := none } }) := by
  unfold Blocks.chooseOne
  rw [hr, hj, hs, hb]
  exact if_pos he

theorem Blocks.chooseOne_last (hb : ∀ q, b.decode.batch = some q → b.eligible q = false) :
    b.chooseOne sc
      = b.decode.check.map (fun c => Blocks.takeCheck c { b with decode := { b.decode with check := none } }) := by
  unfold Blocks.chooseOne
  rw [hr, hj, hs]
  cases hq : b.decode.batch with
  | none =>
    dsimp only
    cases b.decode.check <;> rfl
  | some q =>
    dsimp only
    rw [if_neg (by simp [hb q hq])]
    cases b.decode.check <;> rfl

end Choice

/-- The choice in the order of R124. -/
theorem choice_order (sc : Scene) (b : Blocks) (eligible : Batch → Prop)
    (h : ∀ q, eligible q ↔ q.strips.isSome = true ∧ b.bc.transition = none
      ∧ (∀ w, b.bc.slideSwitch = some w → w.content = q.content)
      ∧ (q.pendingStrips = [] ∨ ∃ k ∈ q.pendingStrips, b.store.isHeld k = true ∨ b.store.isBroken k = true)) :
    (∀ r, b.decode.running = some r → b.chooseOne sc = none)
      ∧ (b.decode.running = none →
        (∀ j rest, b.decode.pageJobs = j :: rest →
          b.chooseOne sc = some (Blocks.startPage j { b with decode := { b.decode with pageJobs := rest } }))
        ∧ (b.decode.pageJobs = [] →
          (∀ q, b.decode.suspended = some q → b.chooseOne sc
            = some (Blocks.takeBatch sc { q with progress := 0 } { b with decode := { b.decode with suspended := none } }))
          ∧ (b.decode.suspended = none →
            (∀ q, b.decode.batch = some q → eligible q →
              b.chooseOne sc = some (Blocks.takeBatch sc q { b with decode := { b.decode with batch := none } }))
            ∧ ((∀ q, b.decode.batch = some q → ¬ eligible q) →
              b.chooseOne sc
                = b.decode.check.map
                  (fun c => Blocks.takeCheck c { b with decode := { b.decode with check := none } }))))) := by
  have helig : ∀ q, eligible q ↔ b.eligible q = true := fun q => (h q).trans (b.eligible_iff q).symm
  refine ⟨fun r hr => Blocks.chooseOne_running hr, fun hr => ⟨fun j rest => Blocks.chooseOne_page hr, fun hj =>
    ⟨fun q => Blocks.chooseOne_suspended hr hj, fun hs => ⟨fun q hq he => ?_, fun hb => ?_⟩⟩⟩⟩
  · exact Blocks.chooseOne_batch hr hj hs hq ((helig q).mp he)
  · exact Blocks.chooseOne_last hr hj hs fun q hq => Bool.eq_false_iff.mpr fun he => hb q hq ((helig q).mpr he)

/-! ### The start of a Page Prepare job -/

section Start

variable {j : PageJob} {b : Blocks}

theorem Blocks.startPage_dropped (h : b.store.isHeld j.id = false ∨ (b.store.findOpened j.id).isSome = true) :
    b.startPage j = b := by
  unfold Blocks.startPage
  exact if_pos (by simpa using h)

theorem Blocks.startPage_refused (hh : b.store.isHeld j.id = true) (ho : b.store.findOpened j.id = none)
    (hf : b.findRoom (some j.id) (b.store.openUnitsOf j.id) = none) :
    b.startPage j = b.refuseRoom j.id true (b.store.openUnitsOf j.id) := by
  unfold Blocks.startPage
  rw [if_neg (by simp [hh, ho]), hf]

/-- The block with the Open entry of a job that starts, and the job in progress. -/
def Blocks.preparing (j : PageJob) (u : Nat) (c : Blocks) : Blocks :=
  { c with
    store := c.store.setOpened { id := j.id, ready := false, units := u, pins := 0, lastShown := 0, rows := [] }
    decode := { c.decode with running := some (.page j) } }

theorem Blocks.startPage_granted {c : Blocks} (hh : b.store.isHeld j.id = true) (ho : b.store.findOpened j.id = none)
    (hf : b.findRoom (some j.id) (b.store.openUnitsOf j.id) = some c) :
    b.startPage j = c.preparing j (b.store.openUnitsOf j.id) := by
  unfold Blocks.startPage
  rw [if_neg (by simp [hh, ho]), hf]
  rfl

theorem Blocks.startPage_free (hh : b.store.isHeld j.id = true) (ho : b.store.findOpened j.id = none)
    (hu : b.store.openUnitsOf j.id ≤ b.store.freeUnits) :
    b.startPage j = b.preparing j (b.store.openUnitsOf j.id) :=
  Blocks.startPage_granted hh ho (Blocks.findRoom_free hu)

end Start

theorem Store.openUnitsOf_of_asset {s : Store} {k : Strip} {a : Asset} (h : s.asset k.asset = some a) :
    s.openUnitsOf k = (a.width * 32 + 4095) / 4096 := by
  unfold Store.openUnitsOf
  rw [h]
  rfl

/-- A refused request: the pair waits once, and the fault goes out unless the mark is set (R117). -/
theorem Blocks.refuseRoom_eq (k : Strip) (inOpen : Bool) (u : Nat) (b : Blocks) :
    b.refuseRoom k inOpen u = { b with
      link := if b.store.exhausted then b.link
        else b.link.enqueue (.fault (exhaustedFault k inOpen u b.store.freeUnits))
      store := { b.store with
        exhausted := true
        roomWait := if b.store.roomWait.contains { id := k, inOpen := inOpen } then b.store.roomWait
          else b.store.roomWait ++ [{ id := k, inOpen := inOpen }] } } := by
  have hwait : b.store.waitForRoom k inOpen = { b.store with
      roomWait := if b.store.roomWait.contains { id := k, inOpen := inOpen } then b.store.roomWait
        else b.store.roomWait ++ [{ id := k, inOpen := inOpen }] } := by
    unfold Store.waitForRoom
    split <;> rfl
  unfold Blocks.refuseRoom Blocks.withStore
  rw [hwait]
  cases hx : b.store.exhausted <;> simp [hx, Blocks.enqueue, Blocks.withLink]

/-! ### The refill -/

section Offers

variable {change : Half}

theorem Decode.offerAll_frame (l : List Strip) (d : Decode) :
    d.offerAll change l
      = { d with pageJobs := (d.offerAll change l).pageJobs, deferred := (d.offerAll change l).deferred } := by
  unfold Decode.offerAll
  induction l generalizing d with
  | nil => rfl
  | cons k l ih =>
    rw [List.foldl_cons, ih]
    rcases Decode.offer_cases change k d with ⟨he, -⟩ | he | ⟨he, -⟩ <;> rw [he]

theorem Decode.offerAll_prefix (l : List Strip) (d : Decode) : d.pageJobs <+: (d.offerAll change l).pageJobs := by
  unfold Decode.offerAll
  induction l generalizing d with
  | nil => exact List.prefix_refl _
  | cons k l ih =>
    refine List.IsPrefix.trans ?_ (ih _)
    dsimp only
    rcases Decode.offer_cases change k d with ⟨he, -⟩ | he | ⟨he, -⟩ <;> rw [he]
    exact List.prefix_append _ _

theorem Decode.hasJob_of_prefix {d e : Decode} {k : Strip} (hp : d.pageJobs <+: e.pageJobs) (hr : e.running = d.running)
    (h : d.hasJob k = true) : e.hasJob k = true := by
  obtain ⟨l, hl⟩ := hp
  unfold Decode.hasJob at h ⊢
  rw [hr, ← hl, List.any_append]
  rcases (Bool.or_eq_true _ _).mp h with h | h <;> simp [h]

/-- A strip offered has a job then, unless the 30 jobs are queued. -/
theorem Decode.offerAll_queued {l : List Strip} {k : Strip} (hk : k ∈ l) (d : Decode) :
    (d.offerAll change l).hasJob k = true ∨ 30 ≤ (d.offerAll change l).pageJobs.length := by
  induction l generalizing d with
  | nil => exact absurd hk (by simp)
  | cons q l ih =>
    rcases List.mem_cons.mp hk with rfl | hk
    · have hprefix := Decode.offerAll_prefix (change := change) l (d.offer change k)
      have hrun : ((d.offer change k).offerAll change l).running = (d.offer change k).running := by
        rw [Decode.offerAll_frame]
      rcases Decode.offer_cases change k d with ⟨he, hjob⟩ | he | ⟨he, hle⟩
      · exact .inl (Decode.hasJob_of_prefix hprefix hrun (by rw [he]; exact hjob))
      · exact .inl (Decode.hasJob_of_prefix hprefix hrun (by rw [he]; simp [Decode.hasJob]))
      · refine .inr (le_trans ?_ hprefix.length_le)
        rw [he]
        exact hle
    · exact ih hk _

end Offers

theorem Blocks.mem_refillable_iff (b : Blocks) (k : Strip) :
    k ∈ b.refillable ↔ (k ∈ b.store.roles.pending.strips ∨ k ∈ b.store.roles.shown.strips)
      ∧ b.store.isHeld k = true ∧ b.store.findOpened k = none ∧ b.decode.hasJob k = false := by
  unfold Blocks.refillable
  simp [and_assoc, or_and_right]

/-- The offers of a refill made, the mark not yet cleared. -/
def Blocks.refilled (change : Half) (b : Blocks) : Blocks :=
  b.withDecode (fun d => { d.offerAll change b.refillable with deferred := true })

theorem Blocks.refilled_frame (change : Half) (b : Blocks) :
    b.refilled change = { b with decode := { b.decode with
      pageJobs := (b.decode.offerAll change b.refillable).pageJobs, deferred := true } } :=
  congrArg (fun d : Decode => { b with decode := { d with deferred := true } }) (Decode.offerAll_frame b.refillable b.decode)

theorem Blocks.refill_due {change : Half} {b : Blocks} (hd : b.decode.deferred = true) (hl : b.decode.pageJobs.length < 30) :
    b.refill change = (b.refilled change).withDecode
      (fun d => { d with deferred := !(b.refilled change).refillable.isEmpty }) := by
  unfold Blocks.refill
  rw [if_pos (by simp [hd, hl, Config.pageJobLimit])]
  dsimp only
  split
  · next h =>
    rw [show (b.refilled change).refillable.isEmpty = true from h]
    rfl
  · next h =>
    rw [show (b.refilled change).refillable.isEmpty = false from Bool.eq_false_iff.mpr h]
    rfl

/-- The refill at its due, against the strips of the two page sets that want a job. -/
theorem refill_takesHeldStrips (change : Half) (b c : Blocks) (wanting : Decode → Strip → Prop) (hc : c = b.refill change)
    (hw : ∀ d k, wanting d k ↔ (k ∈ b.store.roles.pending.strips ∨ k ∈ b.store.roles.shown.strips)
      ∧ b.store.isHeld k = true ∧ b.store.findOpened k = none ∧ d.hasJob k = false) :
    (b.decode.deferred = false ∨ 30 ≤ b.decode.pageJobs.length → c = b)
      ∧ (b.decode.deferred = true → b.decode.pageJobs.length < 30 →
        c = { b with decode := { b.decode with pageJobs := c.decode.pageJobs, deferred := c.decode.deferred } }
        ∧ b.decode.pageJobs <+: c.decode.pageJobs ∧ c.decode.pageJobs.length ≤ 30
        ∧ (∀ j ∈ c.decode.pageJobs, j ∈ b.decode.pageJobs ∨ (j.tag = change ∧ wanting b.decode j.id))
        ∧ (c.decode.pageJobs.length = 30 ∨ ∀ k, ¬ wanting c.decode k)
        ∧ (c.decode.deferred = false ↔ ∀ k, ¬ wanting c.decode k)) := by
  refine ⟨fun h => hc.trans (Blocks.refill_resting h), fun hd hl => ?_⟩
  have hdue := Blocks.refill_due (change := change) hd hl
  rw [← hc] at hdue
  have hframe := b.refilled_frame change
  have hjobs : c.decode.pageJobs = (b.decode.offerAll change b.refillable).pageJobs := by rw [hdue]; rfl
  have hlen : c.decode.pageJobs.length ≤ 30 := by
    rw [hjobs]
    exact of_decide_eq_true (Decode.wf_offerAll change b.refillable (d := b.decode) (decide_eq_true (Nat.le_of_lt hl)))
  have hwanting : ∀ k, wanting c.decode k ↔ k ∈ (b.refilled change).refillable := fun k => by
    rw [hw, Blocks.mem_refillable_iff, hdue]
    exact Iff.rfl
  refine ⟨?_, ?_, hlen, fun j hj => ?_, ?_, ?_⟩
  · rw [hdue, hframe]
    rfl
  · rw [hjobs]
    exact Decode.offerAll_prefix _ _
  · rw [hjobs] at hj
    refine (Decode.mem_offerAll hj).imp_right fun ⟨htag, hmem⟩ => ⟨htag, ?_⟩
    exact (hw _ _).mpr ((b.mem_refillable_iff _).mp hmem)
  · by_cases hfull : 30 ≤ c.decode.pageJobs.length
    · exact .inl (le_antisymm hlen hfull)
    · refine .inr fun k hk => ?_
      obtain ⟨hset, hheld, hopen, hnone⟩ := (hw _ _).mp hk
      have hprefix : b.decode.pageJobs <+: c.decode.pageJobs := hjobs ▸ Decode.offerAll_prefix _ _
      have hrun : c.decode.running = b.decode.running := by rw [hdue, hframe]; rfl
      have hbefore : b.decode.hasJob k = false :=
        Bool.eq_false_iff.mpr fun h => by rw [Decode.hasJob_of_prefix hprefix hrun h] at hnone; exact absurd hnone (by simp)
      have hmem := (b.mem_refillable_iff k).mpr ⟨hset, hheld, hopen, hbefore⟩
      rcases Decode.offerAll_queued (change := change) hmem b.decode with hjob | hlong
      · have hjob' : c.decode.hasJob k = true := by rw [hdue]; exact hjob
        rw [hjob'] at hnone
        exact absurd hnone (by simp)
      · exact hfull (hjobs ▸ hlong)
  · have hmark : c.decode.deferred = !(b.refilled change).refillable.isEmpty := by rw [hdue]; rfl
    simp only [hwanting, hmark, Bool.not_eq_false', List.isEmpty_iff, List.eq_nil_iff_forall_not_mem]

end Sys2Proof.Machine

/-! SUPPORT. A Page Prepare job without room, and the order of evictions, in the directory's terms (R116, R117, R126, O52). -/

namespace Sys2Proof.Machine

/-- A job whose strip is not Held or has an Open entry is dropped; one without room waits for room. -/
theorem startPage_without_start (j : PageJob) (b : Blocks) (u : Nat) (hu : u = b.store.openUnitsOf j.id) :
    (b.store.isHeld j.id = false ∨ (b.store.findOpened j.id).isSome = true → b.startPage j = b)
      ∧ (b.store.isHeld j.id = true → b.store.findOpened j.id = none → b.findRoom (some j.id) u = none →
        b.startPage j = { b with
          link := if b.store.exhausted then b.link
            else b.link.enqueue (.fault (exhaustedFault j.id true u b.store.freeUnits))
          store := { b.store with
            exhausted := true
            roomWait := if b.store.roomWait.contains { id := j.id, inOpen := true } then b.store.roomWait
              else b.store.roomWait ++ [{ id := j.id, inOpen := true }] } }) := by
  subst hu
  exact ⟨Blocks.startPage_dropped, fun hh ho hf =>
    (Blocks.startPage_refused hh ho hf).trans (Blocks.refuseRoom_eq j.id true _ b)⟩

/-- Room granted or refused, and the next eviction. -/
theorem room_byEvictions (b : Blocks) (working : Option Strip) (u : Nat) (opens : List Opened) (packs : List Packed)
    (back : Opened → Nat) (hwf : b.store.unitsWf = true)
    (hopens : opens = b.store.opened.filter (fun e => decide (e.ready = true ∧ e.pins = 0 ∧ working ≠ some e.id)))
    (hpacks : packs = b.store.packed.filter (fun e => decide (e.state = .held ∧ e.pins = 0 ∧ working ≠ some e.id)))
    (hback : ∀ e, back e = (b.bc.frame - e.lastShown).toNat) :
    (u ≤ b.store.freeUnits → b.findRoom working u = some b)
      ∧ (b.store.freeUnits + (opens.map Opened.units).sum + (packs.map Packed.units).sum < u → b.findRoom working u = none)
      ∧ (u ≤ b.store.freeUnits + (opens.map Opened.units).sum + (packs.map Packed.units).sum →
        ∃ c, b.findRoom working u = some c ∧ u ≤ c.store.freeUnits ∧ c.link = b.link ∧ c.bc = b.bc
          ∧ (∀ k, c.store.findOpened k = b.store.findOpened k ∨ (c.store.findOpened k = none ∧ ∃ e ∈ opens, e.id = k))
          ∧ ∀ k, c.store.findPacked k = b.store.findPacked k
            ∨ ∃ e ∈ packs, e.id = k ∧ (∀ d ∈ opens, c.store.findOpened d.id = none)
              ∧ c.store.findPacked k = some { e with
                  state := .skipped, units := 0, data := [], checkWord := 0, pins := b.store.roles.pins k })
      ∧ (∀ e ∈ opens, (∀ d ∈ opens, d ≠ e → back d < back e ∨ (back d = back e ∧ e.id.before d.id = true)) →
        b.evictNext working = some { b with store := b.store.dropOpened e.id })
      ∧ (opens = [] → ∀ e ∈ packs, (∀ d ∈ packs, d ≠ e → e.arrival.toNat < d.arrival.toNat) →
        ∃ c, b.evictNext working = some c
          ∧ c.decode = { b.decode with pageJobs := b.decode.pageJobs.filter (fun j => decide (j.id ≠ e.id)) }
          ∧ c.store.wants = (if (∃ j ∈ b.decode.pageJobs, j.id = e.id) ∨ b.decode.awaits e.id = true then
              addRun e.id.asset e.id.index e.id.index b.store.wants
            else b.store.wants)
          ∧ c.store.freeUnits = b.store.freeUnits + e.units)
      ∧ (opens = [] → packs = [] → b.evictNext working = none) := by
  rw [← Store.openCandidates_eq] at hopens
  rw [← Store.packedCandidates_eq] at hpacks
  subst hopens hpacks
  have hsorted := Store.sorted_of_unitsWf hwf
  have hunits : b.store.candidateUnits working = ((b.store.openCandidates working).map Opened.units).sum
      + ((b.store.packedCandidates working).map Packed.units).sum := rfl
  refine ⟨Blocks.findRoom_free, fun h => Blocks.findRoom_none (by omega), fun h => ?_, fun e he hlast => ?_,
    fun hnone e he hfirst => ?_, Blocks.evictNext_none⟩
  · obtain ⟨c, hc⟩ := Blocks.findRoom_some (working := working) (b := b) (u := u) (by omega)
    have hevicted := Blocks.findRoom_evicted hsorted hc
    refine ⟨c, hc, Blocks.findRoom_room hsorted hc, hevicted.link, hevicted.bc, hevicted.opened, fun k => ?_⟩
    refine (hevicted.packed k).imp_right ?_
    rintro ⟨e, he, rfl, hgone, hfound⟩
    exact ⟨e, he, rfl, hgone, hfound⟩
  · simp only [hback] at hlast
    exact Blocks.evictNext_open
      (earliestShown_eq (Table.sorted_filter _ (hsorted.2)) he hlast)
  · refine ⟨_, Blocks.evictNext_packed hnone (earliestArrived_eq he hfirst), ?_, b.evictPacked_wants e.id,
      Blocks.evictPacked_freeUnits (Store.findPacked_of_candidate hsorted he)⟩
    have hfilter : b.decode.pageJobs.filter (fun j => j.id != e.id)
        = b.decode.pageJobs.filter (fun j => decide (j.id ≠ e.id)) :=
      List.filter_congr fun j _ => by rw [Bool.eq_iff_iff]; simp
    rw [Blocks.evictPacked_decode, hfilter]

end Sys2Proof.Machine

/-! SUPPORT. What the end of an event keeps of the directory: a pinned entry, a Packed entry that is not Held, and every entry
when no Page Prepare job can start (R116, R118, R124, O52, O53). -/

namespace Sys2Proof.Machine

/-! ### An event of the blocks -/

/-- An event of the blocks of a Running station, its end written out. -/
theorem State.blocksEvent_worked {s : State} (h : s.station.Runs) (f : Station → Blocks → Blocks) {b : Blocks}
    (hb : f s.station s.station.blocks = b) :
    ∃ t, s.event (fun st => st.blocksEvent (f st)) = .next t ∧ s.Becomes s.station.scene s.station.timers b t
      ∧ t.station.blocks
        = Blocks.settle s.station.geometry s.station.scene s.station.scene s.station.blocks b := by
  subst hb
  have hsettle := Station.settle_running (st := s.station.withBlocks (f s.station)) h.1 s.station
  obtain ⟨b, hb, hworked⟩ := Station.settle_eq (s.station.withBlocks (f s.station)) s.station
  refine ⟨_, State.blocksEvent_ends h f, ⟨?_, ?_⟩, hsettle⟩
  · rw [hb]
    rfl
  · rw [hb]
    exact hworked

/-! ### What one act does to the directory -/

section Acts

variable {sc : Scene} {b c : Blocks}

/-- An act leaves the entries, drops an Open candidate, skips a Packed one, or opens a Held strip. -/
theorem Blocks.Acts.store_cases (h : Blocks.Acts sc b c) :
    (c.store.opened = b.store.opened ∧ c.store.packed = b.store.packed)
      ∨ (∃ working, ∃ e ∈ b.store.openCandidates working, c.store = b.store.dropOpened e.id)
      ∨ (∃ working, ∃ e ∈ b.store.packedCandidates working, c = b.evictPacked e.id)
      ∨ ∃ e : Opened, b.store.isHeld e.id = true ∧ b.store.findOpened e.id = none ∧ c.store = b.store.setOpened e := by
  cases h with
  | dropOpened he => exact .inr (.inl ⟨_, _, he, rfl⟩)
  | evictPacked he => exact .inr (.inr (.inl ⟨_, _, he, rfl⟩))
  | open_ hh hn _ => exact .inr (.inr (.inr ⟨_, hh, hn, rfl⟩))
  | wants _ | room _ _ | queue _ | offer _ | decode _ _ | back _ | want _ _ => exact .inl ⟨rfl, rfl⟩

theorem Blocks.Acts.sorted (h : Blocks.Acts sc b c) (hs : b.store.Sorted) : c.store.Sorted := by
  rcases h.store_cases with ⟨ho, hp⟩ | ⟨_, e, he, hc⟩ | ⟨_, e, he, hc⟩ | ⟨e, -, -, hc⟩
  · exact ⟨hp ▸ hs.1, ho ▸ hs.2⟩
  · rw [hc]
    exact (Store.evicts_dropOpened hs he).sorted
  · obtain ⟨wants, hw⟩ := b.evictPacked_store e.id
    rw [hc, hw]
    exact (Store.evicts_skip hs he).sorted
  · rw [hc]
    exact ⟨hs.1, Table.sorted_put _ hs.2⟩

/-- A pinned Open entry stays. -/
theorem Blocks.Acts.findOpened_pinned (h : Blocks.Acts sc b c) (hs : b.store.Sorted) {k : Strip} {d : Opened}
    (hd : b.store.findOpened k = some d) (hpins : 0 < d.pins) : c.store.findOpened k = some d := by
  rcases h.store_cases with ⟨ho, -⟩ | ⟨_, e, he, hc⟩ | ⟨_, e, he, hc⟩ | ⟨e, -, hn, hc⟩
  · unfold Store.findOpened
    rw [ho]
    exact hd
  · rw [hc]
    refine (Store.findOpened_dropOpened_other (fun hk => ?_) b.store).trans hd
    have hfound := Store.findOpened_of_candidate hs he
    rw [hk] at hfound
    obtain rfl := Option.some.inj (hfound.symm.trans hd)
    have hcand := (List.mem_filter.mp he).2
    simp only [Bool.and_eq_true, beq_iff_eq] at hcand
    exact absurd hcand.1.2 (Nat.ne_of_gt hpins)
  · rw [hc, Blocks.evictPacked_findOpened]
    exact hd
  · rw [hc]
    refine (Store.findOpened_setOpened_other (fun hk => ?_) b.store).trans hd
    rw [hk, hd] at hn
    exact absurd hn (by simp)

/-- A Packed entry that is not Held stays. -/
theorem Blocks.Acts.findPacked_unheld (h : Blocks.Acts sc b c) (hs : b.store.Sorted) {k : Strip} {p : Packed}
    (hp : b.store.findPacked k = some p) (hstate : p.state ≠ .held) : c.store.findPacked k = some p := by
  rcases h.store_cases with ⟨-, ho⟩ | ⟨_, e, he, hc⟩ | ⟨_, e, he, hc⟩ | ⟨e, -, -, hc⟩
  · unfold Store.findPacked
    rw [ho]
    exact hp
  · rw [hc]
    exact hp
  · rw [hc]
    refine (Blocks.evictPacked_findPacked_other (fun hk => ?_) b).trans hp
    have hfound := Store.findPacked_of_candidate hs he
    rw [hk] at hfound
    obtain rfl := Option.some.inj (hfound.symm.trans hp)
    have hcand := (List.mem_filter.mp he).2
    simp only [Bool.and_eq_true, beq_iff_eq] at hcand
    exact absurd hcand.1.1 hstate
  · rw [hc]
    exact hp

/-- No Open entry is made for a strip that is not Held. -/
theorem Blocks.Acts.findOpened_none (h : Blocks.Acts sc b c) {k : Strip} (hn : b.store.findOpened k = none)
    (hk : b.store.isHeld k = false) : c.store.findOpened k = none := by
  rcases h.store_cases with ⟨ho, -⟩ | ⟨_, e, he, hc⟩ | ⟨_, e, he, hc⟩ | ⟨e, hh, -, hc⟩
  · unfold Store.findOpened
    rw [ho]
    exact hn
  · rw [hc]
    by_cases hek : e.id = k
    · rw [hek]
      exact Store.findOpened_dropOpened_same k b.store
    · exact (Store.findOpened_dropOpened_other hek b.store).trans hn
  · rw [hc, Blocks.evictPacked_findOpened]
    exact hn
  · rw [hc]
    refine (Store.findOpened_setOpened_other (fun hek => ?_) b.store).trans hn
    rw [hek, hk] at hh
    exact absurd hh (by simp)

end Acts

theorem Store.isHeld_of_entry {s : Store} {k : Strip} {p : Packed} (h : s.findPacked k = some p) (hp : p.state ≠ .held) :
    s.isHeld k = false := by
  unfold Store.isHeld
  rw [h]
  simpa using hp

section Ends

variable {sc : Scene} {b c : Blocks}

/-- A pinned Open entry stays to the end of the event. -/
theorem Blocks.Ends.findOpened_pinned (h : Blocks.Ends sc b c) (hs : b.store.Sorted) {k : Strip} {d : Opened}
    (hd : b.store.findOpened k = some d) (hpins : 0 < d.pins) : c.store.findOpened k = some d :=
  (h.keep (P := fun b => b.store.Sorted ∧ b.store.findOpened k = some d)
    (fun _ _ ⟨hs, hd⟩ hact => ⟨hact.sorted hs, hact.findOpened_pinned hs hd hpins⟩) ⟨hs, hd⟩).2

/-- A Packed entry that is not Held stays to the end of the event. -/
theorem Blocks.Ends.findPacked_unheld (h : Blocks.Ends sc b c) (hs : b.store.Sorted) {k : Strip} {p : Packed}
    (hp : b.store.findPacked k = some p) (hstate : p.state ≠ .held) : c.store.findPacked k = some p :=
  (h.keep (P := fun b => b.store.Sorted ∧ b.store.findPacked k = some p)
    (fun _ _ ⟨hs, hp⟩ hact => ⟨hact.sorted hs, hact.findPacked_unheld hs hp hstate⟩) ⟨hs, hp⟩).2

/-- No Open entry is made to the end of the event for a strip with a Packed entry that is not Held. -/
theorem Blocks.Ends.findOpened_none (h : Blocks.Ends sc b c) (hs : b.store.Sorted) {k : Strip} {p : Packed}
    (hp : b.store.findPacked k = some p) (hstate : p.state ≠ .held) (hn : b.store.findOpened k = none) :
    c.store.findOpened k = none :=
  (h.keep (P := fun b => (b.store.Sorted ∧ b.store.findPacked k = some p) ∧ b.store.findOpened k = none)
    (fun _ _ ⟨⟨hs, hp⟩, hn⟩ hact => ⟨⟨hact.sorted hs, hact.findPacked_unheld hs hp hstate⟩,
      hact.findOpened_none hn (Store.isHeld_of_entry hp hstate)⟩) ⟨⟨hs, hp⟩, hn⟩).2

end Ends

/-! ### The work that leaves the directory -/

/-- `c` is `b` with work of the Decode Unit that touches no entry: of the store the Want list and the outstanding Wants, of the
queue of Page Prepare jobs and the deferred mark nothing. -/
structure Blocks.Still (b c : Blocks) : Prop where
  store : c.store = { b.store with wants := c.store.wants, outstanding := c.store.outstanding }
  jobs : c.decode.pageJobs = b.decode.pageJobs
  deferred : c.decode.deferred = b.decode.deferred

theorem Blocks.still_refl (b : Blocks) : b.Still b := ⟨rfl, rfl, rfl⟩

theorem Blocks.Still.trans {b c d : Blocks} (h : b.Still c) (k : c.Still d) : b.Still d :=
  ⟨k.store.trans (congrArg (fun s : Store => { s with wants := d.store.wants, outstanding := d.store.outstanding }) h.store),
    k.jobs.trans h.jobs, k.deferred.trans h.deferred⟩

theorem Blocks.still_of_store {b c : Blocks} (hs : c.store = b.store) (hj : c.decode.pageJobs = b.decode.pageJobs)
    (hd : c.decode.deferred = b.decode.deferred) : b.Still c := ⟨by rw [hs], hj, hd⟩

theorem Blocks.still_withDecode {f : Decode → Decode} {b : Blocks} (hj : (f b.decode).pageJobs = b.decode.pageJobs)
    (hd : (f b.decode).deferred = b.decode.deferred) : b.Still (b.withDecode f) := ⟨rfl, hj, hd⟩

section Still

variable {sc : Scene}

theorem Blocks.still_beginBatch (q : Batch) (b : Blocks) : b.Still (b.beginBatch q) := by
  unfold Blocks.beginBatch
  split <;> exact Blocks.still_of_store rfl rfl rfl

theorem Blocks.still_writeBack (q : Batch) (i : Nat) (rows : SurfaceRows) (b : Blocks) : b.Still (b.writeBack q i rows) := by
  unfold Blocks.writeBack
  split <;> exact Blocks.still_of_store rfl rfl rfl

theorem Blocks.still_completeBatch (q : Batch) (b : Blocks) : b.Still (b.completeBatch q) := by
  unfold Blocks.completeBatch
  dsimp only
  split <;> exact Blocks.still_of_store rfl rfl rfl

theorem Blocks.still_advanceBatch (n : Nat) (q : Batch) (b : Blocks) : b.Still (b.advanceBatch sc n q) := by
  induction n generalizing q b with
  | zero => exact Blocks.still_of_store rfl rfl rfl
  | succ n ih =>
    unfold Blocks.advanceBatch
    split
    · split
      · exact (b.still_beginBatch q).trans (Blocks.still_completeBatch q _)
      · exact Blocks.still_of_store rfl rfl rfl
    · dsimp only
      have hbegun := b.still_beginBatch q
      split
      · exact hbegun.trans (Blocks.still_of_store rfl rfl rfl)
      · have hwritten := fun i => hbegun.trans (Blocks.still_writeBack q i .filled _)
        split
        · exact (hwritten _).trans (Blocks.still_of_store rfl rfl rfl)
        · exact (hwritten _).trans (ih _ _)

theorem Blocks.still_takeBatch (q : Batch) (b : Blocks) : b.Still (b.takeBatch sc q) := Blocks.still_advanceBatch _ q b

theorem Blocks.still_takeCheck (c : CheckJob) (b : Blocks) : b.Still (b.takeCheck c) := by
  unfold Blocks.takeCheck
  split <;> exact Blocks.still_of_store rfl rfl rfl

/-- A choice that is not of a Page Prepare job. -/
theorem Blocks.still_chooseOne {b c : Blocks} (h : b.chooseOne sc = some c) (hj : b.decode.pageJobs = []) : b.Still c := by
  rcases Blocks.chooseOne_cases h with ⟨-, ⟨j, rest, hjobs, -⟩ | ⟨-, q, -, hc⟩ | ⟨-, -, q, -, -, hc⟩ | ⟨-, -, -, k, -, hc⟩⟩
  · rw [hj] at hjobs
    exact absurd hjobs (by simp)
  · rw [hc]
    exact (Blocks.still_withDecode rfl rfl).trans (Blocks.still_takeBatch _ _)
  · rw [hc]
    exact (Blocks.still_withDecode rfl rfl).trans (Blocks.still_takeBatch _ _)
  · rw [hc]
    exact (Blocks.still_withDecode rfl rfl).trans (Blocks.still_takeCheck _ _)

theorem Blocks.still_chooseJobs (n : Nat) {b : Blocks} (hj : b.decode.pageJobs = []) : b.Still (b.chooseJobs sc n) := by
  induction n generalizing b with
  | zero => exact b.still_refl
  | succ n ih =>
    unfold Blocks.chooseJobs
    split
    · exact b.still_refl
    · next c h =>
      have hstill := Blocks.still_chooseOne h hj
      exact hstill.trans (ih (hstill.jobs.trans hj))

theorem Blocks.still_prefetch (g : Geometry) (b : Blocks) : b.Still (b.prefetch g sc) := by
  unfold Blocks.prefetch
  split
  · exact b.still_refl
  · split
    · exact b.still_refl
    · unfold Store.wantBatch
      split <;> exact ⟨rfl, rfl, rfl⟩

theorem Blocks.still_pageReadiness (b : Blocks) : b.Still (b.pageReadiness sc) := by
  unfold Blocks.pageReadiness
  split
  · exact b.still_refl
  · split <;> exact Blocks.still_of_store rfl rfl rfl

theorem Blocks.still_slideReadiness (b : Blocks) : b.Still (b.slideReadiness sc) := by
  unfold Blocks.slideReadiness
  split
  · exact b.still_refl
  · split <;> exact Blocks.still_of_store rfl rfl rfl

theorem Blocks.still_queueWant (b : Blocks) : b.Still b.queueWant := by
  unfold Blocks.queueWant
  split
  · exact b.still_refl
  · split <;> exact ⟨rfl, rfl, rfl⟩

theorem Blocks.still_queueWants (b : Blocks) : b.Still b.queueWants :=
  ((b.still_queueWant.trans (Blocks.still_queueWant _)).trans (Blocks.still_queueWant _)).trans (Blocks.still_queueWant _)

theorem Blocks.still_ended (b : Blocks) : b.Still ((b.pageReadiness sc).slideReadiness sc).queueWants :=
  ((b.still_pageReadiness).trans (Blocks.still_slideReadiness _)).trans (Blocks.still_queueWants _)

variable {g : Geometry} {scBefore : Scene} {before b c : Blocks}

/-- The end of an event with no Page Prepare job, no deferred one and no retry. -/
theorem Blocks.settle_still (hretry : b.retryRoom g sc.pageChange before = b) (hj : b.decode.pageJobs = [])
    (hd : b.decode.deferred = false) : b.Still (Blocks.settle g scBefore sc before b) := by
  unfold Blocks.settle
  dsimp only
  have hfirst := Blocks.still_chooseJobs (sc := sc) chooseBound hj
  rw [hretry, Blocks.refill_clear (hfirst.deferred.trans hd)]
  have hsecond := hfirst.trans (Blocks.still_chooseJobs (sc := sc) chooseBound (hfirst.jobs.trans hj))
  refine Blocks.Still.trans ?_ (Blocks.still_ended _)
  split
  · have hthird := hsecond.trans (Blocks.still_prefetch (sc := sc) g _)
    exact hthird.trans (Blocks.still_chooseJobs chooseBound (hthird.jobs.trans hj))
  · exact hsecond

/-- The end of an event whose first choice puts a job in progress, with no deferred job and no retry. -/
theorem Blocks.settle_started {r : Running} (hretry : b.retryRoom g sc.pageChange before = b)
    (hone : b.chooseOne sc = some c) (hr : c.decode.running = some r) (hd : c.decode.deferred = false) :
    c.Still (Blocks.settle g scBefore sc before b) ∧ c.decode.KeepsWork (Blocks.settle g scBefore sc before b).decode := by
  have hfirst : b.chooseJobs sc chooseBound = c := Blocks.chooseJobs_next (n := 39) hone (Blocks.chooseJobs_busy hr)
  have hprefetched := Blocks.prefetch_keepsWork g sc c
  unfold Blocks.settle
  dsimp only
  rw [hretry, hfirst, Blocks.refill_clear hd, Blocks.chooseJobs_busy hr,
    Blocks.chooseJobs_busy (hprefetched.1.trans hr)]
  split
  · exact ⟨(c.still_prefetch g).trans (Blocks.still_ended _),
      Decode.keepsWork_trans hprefetched (Blocks.ended_keepsWork sc _)⟩
  · exact ⟨c.still_ended, Blocks.ended_keepsWork sc c⟩

end Still

end Sys2Proof.Machine

/-! SUPPORT. A failure of a stored strip, and the end of a Page Prepare job (R113, R127, O52, O53). -/

namespace Sys2Proof.Machine

/-! ### A failure (R110, R113) -/

section Failure

variable {g : Geometry} {k : Strip} {n : Nat} {p : Packed} {b : Blocks}

/-- What follows a failure is a Want, or the fault of a Broken strip and the end of its Wants. -/
theorem Blocks.afterFailure_frame (g : Geometry) (k : Strip) (n : Nat) (b : Blocks) :
    b.afterFailure g k n = { b with
      link := if n = 1 then b.link else b.link.enqueue (.fault (brokenFault k))
      store := { b.store with wants := (b.afterFailure g k n).store.wants } } := by
  unfold Blocks.afterFailure
  split
  · split <;> rfl
  · rfl

/-- The entry of a strip that failed. -/
def Packed.failed (pins : Nat) (p : Packed) : Packed :=
  { p with state := .bad, units := 0, failures := p.failures + 1, data := [], checkWord := 0, pins := pins }

theorem Packed.failed_unheld (pins : Nat) (p : Packed) : (p.failed pins).state ≠ .held := nofun

theorem Store.findPacked_setBad {s : Store} (h : s.findPacked k = some p) :
    (s.setBad k).findPacked k = some (p.failed (s.roles.pins k)) := by
  obtain rfl : p.id = k := (Table.mem_of_find h).2
  unfold Store.setBad
  rw [Store.packedOrNew_of_find h]
  exact Store.findPacked_setPacked_same
    { p with state := .bad, units := 0, failures := p.failures + 1, data := [], checkWord := 0 } s

theorem Store.findPacked_setBad_other {j : Strip} (h : k ≠ j) (s : Store) : (s.setBad k).findPacked j = s.findPacked j := by
  refine Store.findPacked_setPacked_other (e := { s.packedOrNew k with
    state := .bad, units := 0, failures := (s.packedOrNew k).failures + 1, data := [], checkWord := 0 }) ?_ s
  exact fun hk => h ((Store.packedOrNew_id k s).symm.trans hk)

theorem Store.dropDecoding_packed (k : Strip) (s : Store) : (s.dropDecoding k).packed = s.packed := by
  unfold Store.dropDecoding
  split
  · rfl
  · split <;> rfl

theorem Store.dropDecoding_roles (k : Strip) (s : Store) : (s.dropDecoding k).roles = s.roles := by
  unfold Store.dropDecoding
  split
  · rfl
  · split <;> rfl

theorem Store.findPacked_dropDecoding (k j : Strip) (s : Store) : (s.dropDecoding k).findPacked j = s.findPacked j := by
  unfold Store.findPacked
  rw [Store.dropDecoding_packed]

/-- The Open entry of a strip that is Decoding leaves. -/
theorem Store.findOpened_dropDecoding {e : Opened} {s : Store} (h : s.findOpened k = some e) (hr : e.ready = false) :
    (s.dropDecoding k).findOpened k = none := by
  unfold Store.dropDecoding
  rw [h]
  dsimp only
  rw [if_neg (by simp [hr])]
  exact Store.findOpened_dropOpened_same k s

theorem Store.sorted_dropDecoding {s : Store} (k : Strip) (h : s.Sorted) : (s.dropDecoding k).Sorted := by
  unfold Store.dropDecoding
  split
  · exact h
  · split
    · exact h
    · exact ⟨h.1, Table.sorted_filter _ h.2⟩

theorem Store.sorted_setBad {s : Store} (k : Strip) (h : s.Sorted) : (s.setBad k).Sorted := ⟨Table.sorted_put _ h.1, h.2⟩

/-- A stored strip's failure: the directory set, the fault of a second one queued, and the rest left. -/
theorem Blocks.failStored_frame (hp : b.store.findPacked k = some p) :
    b.failStored g k = { b with
      link := if p.failures = 0 then b.link else b.link.enqueue (.fault (brokenFault k))
      store := { (b.store.setBad k).dropDecoding k with wants := (b.failStored g k).store.wants } } := by
  have hframe := Blocks.afterFailure_frame g k ((b.store.packedOrNew k).failures + 1)
    (b.withStore (fun s => (s.setBad k).dropDecoding k))
  have hn : (b.store.packedOrNew k).failures + 1 = 1 ↔ p.failures = 0 := by
    rw [Store.packedOrNew_of_find hp]
    omega
  have hlink : (if (b.store.packedOrNew k).failures + 1 = 1 then b.link else b.link.enqueue (.fault (brokenFault k)))
      = if p.failures = 0 then b.link else b.link.enqueue (.fault (brokenFault k)) := if_congr hn rfl rfl
  rw [← hlink]
  exact hframe

theorem Blocks.failStored_findPacked (hp : b.store.findPacked k = some p) :
    (b.failStored g k).store.findPacked k = some (p.failed (b.store.roles.pins k)) := by
  rw [Blocks.failStored_frame hp]
  exact (Store.findPacked_dropDecoding k k _).trans (Store.findPacked_setBad hp)

theorem Blocks.failStored_sorted (hp : b.store.findPacked k = some p) (hs : b.store.Sorted) :
    (b.failStored g k).store.Sorted := by
  rw [Blocks.failStored_frame hp]
  exact Store.sorted_dropDecoding k (Store.sorted_setBad k hs)

theorem Blocks.failStored_findOpened {e : Opened} (hp : b.store.findPacked k = some p)
    (he : b.store.findOpened k = some e) (hr : e.ready = false) : (b.failStored g k).store.findOpened k = none := by
  rw [Blocks.failStored_frame hp]
  exact Store.findOpened_dropDecoding (s := b.store.setBad k) he hr

theorem Blocks.failStored_link (hp : b.store.findPacked k = some p) :
    (b.failStored g k).link = if p.failures = 0 then b.link else b.link.enqueue (.fault (brokenFault k)) := by
  rw [Blocks.failStored_frame hp]

end Failure

/-! ### The job's end (R127) -/

section PageEnd

variable {g : Geometry} {j : PageJob} {e : Opened} {b : Blocks}

theorem Blocks.pageComplete_of_running (hr : b.decode.running = some (.page j)) (decoded : Option Rows) :
    b.pageComplete g decoded = b.finishPage g j decoded := by
  unfold Blocks.pageComplete
  rw [hr]

/-- The Open entry of a strip whose rows are decoded. -/
def Opened.decodedAt (frame : Long) (rows : Rows) (pins : Nat) (e : Opened) : Opened :=
  { e with ready := true, lastShown := frame, rows := rows, pins := pins }

/-- The blocks with the strip Open and Ready. -/
def Blocks.opened (rows : Rows) (e : Opened) (b : Blocks) : Blocks :=
  { b with
    store := b.store.setOpened (e.decodedAt b.bc.frame rows e.pins)
    decode := { b.decode with running := none } }

theorem Blocks.finishPage_rows (he : b.store.findOpened j.id = some e) (rows : Rows) :
    b.finishPage g j (some rows) = b.opened rows e := by
  unfold Blocks.finishPage
  dsimp only
  split
  · next hnone => exact absurd (he.symm.trans hnone) (by simp)
  · next d hd =>
    obtain rfl := Option.some.inj (hd.symm.trans he)
    rfl

theorem Blocks.finishPage_failed : b.finishPage g j none
    = Blocks.failStored g j.id { b with decode := { b.decode with running := none } } := rfl

/-! ### The entries that the end leaves -/

theorem Blocks.opened_findOpened (he : b.store.findOpened j.id = some e) (rows : Rows) :
    (b.opened rows e).store.findOpened j.id = some (e.decodedAt b.bc.frame rows (b.store.roles.pins j.id)) := by
  have hid : e.id = j.id := (Table.mem_of_find he).2
  rw [← hid]
  exact Store.findOpened_setOpened_same (e.decodedAt b.bc.frame rows e.pins) b.store

theorem Blocks.opened_findOpened_other (he : b.store.findOpened j.id = some e) (rows : Rows) {k : Strip} (h : j.id ≠ k) :
    (b.opened rows e).store.findOpened k = b.store.findOpened k := by
  have hid : e.id = j.id := (Table.mem_of_find he).2
  exact Store.findOpened_setOpened_other (e := e.decodedAt b.bc.frame rows e.pins) (hid ▸ h) b.store

theorem Blocks.opened_freeUnits (he : b.store.findOpened j.id = some e) (rows : Rows) :
    (b.opened rows e).store.freeUnits = b.store.freeUnits := by
  have hid : e.id = j.id := (Table.mem_of_find he).2
  have hfind : b.store.findOpened e.id = some e := hid ▸ he
  show b.store.freeUnits + ((b.store.findOpened e.id).map Opened.units).getD 0 - e.units = b.store.freeUnits
  rw [hfind]
  exact Nat.add_sub_cancel _ _

theorem Blocks.opened_sorted (rows : Rows) (e : Opened) (h : b.store.Sorted) : (b.opened rows e).store.Sorted :=
  ⟨h.1, Table.sorted_put _ h.2⟩

end PageEnd

/-- A Page Prepare job's end, with its rows and without: what the directory holds then, and at the event's end. -/
theorem pageEnd_entries {s : State} {j : PageJob} {e : Opened} (hruns : s.station.Runs)
    (hr : s.station.blocks.decode.running = some (.page j)) (he : s.station.blocks.store.findOpened j.id = some e)
    (hready : e.ready = false) :
    (∀ rows, ∃ t b, exec (.pagePrepareComplete (some rows)) s = .next t
      ∧ s.Becomes s.station.scene s.station.timers b t ∧ b.decode = { s.station.blocks.decode with running := none }
      ∧ b.store.findOpened j.id = some { e with
          ready := true, lastShown := s.station.blocks.bc.frame, rows := rows
          pins := s.station.blocks.store.roles.pins j.id }
      ∧ b.store.packed = s.station.blocks.store.packed ∧ b.link = s.station.blocks.link
      ∧ (s.station.blocks.store.unitsWf = true → 0 < s.station.blocks.store.roles.pins j.id
            ∨ (s.station.blocks.decode.pageJobs = [] ∧ s.station.blocks.decode.deferred = false
              ∧ s.station.blocks.store.roomWait = []) →
          t.station.blocks.store.findOpened j.id = some { e with
            ready := true, lastShown := s.station.blocks.bc.frame, rows := rows
            pins := s.station.blocks.store.roles.pins j.id }))
    ∧ (∀ p, s.station.blocks.store.findPacked j.id = some p →
      ∃ t b, exec (.pagePrepareComplete none) s = .next t ∧ s.Becomes s.station.scene s.station.timers b t
        ∧ b.decode = { s.station.blocks.decode with running := none } ∧ b.store.findOpened j.id = none
        ∧ b.store.findPacked j.id = some { p with
            state := .bad, units := 0, failures := p.failures + 1, data := [], checkWord := 0
            pins := s.station.blocks.store.roles.pins j.id }
        ∧ (s.station.blocks.store.unitsWf = true → t.station.blocks.store.findOpened j.id = none
          ∧ t.station.blocks.store.findPacked j.id = some { p with
              state := .bad, units := 0, failures := p.failures + 1, data := [], checkWord := 0
              pins := s.station.blocks.store.roles.pins j.id })
        ∧ b.link = (if p.failures = 0 then s.station.blocks.link
            else s.station.blocks.link.enqueue (.fault (brokenFault j.id)))) := by
  refine ⟨fun rows => ?_, fun p hp => ?_⟩
  · obtain ⟨t, ht, hbecomes, hend⟩ := State.blocksEvent_worked hruns
      (fun st => Blocks.pageComplete st.geometry (some rows))
      ((Blocks.pageComplete_of_running hr _).trans (Blocks.finishPage_rows he rows))
    have hopened := Blocks.opened_findOpened he rows
    refine ⟨t, _, ht, hbecomes, rfl, hopened, rfl, rfl, fun hwf hkept => ?_⟩
    rw [hend]
    rcases hkept with hpins | ⟨hj, hd, hw⟩
    · exact (Blocks.settle_ends _ _ _ _).findOpened_pinned
        (Blocks.opened_sorted rows e (Store.sorted_of_unitsWf hwf)) hopened hpins
    · have hstill := Blocks.settle_still (g := s.station.geometry) (scBefore := s.station.scene) (sc := s.station.scene)
        (before := s.station.blocks) (b := s.station.blocks.opened rows e) (Blocks.retryRoom_empty hw) hj hd
      rw [hstill.store]
      exact hopened
  · obtain ⟨t, ht, hbecomes, hend⟩ := State.blocksEvent_worked hruns
      (fun st => Blocks.pageComplete st.geometry none)
      ((Blocks.pageComplete_of_running hr _).trans Blocks.finishPage_failed)
    have hp' : Store.findPacked ({ s.station.blocks with
        decode := { s.station.blocks.decode with running := none } } : Blocks).store j.id = some p := hp
    have hbad := Blocks.failStored_findPacked (g := s.station.geometry) hp'
    have hnone := Blocks.failStored_findOpened (g := s.station.geometry) hp' he hready
    refine ⟨t, _, ht, hbecomes, ?_, hnone, hbad, fun hwf => ?_, Blocks.failStored_link hp'⟩
    · rw [Blocks.failStored_frame hp']
    · have hsorted := Blocks.failStored_sorted (g := s.station.geometry) hp' (Store.sorted_of_unitsWf hwf)
      have hends := Blocks.settle_ends (sc := s.station.scene) s.station.geometry s.station.scene s.station.blocks
        (Blocks.failStored s.station.geometry j.id { s.station.blocks with
          decode := { s.station.blocks.decode with running := none } })
      rw [hend]
      exact ⟨hends.findOpened_none hsorted hbad (Packed.failed_unheld _ p) hnone,
        hends.findPacked_unheld hsorted hbad (Packed.failed_unheld _ p)⟩

end Sys2Proof.Machine

/-! Page Prepare jobs: O52. -/

namespace Sys2Proof.Machine

/-! ### No retry while the pin counts stand (R118) -/

theorem Store.unpinnedSince_of_pinsWf {s t : Store} (hs : s.pinsWf = true) (ht : t.pinsWf = true)
    (hr : ∀ k, s.roles.pins k ≤ t.roles.pins k) : Store.unpinnedSince s t = false := by
  obtain ⟨hsp, hso⟩ := s.pinsWf_iff.mp hs
  obtain ⟨htp, hto⟩ := t.pinsWf_iff.mp ht
  rw [Bool.eq_false_iff, ne_eq, Store.unpinnedSince_iff]
  rintro (⟨e, he, hpos, d, hd, hzero⟩ | ⟨e, he, hpos, d, hd, hzero⟩)
  · obtain ⟨hmem, hid⟩ := Table.mem_of_find hd
    have hgrown := hr e.id
    rw [hsp e he] at hpos
    rw [htp d hmem, hid] at hzero
    omega
  · obtain ⟨hmem, hid⟩ := Table.mem_of_find hd
    have hgrown := hr e.id
    rw [hso e he] at hpos
    rw [hto d hmem, hid] at hzero
    omega

/-! ### Messages of the end of an event -/

/-- `m` is `l` with messages added at the tail, each of them so. -/
def Link.AddsOnly (P : Message → Prop) (l m : Link) : Prop := ∃ added, m.queue = l.queue ++ added ∧ ∀ x ∈ added, P x

section AddsOnly

variable {P : Message → Prop}

theorem Link.addsOnly_refl (l : Link) : l.AddsOnly P l := ⟨[], (List.append_nil _).symm, by simp⟩

theorem Link.AddsOnly.trans {l m n : Link} (h : l.AddsOnly P m) (k : m.AddsOnly P n) : l.AddsOnly P n := by
  obtain ⟨added, hm, ha⟩ := h
  obtain ⟨more, hn, hb⟩ := k
  refine ⟨added ++ more, by rw [hn, hm, List.append_assoc], fun x hx => ?_⟩
  exact (List.mem_append.mp hx).elim (ha x) (hb x)

theorem Link.addsOnly_enqueue {m : Message} (h : P m) (l : Link) : l.AddsOnly P (l.enqueue m) := by
  obtain ⟨-, hq, -⟩ := l.enqueue_frame m
  rcases hq with hq | hq
  · exact ⟨[], by rw [hq, List.append_nil], by simp⟩
  · exact ⟨[m], hq, by simpa using h⟩

theorem Blocks.addsOnly_queueWant (h : ∀ w, P (.want w)) (b : Blocks) : b.link.AddsOnly P b.queueWant.link := by
  unfold Blocks.queueWant
  split
  · exact Link.addsOnly_refl _
  · split
    · exact Link.addsOnly_refl _
    · exact Link.addsOnly_enqueue (h _) _

theorem Blocks.addsOnly_queueWants (h : ∀ w, P (.want w)) (b : Blocks) : b.link.AddsOnly P b.queueWants.link :=
  (((b.addsOnly_queueWant h).trans (Blocks.addsOnly_queueWant h _)).trans (Blocks.addsOnly_queueWant h _)).trans
    (Blocks.addsOnly_queueWant h _)

theorem Blocks.addsOnly_slideReadiness (h : ∀ body : ReadyBody, body.stream = 1 → P (.ready body)) (sc : Scene) (b : Blocks) :
    b.link.AddsOnly P (b.slideReadiness sc).link := by
  unfold Blocks.slideReadiness
  split
  · exact Link.addsOnly_refl _
  · split
    · exact Link.addsOnly_enqueue (h _ rfl) _
    · exact Link.addsOnly_refl _

end AddsOnly

/-! ### The readiness test of the page stream (R54) -/

section Readiness

variable {sc : Scene} {b : Blocks} {p : Nat} (hp : sc.pendingPage = some p)
include hp

theorem Blocks.pageReadiness_sent (hs : b.decode.pageReadySent = false) (h : b.store.pageReady = true) :
    b.pageReadiness sc = { b with
      link := b.link.enqueue (.ready { stream := 0, index := p, change := sc.pageChange })
      decode := { b.decode with pageReadySent := true } } := by
  unfold Blocks.pageReadiness
  rw [hp]
  exact if_pos (by simp [hs, h])

theorem Blocks.pageReadiness_waiting (h : b.store.pageReady = false) : b.pageReadiness sc = b := by
  unfold Blocks.pageReadiness
  rw [hp]
  exact if_neg (by simp [h])

end Readiness

theorem Blocks.slideReadiness_pageReadySent (sc : Scene) (b : Blocks) :
    (b.slideReadiness sc).decode.pageReadySent = b.decode.pageReadySent := by
  unfold Blocks.slideReadiness
  split
  · rfl
  · split <;> rfl

theorem Blocks.ended_pageReadySent (sc : Scene) (b : Blocks) :
    ((b.pageReadiness sc).slideReadiness sc).queueWants.decode.pageReadySent = (b.pageReadiness sc).decode.pageReadySent := by
  rw [Blocks.queueWants_decode, Blocks.slideReadiness_pageReadySent]

theorem Store.pageReady_iff (s : Store) :
    s.pageReady = true ↔ s.roles.pending.unresolved = []
      ∧ ∀ k ∈ s.roles.pending.strips, s.isBroken k = true
        ∨ (s.isReady k = true ∧ s.isBad k = false ∧ ∀ w ∈ s.roomWait, w.id ≠ k) := by
  unfold Store.pageReady Store.isSettled Store.waitsForRoom
  simp [and_assoc]

/-- The end of an event when no job is to be chosen and no test of the show is due. -/
theorem Blocks.settle_untouched {g : Geometry} {sc : Scene} {before b : Blocks}
    (hretry : b.retryRoom g sc.pageChange before = b) (hj : b.decode.pageJobs = []) (hs : b.decode.suspended = none)
    (hb : b.decode.batch = none) (hc : b.decode.check = none) (hd : b.decode.deferred = false)
    (hp : prefetchDue sc sc before b = false) :
    Blocks.settle g sc sc before b = ((b.pageReadiness sc).slideReadiness sc).queueWants := by
  unfold Blocks.settle
  dsimp only
  rw [hretry, Blocks.chooseJobs_empty hj hs hb hc, Blocks.refill_clear hd, Blocks.chooseJobs_empty hj hs hb hc, hp]
  rfl

/-! ### After a job's end -/

section Opened

variable {b : Blocks} {j : PageJob} {e : Opened} (he : b.store.findOpened j.id = some e)
include he

theorem Blocks.opened_pinsWf (rows : Rows) (h : b.store.pinsWf = true) : (b.opened rows e).store.pinsWf = true := by
  refine (Store.preserves_setOpened (e := e.decodedAt b.bc.frame rows e.pins) (s := b.store) fun _ => ?_).pins h
  have hid : e.id = j.id := (Table.mem_of_find he).2
  have hfind : b.store.findOpened (e.decodedAt b.bc.frame rows e.pins).id = some e := hid ▸ he
  rw [hfind]
  exact Nat.le_add_left _ _

theorem Blocks.opened_isReady (rows : Rows) (k : Strip) :
    (b.opened rows e).store.isReady k = true ↔ k = j.id ∨ b.store.isReady k = true := by
  unfold Store.isReady
  by_cases hk : j.id = k
  · subst hk
    rw [Blocks.opened_findOpened he]
    simp [Opened.decodedAt]
  · rw [Blocks.opened_findOpened_other he rows hk]
    exact (or_iff_right fun h => hk h.symm).symm

theorem Blocks.opened_pageReady (rows : Rows) :
    (b.opened rows e).store.pageReady = true ↔ b.store.roles.pending.unresolved = []
      ∧ ∀ k ∈ b.store.roles.pending.strips, b.store.isBroken k = true
        ∨ ((k = j.id ∨ b.store.isReady k = true) ∧ b.store.isBad k = false ∧ ∀ w ∈ b.store.roomWait, w.id ≠ k) := by
  rw [Store.pageReady_iff]
  refine and_congr_right fun _ => forall_congr' fun k => imp_congr_right fun _ => or_congr Iff.rfl ?_
  exact and_congr (Blocks.opened_isReady he rows k) Iff.rfl

theorem Blocks.opened_retries (rows : Rows) (h : b.store.pinsWf = true) (g : Geometry) (change : Half) :
    (b.opened rows e).retryRoom g change b = b.opened rows e :=
  Blocks.retryRoom_of_pinned (Store.unpinnedSince_of_pinsWf h (Blocks.opened_pinsWf he rows h) fun _ => Nat.le_refl _)

end Opened

section After

variable {s : State} {j : PageJob} {e : Opened} {rows : Rows} (hruns : s.station.Runs)
  (hr : s.station.blocks.decode.running = some (.page j)) (he : s.station.blocks.store.findOpened j.id = some e)
  (hwf : s.station.blocks.store.pinsWf = true) (hd : s.station.blocks.decode.deferred = false)
include hruns hr he hwf hd

/-- The oldest queued job starts. -/
theorem pageEnd_nextStarts {n : PageJob} {rest : List PageJob} {a : Asset} {u : Nat}
    (hj : s.station.blocks.decode.pageJobs = n :: rest) (hheld : s.station.blocks.store.isHeld n.id = true)
    (hopen : s.station.blocks.store.findOpened n.id = none) (ha : s.station.blocks.store.asset n.id.asset = some a)
    (hu : u = (a.width * 32 + 4095) / 4096) (hroom : u ≤ s.station.blocks.store.freeUnits) :
    ∃ t, exec (.pagePrepareComplete (some rows)) s = .next t ∧ t.station.blocks.decode.running = some (.page n)
      ∧ t.station.blocks.decode.pageJobs = rest
      ∧ t.station.blocks.store.findOpened n.id = some {
          id := n.id, ready := false, units := u, pins := s.station.blocks.store.roles.pins n.id, lastShown := 0, rows := [] }
      ∧ t.station.blocks.store.freeUnits + u = s.station.blocks.store.freeUnits := by
  obtain ⟨t, ht, -, hend⟩ := State.blocksEvent_worked hruns (fun st => Blocks.pageComplete st.geometry (some rows))
    ((Blocks.pageComplete_of_running hr _).trans (Blocks.finishPage_rows he rows))
  have hne : j.id ≠ n.id := fun h => by rw [h, hopen] at he; exact absurd he (by simp)
  generalize hb : s.station.blocks.opened rows e = b at hend
  have hnone : b.store.findOpened n.id = none := by
    rw [← hb, Blocks.opened_findOpened_other he rows hne]
    exact hopen
  have hfree : b.store.freeUnits = s.station.blocks.store.freeUnits := by rw [← hb, Blocks.opened_freeUnits he rows]
  have hunits : b.store.openUnitsOf n.id = u := by
    rw [hu, ← hb]
    exact Store.openUnitsOf_of_asset (s := (s.station.blocks.opened rows e).store) ha
  have hone : b.chooseOne s.station.scene
      = some (Blocks.preparing n u { b with decode := { b.decode with pageJobs := rest } }) := by
    rw [Blocks.chooseOne_page (by rw [← hb]; rfl) (by rw [← hb]; exact hj), Blocks.startPage_free
      (b := { b with decode := { b.decode with pageJobs := rest } }) (by rw [← hb]; exact hheld) hnone]
    · exact congrArg (fun u => some (Blocks.preparing n u { b with decode := { b.decode with pageJobs := rest } })) hunits
    · exact (hunits.le.trans hroom).trans hfree.ge
  obtain ⟨hstill, hkeeps⟩ := Blocks.settle_started (g := s.station.geometry) (scBefore := s.station.scene)
    (before := s.station.blocks) (by rw [← hb]; exact Blocks.opened_retries he rows hwf _ _) hone rfl
    (by rw [← hb]; exact hd)
  rw [← hend] at hstill hkeeps
  refine ⟨t, ht, hkeeps.1, hstill.jobs, ?_, ?_⟩
  · rw [hstill.store]
    refine (Store.findOpened_setOpened_same
      { id := n.id, ready := false, units := u, pins := 0, lastShown := 0, rows := [] } b.store).trans ?_
    rw [← hb]
    rfl
  · rw [hstill.store]
    show b.store.freeUnits + ((b.store.findOpened n.id).map Opened.units).getD 0 - u + u = _
    rw [hnone, hfree]
    exact Nat.sub_add_cancel hroom

/-- The readiness of the page change is tested. -/
theorem pageEnd_readiness {p : Nat} {settled : Prop} (hj : s.station.blocks.decode.pageJobs = [])
    (hs : s.station.blocks.decode.suspended = none) (hb : s.station.blocks.decode.batch = none)
    (hc : s.station.blocks.decode.check = none) (hp : s.station.scene.pendingPage = some p)
    (hsent : s.station.blocks.decode.pageReadySent = false)
    (hsettled : settled ↔ s.station.blocks.store.roles.pending.unresolved = []
      ∧ ∀ k ∈ s.station.blocks.store.roles.pending.strips, s.station.blocks.store.isBroken k = true
        ∨ ((k = j.id ∨ s.station.blocks.store.isReady k = true) ∧ s.station.blocks.store.isBad k = false
          ∧ ∀ w ∈ s.station.blocks.store.roomWait, w.id ≠ k)) :
    ∃ t added, exec (.pagePrepareComplete (some rows)) s = .next t
      ∧ t.station.blocks.link.queue = s.station.blocks.link.queue ++ added
      ∧ (settled → t.station.blocks.decode.pageReadySent = true
        ∧ (s.station.blocks.link.silent = false → s.station.blocks.link.queue.length < 8 →
          [.ready { stream := 0, index := p, change := s.station.scene.pageChange }] <+: added))
      ∧ (¬ settled → t.station.blocks.decode.pageReadySent = false ∧ ∀ body, .ready body ∈ added → body.stream = 1) := by
  obtain ⟨t, ht, -, hend⟩ := State.blocksEvent_worked hruns (fun st => Blocks.pageComplete st.geometry (some rows))
    ((Blocks.pageComplete_of_running hr _).trans (Blocks.finishPage_rows he rows))
  have hready := hsettled.trans (Blocks.opened_pageReady he rows).symm
  have hdue : prefetchDue s.station.scene s.station.scene s.station.blocks (s.station.blocks.opened rows e) = false :=
    prefetchDue_idle rfl (fun q i x => by rw [hr]; exact nofun) hb hs
  rw [Blocks.settle_untouched (Blocks.opened_retries he rows hwf _ _) hj hs hb hc hd hdue] at hend
  by_cases h : settled
  · have hstep := Blocks.pageReadiness_sent (b := s.station.blocks.opened rows e) hp hsent (hready.mp h)
    obtain ⟨added, hqueue⟩ := ((Blocks.ended_worked s.station.scene (s.station.blocks.opened rows e)).1).isPrefix
    refine ⟨t, added, ht, by rw [hend]; exact hqueue.symm, fun _ => ⟨?_, fun hsilent hlen => ?_⟩, fun hn => absurd h hn⟩
    · rw [hend, Blocks.ended_pageReadySent, hstep]
    · have hsecond := ((Blocks.worked_trans (Blocks.worked_slideReadiness s.station.scene
        ((s.station.blocks.opened rows e).pageReadiness s.station.scene))
        (Blocks.worked_queueWants _)).1).isPrefix
      obtain ⟨more, hmore⟩ := hsecond
      have hroom := Link.enqueue_room hsilent hlen
        (.ready { stream := 0, index := p, change := s.station.scene.pageChange })
      have hfirst : ((s.station.blocks.opened rows e).pageReadiness s.station.scene).link.queue
          = s.station.blocks.link.queue ++ [.ready { stream := 0, index := p, change := s.station.scene.pageChange }] := by
        rw [hstep]
        exact congrArg Link.queue hroom
      rw [hfirst, ← hqueue, List.append_assoc] at hmore
      exact ⟨more, List.append_cancel_left hmore⟩
  · have hstep := Blocks.pageReadiness_waiting (b := s.station.blocks.opened rows e) hp
      (Bool.eq_false_iff.mpr fun hr => h (hready.mpr hr))
    obtain ⟨added, hqueue, hadded⟩ := Link.AddsOnly.trans
      (Blocks.addsOnly_slideReadiness (P := fun m => ∀ body, m = .ready body → body.stream = 1)
        (fun body h1 body' h => by cases h; exact h1) s.station.scene (s.station.blocks.opened rows e))
      (Blocks.addsOnly_queueWants (fun w body h => nomatch h) _)
    refine ⟨t, added, ht, ?_, fun hs => absurd hs h, fun _ => ⟨?_, fun body hbody => hadded _ hbody body rfl⟩⟩
    · rw [hend, hstep]
      exact hqueue
    · rw [hend, Blocks.ended_pageReadySent, hstep]
      exact hsent

end After

/-- Settles O52: the job's end by the entries it leaves, the next job and the readiness test; then the choice, the start, the
refill and room, each by the rules of its part. -/
theorem pagePrepareEnds : Obligations.PagePrepareEnds :=
  ⟨fun _ _ _ hruns hr he _ hready => pageEnd_entries hruns hr he hready,
    fun _ _ _ _ hruns hr he hwf hd => ⟨fun _ _ _ _ => pageEnd_nextStarts hruns hr he hwf hd,
      fun _ _ => pageEnd_readiness hruns hr he hwf hd⟩,
    choice_order, startPage_without_start, refill_takesHeldStrips, room_byEvictions⟩

end Sys2Proof.Machine

/-! SUPPORT. The first segment of an asset: its record, the role sets resolved and the Want list trimmed (R104, O51). -/

namespace Sys2Proof.Machine

/-! ### Strips in order -/

theorem Strip.mem_insert {k j : Strip} {l : List Strip} : k ∈ Strip.insert j l ↔ k = j ∨ k ∈ l := by
  unfold Strip.insert
  induction l with
  | nil => simp [Table.put]
  | cons q l ih =>
    unfold Table.put
    split
    · next h =>
      obtain rfl : q = j := h
      simp
    · split
      · simp
      · simp only [List.mem_cons, ih]
        tauto

theorem Strip.mem_foldl_insert {k : Strip} {a : Nat} {l : List Nat} {strips : List Strip} :
    k ∈ l.foldl (fun l i => Strip.insert { asset := a, index := i } l) strips
      ↔ k ∈ strips ∨ ∃ i ∈ l, k = { asset := a, index := i } := by
  induction l generalizing strips with
  | nil => simp
  | cons i l ih =>
    rw [List.foldl_cons, ih, Strip.mem_insert]
    simp only [List.mem_cons, exists_eq_or_imp]
    tauto

/-! ### A role set resolved (R52, R104) -/

/-- The placements of assets with a record add their strips and leave the unresolved ones. -/
theorem RoleSet.addPlacements {g : Geometry} {s : Store} {l : List Placement} {r : RoleSet} {a : Asset}
    (h : ∀ pl ∈ l, s.asset pl.asset = some a) :
    (l.foldl (RoleSet.addPlacement g s) r).unresolved = r.unresolved
      ∧ (∀ k ∈ r.strips, k ∈ (l.foldl (RoleSet.addPlacement g s) r).strips)
      ∧ ∀ pl ∈ l, ∀ i ∈ pl.strips g a.height,
        { asset := pl.asset, index := i } ∈ (l.foldl (RoleSet.addPlacement g s) r).strips := by
  induction l generalizing r with
  | nil => exact ⟨rfl, fun _ hk => hk, by simp⟩
  | cons pl l ih =>
    obtain ⟨hhead, htail⟩ := List.forall_mem_cons.mp h
    have hadd : RoleSet.addPlacement g s r pl = { r with
        strips := (pl.strips g a.height).foldl (fun l k => Strip.insert { asset := pl.asset, index := k } l) r.strips } := by
      unfold RoleSet.addPlacement
      rw [hhead]
    obtain ⟨hu, hkeep, hnew⟩ := ih (r := RoleSet.addPlacement g s r pl) htail
    rw [List.foldl_cons]
    refine ⟨hu.trans (by rw [hadd]), fun k hk => hkeep k ?_, fun p hp i hi => ?_⟩
    · rw [hadd]
      exact Strip.mem_foldl_insert.mpr (.inl hk)
    · rcases List.mem_cons.mp hp with rfl | hp
      · refine hkeep _ ?_
        rw [hadd]
        exact Strip.mem_foldl_insert.mpr (.inr ⟨i, hi, rfl⟩)
      · exact hnew p hp i hi

theorem RoleSet.resolve_resolves {g : Geometry} {s : Store} {n : Nat} {a : Asset} (h : s.asset n = some a) (r : RoleSet) :
    (r.resolve g s n).unresolved = r.unresolved.filter (fun pl => decide (pl.asset ≠ n))
      ∧ (∀ k ∈ r.strips, k ∈ (r.resolve g s n).strips)
      ∧ ∀ pl ∈ r.unresolved, pl.asset = n → ∀ i ∈ pl.strips g a.height,
        { asset := n, index := i } ∈ (r.resolve g s n).strips := by
  have hrecord : ∀ pl ∈ r.unresolved.filter (fun pl => pl.asset == n), s.asset pl.asset = some a := fun pl hpl => by
    have hasset := (List.mem_filter.mp hpl).2
    rw [beq_iff_eq] at hasset
    rw [hasset]
    exact h
  obtain ⟨hu, hkeep, hnew⟩ := RoleSet.addPlacements (g := g)
    (r := { r with unresolved := r.unresolved.filter (fun pl => pl.asset != n) }) hrecord
  refine ⟨hu.trans (List.filter_congr fun pl _ => ?_), hkeep, fun pl hpl hasset i hi => ?_⟩
  · rw [Bool.eq_iff_iff]
    simp
  · have hmem := hnew pl (List.mem_filter.mpr ⟨hpl, beq_iff_eq.mpr hasset⟩) i hi
    rw [hasset] at hmem
    exact hmem

/-- The six role sets (R114). -/
def Roles.parts : List (Roles → RoleSet) :=
  [Roles.display, Roles.shown, Roles.pending, Roles.currentSlide, Roles.pendingSlide, Roles.fading]

theorem Roles.resolve_part {g : Geometry} {s : Store} {n : Nat} {r : Roles} {f : Roles → RoleSet} (h : f ∈ Roles.parts) :
    f (r.resolve g s n) = (f r).resolve g s n := by
  simp only [Roles.parts, List.mem_cons, List.not_mem_nil, or_false] at h
  rcases h with rfl | rfl | rfl | rfl | rfl | rfl <;> rfl

theorem Roles.pins_eq (r : Roles) (k : Strip) : r.pins k = Roles.parts.countP (fun f => (f r).strips.contains k) := by
  unfold Roles.pins
  rw [← List.countP_eq_length_filter, show [r.display, r.shown, r.pending, r.currentSlide, r.pendingSlide, r.fading]
    = Roles.parts.map (fun f => f r) from rfl, List.countP_map]
  rfl

/-- Where every role set keeps its strips, no pin count falls. -/
theorem Roles.pins_mono {r t : Roles} (h : ∀ f ∈ Roles.parts, ∀ k ∈ (f r).strips, k ∈ (f t).strips) (k : Strip) :
    r.pins k ≤ t.pins k := by
  rw [Roles.pins_eq, Roles.pins_eq]
  refine List.countP_mono_left fun f hf hk => ?_
  rw [List.contains_iff_mem] at hk ⊢
  exact h f hf k hk

/-! ### Whole-asset ranges -/

theorem mem_of_mem_replaceFirst {f : WantRange → Bool} {new r : WantRange} {l : List WantRange}
    (h : r ∈ replaceFirst f new l) : r = new ∨ r ∈ l := by
  induction l with
  | nil => exact absurd h (by simp [replaceFirst])
  | cons q l ih =>
    unfold replaceFirst at h
    split at h
    · exact (List.mem_cons.mp h).imp_right fun h => List.mem_cons_of_mem q (List.mem_filter.mp h).1
    · rcases List.mem_cons.mp h with rfl | h
      · exact .inr List.mem_cons_self
      · exact (ih h).imp_right (List.mem_cons_of_mem q)

/-- A run makes no whole-asset range. -/
theorem whole_mem_of_addRun {a f e n : Nat} {l : List WantRange} (h : { asset := n, span := none } ∈ addRun a f e l) :
    { asset := n, span := none } ∈ l := by
  unfold addRun at h
  split at h
  · exact h
  · split at h
    · exact (mem_of_mem_replaceFirst h).resolve_left nofun
    · split at h
      · exact (List.mem_append.mp h).resolve_right (by simp)
      · exact h

theorem whole_mem_of_addStrips {strips : List Strip} {n : Nat} {l : List WantRange}
    (h : { asset := n, span := none } ∈ addStrips strips l) : { asset := n, span := none } ∈ l := by
  unfold addStrips at h
  generalize runsOf strips = runs at h
  induction runs generalizing l with
  | nil => exact h
  | cons run runs ih => exact whole_mem_of_addRun (ih h)

/-! ### The record -/

section Meet

variable {g : Geometry} {q : Segment} {b : Blocks}

theorem Blocks.meetAsset_known {a : Asset} (h : b.store.asset q.asset = some a) : b.meetAsset g q = b := by
  unfold Blocks.meetAsset
  rw [h]

variable (h : b.store.asset q.asset = none)
include h

theorem Blocks.meetAsset_new :
    b.meetAsset g q = b.addAsset g { id := q.asset, width := q.width, height := q.height } := by
  unfold Blocks.meetAsset
  rw [h]

/-- The first segment of an asset: the blocks besides the store and the batches are kept. -/
theorem Blocks.meetAsset_record :
    (b.meetAsset g q).link = b.link ∧ (b.meetAsset g q).bc = b.bc
      ∧ (b.meetAsset g q).store.asset q.asset = some { id := q.asset, width := q.width, height := q.height }
      ∧ { asset := q.asset, span := none } ∉ (b.meetAsset g q).store.wants
      ∧ ∀ f ∈ Roles.parts,
        (f (b.meetAsset g q).store.roles).unresolved
            = (f b.store.roles).unresolved.filter (fun pl => decide (pl.asset ≠ q.asset))
          ∧ (∀ k ∈ (f b.store.roles).strips, k ∈ (f (b.meetAsset g q).store.roles).strips)
          ∧ ∀ pl ∈ (f b.store.roles).unresolved, pl.asset = q.asset → ∀ i ∈ pl.strips g q.height,
            { asset := q.asset, index := i } ∈ (f (b.meetAsset g q).store.roles).strips := by
  rw [Blocks.meetAsset_new h]
  have hfind : Table.find Asset.key { asset := q.asset, index := 0 }
      (Table.put Asset.key { id := q.asset, width := q.width, height := q.height } b.store.assets)
      = some { id := q.asset, width := q.width, height := q.height } :=
    Table.find_put_same Asset.key { id := q.asset, width := q.width, height := q.height } b.store.assets
  refine ⟨rfl, rfl, hfind, fun hwhole => ?_, fun f hf => ?_⟩
  · have hleft := whole_mem_of_addStrips hwhole
    have hfilter := (List.mem_filter.mp (show _ ∈ removeWhole q.asset b.store.wants from hleft)).2
    simp at hfilter
  · have hpart := Roles.resolve_part (g := g) (n := q.asset) (r := b.store.roles)
      (s := { b.store with
        assets := Table.put Asset.key { id := q.asset, width := q.width, height := q.height } b.store.assets
        wants := removeWhole q.asset b.store.wants }) hf
    have hroles : (b.addAsset g { id := q.asset, width := q.width, height := q.height }).store.roles
        = b.store.roles.resolve g { b.store with
          assets := Table.put Asset.key { id := q.asset, width := q.width, height := q.height } b.store.assets
          wants := removeWhole q.asset b.store.wants } q.asset := rfl
    rw [hroles, hpart]
    exact RoleSet.resolve_resolves (s := { b.store with
      assets := Table.put Asset.key { id := q.asset, width := q.width, height := q.height } b.store.assets
      wants := removeWhole q.asset b.store.wants }) (n := q.asset)
      (a := { id := q.asset, width := q.width, height := q.height }) hfind (f b.store.roles)

end Meet

end Sys2Proof.Machine

/-! SUPPORT. The classes of an arriving strip and what each leaves (R109 to R112, R117, O51). -/

namespace Sys2Proof.Machine

/-! ### The entry that an arrival sets -/

section Entry

variable {s : Store} {k : Strip}

theorem Store.packedOrNew_failures (s : Store) (k : Strip) :
    (s.packedOrNew k).failures = ((s.findPacked k).map Packed.failures).getD 0 := by
  unfold Store.packedOrNew
  cases s.findPacked k <;> rfl

/-- An entry set under the strip's own key. -/
theorem Store.findPacked_setPacked {e : Packed} (h : e.id = k) (s : Store) :
    (s.setPacked e).findPacked k = some { e with pins := s.roles.pins k } := by
  subst h
  exact Store.findPacked_setPacked_same e s

theorem Store.freeUnits_setPacked {e : Packed} (h : e.id = k) (s : Store) :
    (s.setPacked e).freeUnits = s.freeUnits + ((s.findPacked k).map Packed.units).getD 0 - e.units := by
  subst h
  rfl

/-- An entry made from the strip's own, by what is set in it. -/
theorem Store.setOwn_entry (s : Store) (k : Strip) {f : Packed → Packed} (hf : ∀ e, (f e).id = e.id) :
    (s.setPacked (f (s.packedOrNew k))).findPacked k = some { f (s.packedOrNew k) with pins := s.roles.pins k }
      ∧ (s.setPacked (f (s.packedOrNew k))).freeUnits
        = s.freeUnits + ((s.findPacked k).map Packed.units).getD 0 - (f (s.packedOrNew k)).units :=
  have hid := (hf _).trans (Store.packedOrNew_id k s)
  ⟨Store.findPacked_setPacked hid s, Store.freeUnits_setPacked hid s⟩

theorem Store.skip_entry (s : Store) (k : Strip) :
    (s.skip k).findPacked k = some { s.packedOrNew k with
        state := .skipped, units := 0, data := [], checkWord := 0, pins := s.roles.pins k }
      ∧ (s.skip k).freeUnits = s.freeUnits + ((s.findPacked k).map Packed.units).getD 0 :=
  s.setOwn_entry k (f := fun e => { e with state := .skipped, units := 0, data := [], checkWord := 0 }) fun _ => rfl

theorem Store.setBad_entry (s : Store) (k : Strip) :
    (s.setBad k).findPacked k = some ((s.packedOrNew k).failed (s.roles.pins k))
      ∧ (s.setBad k).freeUnits = s.freeUnits + ((s.findPacked k).map Packed.units).getD 0 :=
  s.setOwn_entry k (f := fun e => { e with
    state := .bad, units := 0, failures := e.failures + 1, data := [], checkWord := 0 }) fun _ => rfl

theorem Store.hold_entry (s : Store) (k : Strip) (data : List Byte) (checkWord : Half) :
    (s.hold k data checkWord).findPacked k = some { s.packedOrNew k with
        state := .held, units := packedUnits data.length, arrival := s.arrivals, data := data, checkWord := checkWord
        pins := s.roles.pins k }
      ∧ (s.hold k data checkWord).freeUnits
        = s.freeUnits + ((s.findPacked k).map Packed.units).getD 0 - packedUnits data.length :=
  s.setOwn_entry k (f := fun e => { e with
    state := .held, units := packedUnits data.length, arrival := s.arrivals, data := data, checkWord := checkWord })
    fun _ => rfl

end Entry

/-! ### The header and the class -/

theorem Store.headerPasses_of_bad {q : Segment} {s : Store}
    (h : 1023 < q.asset ∨ q.width < 8 ∨ 3840 < q.width ∨ q.height < 8 ∨ 2160 < q.height ∨ q.length = 0
      ∨ (q.height + 7) / 8 ≤ q.index ∨ ∃ a, s.asset q.asset = some a ∧ (a.width ≠ q.width ∨ a.height ≠ q.height)) :
    s.headerPasses q = false := by
  rw [Bool.eq_false_iff]
  intro hpass
  unfold Store.headerPasses isAsset stripCount at hpass
  simp only [Bool.and_eq_true, decide_eq_true_eq] at hpass
  obtain ⟨⟨⟨⟨⟨⟨⟨⟨hasset, hw8⟩, hw⟩, hh8⟩, hh⟩, hlen⟩, -⟩, hindex⟩, hrecord⟩ := hpass
  rcases h with h | h | h | h | h | h | h | ⟨a, ha, hne⟩
  · omega
  · omega
  · omega
  · omega
  · omega
  · omega
  · omega
  · rw [ha] at hrecord
    simp only [Bool.and_eq_true, decide_eq_true_eq] at hrecord
    exact hne.elim (fun h => h hrecord.1) (fun h => h hrecord.2)

section Classify

variable {g : Geometry} {change : Half} {q : Segment} {k : Strip} {m : Blocks}
  (hk : k = { asset := q.asset, index := q.index })
include hk

theorem Blocks.classify_kept (h : m.store.isHeld k = true ∨ m.store.isBroken k = true
      ∨ (q.passes = false ∧ m.store.needed g k = false)) : m.classify g change q = m := by
  subst hk
  unfold Blocks.classify
  dsimp only
  by_cases hhb : (m.store.isHeld { asset := q.asset, index := q.index }
      || m.store.isBroken { asset := q.asset, index := q.index }) = true
  · exact if_pos hhb
  · obtain ⟨hp, hn⟩ : q.passes = false ∧ m.store.needed g { asset := q.asset, index := q.index } = false := by
      simpa [or_assoc, hhb] using (or_assoc.mpr h).resolve_left (by simpa using hhb)
    rw [if_neg hhb, hp, hn]
    rfl

variable (hh : m.store.isHeld k = false) (hb : m.store.isBroken k = false)
include hh hb

theorem Blocks.classify_damaged (hp : q.passes = false) (hn : m.store.needed g k = true) :
    m.classify g change q = m.failArrival g k := by
  subst hk
  unfold Blocks.classify
  dsimp only
  rw [hh, hb, hp, hn]
  rfl

theorem Blocks.classify_needed (hp : q.passes = true) (hn : m.store.needed g k = true) :
    m.classify g change q = m.storeNeeded change k q := by
  subst hk
  unfold Blocks.classify
  dsimp only
  rw [hh, hb, hp, hn]
  rfl

theorem Blocks.classify_unneeded (hp : q.passes = true) (hn : m.store.needed g k = false) :
    m.classify g change q = if m.store.placed k then m.withStore (Store.skip k) else m.storeReserve change k q := by
  subst hk
  unfold Blocks.classify
  dsimp only
  rw [hh, hb, hp, hn]
  rfl

end Classify

/-! ### What a stored strip leaves -/

/-- The blocks with the strip Held and handed on. -/
def Blocks.heldWith (change : Half) (k : Strip) (data : List Byte) (checkWord : Half) (c : Blocks) : Blocks :=
  (c.withStore (Store.hold k data checkWord)).handHeld change k

theorem Blocks.handHeld_frame (change : Half) (k : Strip) (b : Blocks) :
    b.handHeld change k = { b with
      store := { b.store with wants := removeStrip k b.store.wants }
      decode := if (b.store.roles.pending.strips.contains k || b.store.roles.shown.strips.contains k)
          && !b.store.isReady k then b.decode.offer change k else b.decode } := by
  unfold Blocks.handHeld
  dsimp only
  split <;> rfl

section Held

variable {change : Half} {k : Strip} {data : List Byte} {checkWord : Half} {c : Blocks}

theorem Blocks.heldWith_store : (c.heldWith change k data checkWord).store
    = { c.store.hold k data checkWord with wants := removeStrip k c.store.wants } := by
  unfold Blocks.heldWith
  rw [Blocks.handHeld_frame]
  rfl

theorem Blocks.heldWith_link : (c.heldWith change k data checkWord).link = c.link := by
  unfold Blocks.heldWith
  rw [Blocks.handHeld_frame]
  rfl

theorem Blocks.heldWith_bc : (c.heldWith change k data checkWord).bc = c.bc := by
  unfold Blocks.heldWith
  rw [Blocks.handHeld_frame]
  rfl

theorem Blocks.heldWith_decode : (c.heldWith change k data checkWord).decode
    = if (c.store.roles.pending.strips.contains k || c.store.roles.shown.strips.contains k)
        && !c.store.isReady k then c.decode.offer change k else c.decode := by
  unfold Blocks.heldWith
  rw [Blocks.handHeld_frame]
  rfl

/-- A strip of the pending or of the shown page that is not Ready is offered. -/
theorem Blocks.heldWith_offers
    (hset : (c.store.roles.pending.strips.contains k || c.store.roles.shown.strips.contains k) = true)
    (hready : (c.heldWith change k data checkWord).store.isReady k = false) :
    (c.heldWith change k data checkWord).decode.hasJob k = true
      ∨ (c.heldWith change k data checkWord).decode.deferred = true := by
  have hready' : c.store.isReady k = false := by
    rw [Blocks.heldWith_store] at hready
    exact hready
  rw [Blocks.heldWith_decode, hset, hready']
  exact Decode.offer_has change k c.decode

theorem Blocks.heldWith_full (h : c.decode.deferred = false) :
    (c.heldWith change k data checkWord).decode.deferred = false
      ∨ 30 ≤ (c.heldWith change k data checkWord).decode.pageJobs.length := by
  rw [Blocks.heldWith_decode]
  split
  · have hfull := Decode.offer_full change k c.decode (fun ht => by rw [h] at ht; exact absurd ht (by simp))
    cases hd : (c.decode.offer change k).deferred with
    | false => exact .inl rfl
    | true => exact .inr (hfull hd)
  · exact .inl h

end Held

section Store

variable {change : Half} {k : Strip} {q : Segment} {m : Blocks}

theorem Blocks.storeNeeded_granted {c : Blocks}
    (h : m.findRoom (m.decode.running.map Running.strip) (packedUnits q.length) = some c) :
    m.storeNeeded change k q = c.heldWith change k q.data q.checkWord := by
  unfold Blocks.storeNeeded
  rw [h]
  rfl

theorem Blocks.storeNeeded_refused (h : m.findRoom (m.decode.running.map Running.strip) (packedUnits q.length) = none) :
    m.storeNeeded change k q = (m.withStore (Store.skip k)).refuseRoom k false (packedUnits q.length) := by
  unfold Blocks.storeNeeded
  rw [h]

theorem Blocks.storeReserve_kept (h : 4096 + packedUnits q.length ≤ m.store.freeUnits) :
    m.storeReserve change k q = m.heldWith change k q.data q.checkWord := if_pos h

theorem Blocks.storeReserve_skipped (h : m.store.freeUnits < 4096 + packedUnits q.length) :
    m.storeReserve change k q = m.withStore (Store.skip k) := if_neg (Nat.not_le.mpr h)

end Store

/-- The evictions of a request leave the Decode Unit but for the queued jobs of evicted strips. -/
theorem Blocks.findRoom_decode {working : Option Strip} {u : Nat} {b c : Blocks} (h : b.findRoom working u = some c) :
    c.decode = { b.decode with pageJobs := c.decode.pageJobs } := by
  have hnext : ∀ {b c : Blocks}, b.evictNext working = some c → c.decode = { b.decode with pageJobs := c.decode.pageJobs } :=
    fun {b c} h => by
      rcases Blocks.evictNext_cases h with ⟨e, -, rfl⟩ | ⟨-, e, -, rfl⟩
      · rfl
      · rw [Blocks.evictPacked_decode]
  have huntil : ∀ n (b : Blocks),
      (b.evictUntil working u n).decode = { b.decode with pageJobs := (b.evictUntil working u n).decode.pageJobs } := by
    intro n
    induction n with
    | zero => exact fun b => rfl
    | succ n ih =>
      intro b
      unfold Blocks.evictUntil
      split
      · rfl
      · split
        · rfl
        · next c hc => exact (ih c).trans (congrArg
            (fun d : Decode => { d with pageJobs := (c.evictUntil working u n).decode.pageJobs }) (hnext hc))
  unfold Blocks.findRoom at h
  split at h
  · obtain rfl := Option.some.inj h
    rfl
  · split at h
    · exact absurd h (by simp)
    · obtain rfl := Option.some.inj h
      exact huntil _ b

end Sys2Proof.Machine

/-! Arriving segments: O51. -/

namespace Sys2Proof.Machine

/-! ### What an arrival leaves for the end of the event -/

/-- `c` is `b` with nothing that could move the Decode Unit at the end of the event: no job begun or ended, the batches and the
surface's switches as they were, no room made in the queue, and no pin count lower. -/
structure Blocks.Calm (b c : Blocks) : Prop where
  bc : c.bc = b.bc
  running : c.decode.running = b.decode.running
  hasBatch : c.decode.hasBatch = b.decode.hasBatch
  full : b.link.Full → c.link.Full
  pins : ∀ k, b.store.roles.pins k ≤ c.store.roles.pins k

theorem Blocks.calm_refl (b : Blocks) : b.Calm b := ⟨rfl, rfl, rfl, id, fun _ => Nat.le_refl _⟩

theorem Blocks.Calm.trans {b c d : Blocks} (h : b.Calm c) (k : c.Calm d) : b.Calm d :=
  ⟨k.bc.trans h.bc, k.running.trans h.running, k.hasBatch.trans h.hasBatch, k.full ∘ h.full,
    fun j => (h.pins j).trans (k.pins j)⟩

theorem Blocks.calm_of_same {b c : Blocks} (hbc : c.bc = b.bc) (hd : c.decode = b.decode)
    (hr : c.store.roles = b.store.roles) (hfull : b.link.Full → c.link.Full) : b.Calm c :=
  ⟨hbc, by rw [hd], by rw [hd], hfull, fun _ => by rw [hr]⟩

theorem Link.Full.ite {l m : Link} {p : Prop} [Decidable p] (h : p → l.Full) (k : ¬ p → m.Full) :
    (if p then l else m).Full := by
  split
  · next hp => exact h hp
  · next hp => exact k hp

section Calm

variable {g : Geometry} {change : Half} {k : Strip} {b : Blocks}

theorem Blocks.calm_failArrival : b.Calm (b.failArrival g k) := by
  unfold Blocks.failArrival
  rw [Blocks.afterFailure_frame]
  exact Blocks.calm_of_same rfl rfl rfl fun h => Link.Full.ite (fun _ => h) fun _ => h.enqueue _

theorem Blocks.calm_skip : b.Calm (b.withStore (Store.skip k)) := Blocks.calm_of_same rfl rfl rfl id

theorem Blocks.calm_refuseRoom (inOpen : Bool) (u : Nat) : b.Calm (b.refuseRoom k inOpen u) := by
  rw [Blocks.refuseRoom_eq]
  exact Blocks.calm_of_same rfl rfl rfl fun h => Link.Full.ite (fun _ => h) fun _ => h.enqueue _

theorem Blocks.calm_heldWith (data : List Byte) (checkWord : Half) : b.Calm (b.heldWith change k data checkWord) := by
  refine ⟨Blocks.heldWith_bc, ?_, ?_, fun h => Blocks.heldWith_link.symm ▸ h, fun j => ?_⟩
  · rw [Blocks.heldWith_decode]
    split
    · exact (Decode.keepsWork_offer change k b.decode).1
    · rfl
  · rw [Blocks.heldWith_decode]
    split
    · exact Decode.offer_hasBatch k b.decode
    · rfl
  · rw [Blocks.heldWith_store]
    exact Nat.le_refl _

theorem Blocks.calm_meetAsset (q : Segment) : b.Calm (b.meetAsset g q) := by
  cases h : b.store.asset q.asset with
  | some a =>
    rw [Blocks.meetAsset_known h]
    exact b.calm_refl
  | none =>
    obtain ⟨hlink, hbc, -, -, hparts⟩ := Blocks.meetAsset_record (g := g) h
    refine ⟨hbc, ?_, ?_, fun hf => hlink.symm ▸ hf, Roles.pins_mono fun f hf => (hparts f hf).2.1⟩
    · rw [Blocks.meetAsset_new h]
      rfl
    · rw [Blocks.meetAsset_new h]
      have hlisted : ∀ (s : Store) (o : Option Batch), (s.listBatch g q.asset o).isSome = o.isSome :=
        fun s o => Option.isSome_map
      unfold Decode.hasBatch Blocks.addAsset
      simp [Blocks.withStore, Blocks.withDecode, hlisted]

theorem Blocks.meetAsset_deferred (q : Segment) : (b.meetAsset g q).decode.deferred = b.decode.deferred := by
  unfold Blocks.meetAsset
  split <;> rfl

end Calm

/-- The end of an event rests while a job is in progress, no deferred job can be queued and no Want can go out. -/
theorem Blocks.settle_calm {g : Geometry} {sc : Scene} {before b : Blocks} {r : Running}
    (hr : before.decode.running = some r) (hcalm : before.Calm b)
    (hd : b.decode.deferred = false ∨ 30 ≤ b.decode.pageJobs.length) (hfull : before.link.Full)
    (hbefore : before.store.pinsWf = true) (hwf : b.store.pinsWf = true) :
    b.Rests (Blocks.settle g sc sc before b) := by
  have hretry : b.retryRoom g sc.pageChange before = b :=
    Blocks.retryRoom_of_pinned (Store.unpinnedSince_of_pinsWf hbefore hwf hcalm.pins)
  have hdue : prefetchDue sc sc before b = false :=
    prefetchDue_none rfl rfl rfl rfl rfl (by rw [hcalm.bc]) hcalm.hasBatch
  have hready := (Blocks.rests_pageReadiness sc b).trans (Blocks.rests_slideReadiness sc _)
  have hbusy : ∀ n, b.chooseJobs sc n = b := fun n => Blocks.chooseJobs_busy (hcalm.running.trans hr)
  have hsettle : Blocks.settle g sc sc before b = (b.pageReadiness sc).slideReadiness sc := by
    unfold Blocks.settle
    dsimp only
    rw [hretry, hbusy, Blocks.refill_resting hd, hbusy, hdue]
    exact Blocks.queueWants_full (hready.full (hcalm.full hfull))
  rw [hsettle]
  exact hready

/-! ### The arrival -/

/-- The segment's arrival leaves an entry of the strip and blocks that satisfy `P`, and in a quiet station the end of the event
leaves the store and the jobs as they are then. -/
def State.Arrives (s : State) (bytes : List Byte) (k : Strip) (P : Blocks → Packed → Prop) : Prop :=
  ∃ t b e, exec (.segmentArrival bytes) s = .next t ∧ s.Becomes s.station.scene s.station.timers b t
    ∧ b.store.findPacked k = some e ∧ P b e
    ∧ (s.station.Quiet → s.station.blocks.store.pinsWf = true → t.station.blocks.store = b.store
      ∧ t.station.blocks.decode.pageJobs = b.decode.pageJobs ∧ t.station.blocks.decode.running = b.decode.running)

section Arrives

variable {s : State} {bytes : List Byte} {q : Segment} {m b : Blocks} (hruns : s.station.Runs)
include hruns

theorem exec_segmentArrival_dropped (h : s.station.blocks.arrive s.station.geometry s.station.scene.pageChange bytes
      = s.station.blocks) :
    ∃ t, exec (.segmentArrival bytes) s = .next t ∧ s.Becomes s.station.scene s.station.timers s.station.blocks t := by
  obtain ⟨t, ht, hbecomes, -⟩ := State.blocksEvent_worked hruns
    (fun st => Blocks.arrive st.geometry st.scene.pageChange bytes) h
  exact ⟨t, ht, hbecomes⟩

variable (hq : readSegment bytes = some q) (hpass : s.station.blocks.store.headerPasses q = true)
  (hm : m = s.station.blocks.meetAsset s.station.geometry q)
  (hb : m.classify s.station.geometry s.station.scene.pageChange q = b)
include hq hpass hm hb

theorem exec_segmentArrival_classed :
    ∃ t, exec (.segmentArrival bytes) s = .next t ∧ s.Becomes s.station.scene s.station.timers b t
      ∧ t.station.blocks
        = Blocks.settle s.station.geometry s.station.scene s.station.scene s.station.blocks b := by
  refine State.blocksEvent_worked hruns (fun st => Blocks.arrive st.geometry st.scene.pageChange bytes) ?_
  unfold Blocks.arrive
  rw [hq]
  refine (if_pos hpass).trans ?_
  rw [← hm, hb]

/-- The arrival's outcome, and in a quiet station the end of the event. -/
theorem exec_segmentArrival_after {k : Strip} {e : Packed} {P : Blocks → Packed → Prop} (hcalm : m.Calm b)
    (hd : m.decode.deferred = false → b.decode.deferred = false ∨ 30 ≤ b.decode.pageJobs.length)
    (he : b.store.findPacked k = some e) (hP : P b e) :
    s.Arrives bytes k P := by
  obtain ⟨t, ht, hbecomes, hend⟩ := exec_segmentArrival_classed hruns hq hpass hm hb
  refine ⟨t, b, e, ht, hbecomes, he, hP, fun hquiet hwf => ?_⟩
  obtain ⟨hrunning, hdeferred, -, hlink⟩ := hquiet
  obtain ⟨r, hr⟩ := Option.isSome_iff_exists.mp hrunning
  have hmet : s.station.blocks.Calm m := hm ▸ Blocks.calm_meetAsset q
  have hpreserves := (s.station.blocks.preserves_meetAsset s.station.geometry q).trans
    (Blocks.preserves_classify s.station.geometry s.station.scene.pageChange (readSegment_length hq) _)
  have hwf' : b.store.pinsWf = true := by
    rw [← hb, hm]
    exact hpreserves.store.pins hwf
  have hdeferred' : m.decode.deferred = false := by
    rw [hm, Blocks.meetAsset_deferred]
    exact hdeferred
  have hrests := Blocks.settle_calm (g := s.station.geometry) (sc := s.station.scene) hr (hmet.trans hcalm) (hd hdeferred')
    (hlink.imp_right fun h => by omega) hwf hwf'
  rw [hend]
  exact ⟨hrests.store, hrests.jobs, hrests.running⟩

end Arrives

theorem packedUnits_eq (n : Nat) : packedUnits n = (n + 4095) / 4096 :=
  congrArg (· / 4096) (show n + 4096 - 1 = n + 4095 by omega)

/-- A strip stored in `c`, which is `m` but for the room made. -/
theorem Blocks.heldWith_entry {change : Half} {k : Strip} {q : Segment} {m c : Blocks} (hlen : q.data.length = q.length)
    (hp : c.store.findPacked k = m.store.findPacked k) (hl : c.link = m.link) (ha : c.store.arrivals = m.store.arrivals)
    (hr : c.store.roles = m.store.roles) :
    ∃ e, (c.heldWith change k q.data q.checkWord).store.findPacked k = some e
      ∧ e.state = .held ∧ e.units = packedUnits q.length
      ∧ e.failures = ((m.store.findPacked k).map Packed.failures).getD 0 ∧ e.arrival = m.store.arrivals ∧ e.data = q.data
      ∧ e.checkWord = q.checkWord ∧ (c.heldWith change k q.data q.checkWord).store.arrivals = m.store.arrivals + 1
      ∧ (c.heldWith change k q.data q.checkWord).link = m.link
      ∧ ((m.store.roles.pending.strips.contains k || m.store.roles.shown.strips.contains k) = true →
        (c.heldWith change k q.data q.checkWord).store.isReady k = false →
        (c.heldWith change k q.data q.checkWord).decode.hasJob k = true
          ∨ (c.heldWith change k q.data q.checkWord).decode.deferred = true) := by
  obtain ⟨hfind, -⟩ := c.store.hold_entry k q.data q.checkWord
  refine ⟨_, (congrArg (fun s : Store => s.findPacked k) Blocks.heldWith_store).trans hfind, rfl,
    congrArg packedUnits hlen, ?_, ha, rfl, rfl, ?_, Blocks.heldWith_link.trans hl, fun hset => ?_⟩
  · rw [← hp]
    exact Store.packedOrNew_failures c.store k
  · rw [Blocks.heldWith_store, ← ha]
    rfl
  · rw [← hr] at hset
    exact Blocks.heldWith_offers hset

theorem Blocks.heldWith_units {change : Half} {k : Strip} {q : Segment} {m : Blocks} (hlen : q.data.length = q.length)
    (hu : packedUnits q.length ≤ m.store.freeUnits) :
    (m.heldWith change k q.data q.checkWord).store.freeUnits + packedUnits q.length
      = m.store.freeUnits + ((m.store.findPacked k).map Packed.units).getD 0 := by
  obtain ⟨-, hfree⟩ := m.store.hold_entry k q.data q.checkWord
  rw [hlen] at hfree
  rw [Blocks.heldWith_store, show Store.freeUnits { m.store.hold k q.data q.checkWord with
    wants := removeStrip k m.store.wants } = (m.store.hold k q.data q.checkWord).freeUnits from rfl, hfree]
  omega

/-- A damaged strip that is needed: wanted again at its first failure, Broken at the second. -/
theorem Blocks.failArrival_entry {g : Geometry} {k : Strip} {m : Blocks} {n : Nat}
    (hn : n = ((m.store.findPacked k).map Packed.failures).getD 0) (hneed : m.store.needed g k = true) :
    ∃ e, (m.failArrival g k).store.findPacked k = some e ∧ e.state = .bad ∧ e.units = 0 ∧ e.failures = n + 1
      ∧ (m.failArrival g k).store.freeUnits = m.store.freeUnits + ((m.store.findPacked k).map Packed.units).getD 0
      ∧ (n = 0 → (m.failArrival g k).link = m.link
        ∧ (m.failArrival g k).store.wants = addRun k.asset k.index k.index m.store.wants)
      ∧ (n ≠ 0 → (m.failArrival g k).link = m.link.enqueue (.fault (brokenFault k))
        ∧ (m.failArrival g k).store.wants = removeStrip k m.store.wants) := by
  obtain ⟨hfind, hfree⟩ := m.store.setBad_entry k
  have hfailures : (m.store.packedOrNew k).failures = n := (m.store.packedOrNew_failures k).trans hn.symm
  have hneed' : (m.withStore (Store.setBad k)).store.needed g k = true := hneed
  unfold Blocks.failArrival
  rw [hfailures]
  by_cases h0 : n = 0
  · have hstep : (m.withStore (Store.setBad k)).afterFailure g k (n + 1)
        = (m.withStore (Store.setBad k)).withStore (Store.withWants (addRun k.asset k.index k.index)) := by
      unfold Blocks.afterFailure
      rw [if_pos (by rw [h0]), if_pos hneed']
    rw [hstep]
    exact ⟨_, hfind, rfl, rfl, congrArg (· + 1) hfailures, hfree, fun _ => ⟨rfl, rfl⟩, fun h => absurd h0 h⟩
  · have hstep : (m.withStore (Store.setBad k)).afterFailure g k (n + 1)
        = ((m.withStore (Store.setBad k)).enqueue (.fault (brokenFault k))).withStore (Store.withWants (removeStrip k)) := by
      unfold Blocks.afterFailure
      rw [if_neg (by omega)]
    rw [hstep]
    exact ⟨_, hfind, rfl, rfl, congrArg (· + 1) hfailures, hfree, fun h => absurd h h0, fun _ => ⟨rfl, rfl⟩⟩

/-- The strip is stored in `b`, where the store was `m`'s. -/
def Blocks.Stores (q : Segment) (k : Strip) (m b : Blocks) (e : Packed) : Prop :=
  e.state = .held ∧ e.units = packedUnits q.length
    ∧ e.failures = ((m.store.findPacked k).map Packed.failures).getD 0 ∧ e.arrival = m.store.arrivals ∧ e.data = q.data
    ∧ e.checkWord = q.checkWord ∧ b.store.arrivals = m.store.arrivals + 1 ∧ b.link = m.link
    ∧ ((m.store.roles.pending.strips.contains k || m.store.roles.shown.strips.contains k) = true →
      b.store.isReady k = false → b.decode.hasJob k = true ∨ b.decode.deferred = true)

theorem Blocks.calm_findRoom {working : Option Strip} {u : Nat} {b c : Blocks} (hs : b.store.Sorted)
    (h : b.findRoom working u = some c) : b.Calm c := by
  have hevicted := Blocks.findRoom_evicted hs h
  have hdecode := Blocks.findRoom_decode h
  exact ⟨hevicted.bc, by rw [hdecode], by rw [hdecode]; rfl, fun h => hevicted.link.symm ▸ h,
    fun _ => by rw [hevicted.roles]⟩

/-- The room made leaves the entry of a strip that is not Held. -/
theorem Blocks.findRoom_unheld {working : Option Strip} {u : Nat} {b c : Blocks} (hs : b.store.Sorted)
    (h : b.findRoom working u = some c) {j : Strip} (hj : b.store.isHeld j = false) :
    c.store.findPacked j = b.store.findPacked j := by
  refine ((Blocks.findRoom_evicted hs h).packed j).resolve_right ?_
  rintro ⟨e, he, rfl, -⟩
  have hheld := (List.mem_filter.mp he).2
  simp only [Bool.and_eq_true, beq_iff_eq] at hheld
  unfold Store.isHeld at hj
  rw [Store.findPacked_of_candidate hs he] at hj
  simp [hheld.1.1] at hj

/-! ### The classes (R109 to R112) -/

section Classes

variable {s : State} {bytes : List Byte} {q : Segment} {m : Blocks} {k : Strip} {n v : Nat} (hruns : s.station.Runs)
  (hq : readSegment bytes = some q) (hpass : s.station.blocks.store.headerPasses q = true)
  (hm : m = s.station.blocks.meetAsset s.station.geometry q) (hk : k = { asset := q.asset, index := q.index })
  (hv : v = ((m.store.findPacked k).map Packed.units).getD 0)
  (hn : n = ((m.store.findPacked k).map Packed.failures).getD 0)
  (hh : m.store.isHeld k = false) (hb : m.store.isBroken k = false)
include hruns hq hpass hm hk hh hb

include hv hn in
theorem arrives_damaged (hp : q.passes = false) (hneed : m.store.needed s.station.geometry k = true) :
    s.Arrives bytes k (fun b e => e.state = .bad ∧ e.units = 0 ∧ e.failures = n + 1
      ∧ b.store.freeUnits = m.store.freeUnits + v
      ∧ (n = 0 → b.link = m.link ∧ b.store.wants = addRun k.asset k.index k.index m.store.wants)
      ∧ (n ≠ 0 → b.link = m.link.enqueue (.fault (brokenFault k)) ∧ b.store.wants = removeStrip k m.store.wants)) := by
  obtain ⟨e, he, hP⟩ := Blocks.failArrival_entry hn hneed
  rw [← hv] at hP
  refine exec_segmentArrival_after hruns hq hpass hm (Blocks.classify_damaged hk hh hb hp hneed)
    Blocks.calm_failArrival (fun hd => .inl ?_) he hP
  unfold Blocks.failArrival
  rw [Blocks.afterFailure_frame]
  exact hd

include hv hn in
theorem arrives_skipped (hp : q.passes = true) (hneed : m.store.needed s.station.geometry k = false)
    (hskip : m.store.placed k = true ∨ m.store.freeUnits < 4096 + packedUnits q.length) :
    s.Arrives bytes k (fun b e => e.state = .skipped ∧ e.units = 0 ∧ e.failures = n
      ∧ b.store.freeUnits = m.store.freeUnits + v ∧ b.link = m.link ∧ b.store.wants = m.store.wants) := by
  have hclass : m.classify s.station.geometry s.station.scene.pageChange q = m.withStore (Store.skip k) := by
    rw [Blocks.classify_unneeded hk hh hb hp hneed]
    split
    · rfl
    · next hplaced => exact Blocks.storeReserve_skipped (hskip.resolve_left hplaced)
  obtain ⟨hfind, hfree⟩ := m.store.skip_entry k
  refine exec_segmentArrival_after hruns hq hpass hm hclass Blocks.calm_skip .inl hfind
    ⟨rfl, rfl, (m.store.packedOrNew_failures k).trans hn.symm, ?_, rfl, rfl⟩
  rw [hv]
  exact hfree

include hv in
theorem arrives_stored (hp : q.passes = true)
    (hroom : m.store.needed s.station.geometry k = true ∧ packedUnits q.length ≤ m.store.freeUnits
      ∨ m.store.placed k = false ∧ 4096 + packedUnits q.length ≤ m.store.freeUnits) :
    s.Arrives bytes k (fun b e => m.Stores q k b e
      ∧ b.store.freeUnits + packedUnits q.length = m.store.freeUnits + v ∧ b.store.wants = removeStrip k m.store.wants) := by
  have hlen := readSegment_length hq
  have hfree : packedUnits q.length ≤ m.store.freeUnits := by
    rcases hroom with ⟨-, h⟩ | ⟨-, h⟩ <;> omega
  have hclass : m.classify s.station.geometry s.station.scene.pageChange q
      = m.heldWith s.station.scene.pageChange k q.data q.checkWord := by
    cases hneed : m.store.needed s.station.geometry k with
    | true =>
      rw [Blocks.classify_needed hk hh hb hp hneed]
      exact Blocks.storeNeeded_granted (Blocks.findRoom_free hfree)
    | false =>
      obtain ⟨hplaced, hreserve⟩ := hroom.resolve_left fun h => by rw [hneed] at h; exact absurd h.1 (by simp)
      rw [Blocks.classify_unneeded hk hh hb hp hneed, hplaced]
      exact Blocks.storeReserve_kept hreserve
  obtain ⟨e, he, hP⟩ := Blocks.heldWith_entry (change := s.station.scene.pageChange) (m := m) hlen rfl rfl rfl rfl
  refine exec_segmentArrival_after hruns hq hpass hm hclass (Blocks.calm_heldWith _ _) Blocks.heldWith_full he ⟨hP, ?_, ?_⟩
  · rw [hv]
    exact Blocks.heldWith_units hlen hfree
  · rw [Blocks.heldWith_store]

theorem arrives_storedByEviction (hp : q.passes = true) (hneed : m.store.needed s.station.geometry k = true)
    (hwf : s.station.blocks.store.unitsWf = true) (hroom : packedUnits q.length
      ≤ m.store.freeUnits + m.store.candidateUnits (m.decode.running.map Running.strip)) :
    s.Arrives bytes k (m.Stores q k) := by
  have hsorted := Store.sorted_of_unitsWf
    (hm ▸ (s.station.blocks.preserves_meetAsset s.station.geometry q).store.units hwf)
  obtain ⟨c, hc⟩ := Blocks.findRoom_some hroom
  have hworked := (Blocks.worked_findRoom hc).2.1.1
  have hdecode := Blocks.findRoom_decode hc
  have hclass : m.classify s.station.geometry s.station.scene.pageChange q
      = c.heldWith s.station.scene.pageChange k q.data q.checkWord := by
    rw [Blocks.classify_needed hk hh hb hp hneed]
    exact Blocks.storeNeeded_granted hc
  obtain ⟨e, he, hP⟩ := Blocks.heldWith_entry (change := s.station.scene.pageChange) (readSegment_length hq)
    (Blocks.findRoom_unheld hsorted hc hh) (Blocks.findRoom_evicted hsorted hc).link (by rw [hworked])
    (Blocks.findRoom_evicted hsorted hc).roles
  exact exec_segmentArrival_after hruns hq hpass hm hclass
    ((Blocks.calm_findRoom hsorted hc).trans (Blocks.calm_heldWith _ _))
    (fun hd => Blocks.heldWith_full (by rw [hdecode]; exact hd)) he hP

include hv hn in
theorem arrives_refused (hp : q.passes = true) (hneed : m.store.needed s.station.geometry k = true)
    (hfull : m.store.freeUnits + m.store.candidateUnits (m.decode.running.map Running.strip) < packedUnits q.length) :
    s.Arrives bytes k (fun b e => e.state = .skipped ∧ e.units = 0 ∧ e.failures = n
      ∧ b.store.freeUnits = m.store.freeUnits + v ∧ b.store.exhausted = true ∧ b.store.wants = m.store.wants
      ∧ b.store.roomWait = (if m.store.roomWait.contains { id := k, inOpen := false } then m.store.roomWait
        else m.store.roomWait ++ [{ id := k, inOpen := false }])
      ∧ b.link = (if m.store.exhausted then m.link
        else m.link.enqueue (.fault (exhaustedFault k false (packedUnits q.length) (m.store.freeUnits + v))))) := by
  have hclass : m.classify s.station.geometry s.station.scene.pageChange q
      = (m.withStore (Store.skip k)).refuseRoom k false (packedUnits q.length) := by
    rw [Blocks.classify_needed hk hh hb hp hneed]
    exact Blocks.storeNeeded_refused (Blocks.findRoom_none hfull)
  have hcalm := Blocks.calm_skip.trans
    (Blocks.calm_refuseRoom (k := k) (b := m.withStore (Store.skip k)) false (packedUnits q.length))
  obtain ⟨hfind, hfree⟩ := m.store.skip_entry k
  rw [← hv] at hfree
  rw [Blocks.refuseRoom_eq] at hclass hcalm
  refine exec_segmentArrival_after hruns hq hpass hm hclass hcalm .inl hfind
    ⟨rfl, rfl, (m.store.packedOrNew_failures k).trans hn.symm, hfree, rfl, rfl, rfl, ?_⟩
  rw [← hfree]
  rfl

end Classes

/-- Settles O51: the header by the tests of R105, the record by `meetAsset_record`, and each class of R109 by its lemma. -/
theorem segmentsAreClassedAndFailuresCounted : Obligations.SegmentsAreClassedAndFailuresCounted := by
  unfold Obligations.SegmentsAreClassedAndFailuresCounted
  refine ⟨fun s bytes hruns h => exec_segmentArrival_dropped hruns ?_, fun s b m g q _ hm => ?_, ?_⟩
  · unfold Blocks.arrive
    rcases h with h | ⟨q, hq, hbad⟩
    · rw [h]
    · rw [hq]
      exact if_neg (by rw [Store.headerPasses_of_bad hbad]; exact Bool.false_ne_true)
  · subst hm
    exact ⟨fun a ha => Blocks.meetAsset_known ha, fun h => Blocks.meetAsset_record h⟩
  · intro s bytes q m k u v n cand working needed after stored hruns hq hpass hm hk hu hv hn hworking hneeded hcand hafter
      hstored
    obtain rfl : u = packedUnits q.length := hu.trans (packedUnits_eq q.length).symm
    obtain rfl : working = m.decode.running.map Running.strip := by
      rw [hworking, hm, (Blocks.calm_meetAsset q).running]
    obtain rfl : cand = m.store.candidateUnits (m.decode.running.map Running.strip) := by
      rw [hcand, ← Store.openCandidates_eq, ← Store.packedCandidates_eq]
      rfl
    have hstores : ∀ b e, stored b e ↔ m.Stores q k b e := fun b e => by rw [hstored, hn]; exact Iff.rfl
    obtain rfl : stored = m.Stores q k := funext fun b => funext fun e => propext (hstores b e)
    have harrives : ∀ P, after P ↔ s.Arrives bytes k P := hafter
    simp only [harrives]
    subst hneeded
    refine ⟨fun hkept => ?_, fun hh hb => ⟨arrives_damaged hruns hq hpass hm hk hv hn hh hb, fun hp =>
      ⟨arrives_skipped hruns hq hpass hm hk hv hn hh hb hp, arrives_stored hruns hq hpass hm hk hv hh hb hp,
        fun hneed hwf _ => arrives_storedByEviction hruns hq hpass hm hk hh hb hp hneed hwf,
        arrives_refused hruns hq hpass hm hk hv hn hh hb hp⟩⟩⟩
    obtain ⟨t, ht, hbecomes, -⟩ := exec_segmentArrival_classed hruns hq hpass hm (Blocks.classify_kept hk hkept)
    exact ⟨t, ht, hbecomes⟩

end Sys2Proof.Machine

/-! SUPPORT. What the end of an event keeps of the Decode Unit and of the back surface (R124, R130, R134, O53). -/

namespace Sys2Proof.Machine

/-! ### The steps beside the choice of jobs -/

/-- `c` is `b` after a step that is no choice of a job: the compositor is kept, and of the Decode Unit all but the queued Page
Prepare jobs, the deferred mark and the marks of the Ready messages. -/
structure Blocks.Aside (b c : Blocks) : Prop where
  bc : c.bc = b.bc
  decode : c.decode = { b.decode with
    pageJobs := c.decode.pageJobs, deferred := c.decode.deferred, pageReadySent := c.decode.pageReadySent
    slideReadySent := c.decode.slideReadySent }

theorem Blocks.aside_refl (b : Blocks) : b.Aside b := ⟨rfl, rfl⟩

theorem Blocks.Aside.trans {b c d : Blocks} (h : b.Aside c) (k : c.Aside d) : b.Aside d :=
  ⟨k.bc.trans h.bc, k.decode.trans (congrArg (fun e : Decode => { e with
    pageJobs := d.decode.pageJobs, deferred := d.decode.deferred, pageReadySent := d.decode.pageReadySent
    slideReadySent := d.decode.slideReadySent }) h.decode)⟩

theorem Blocks.aside_of_decode {b c : Blocks} (hbc : c.bc = b.bc) (hd : c.decode = b.decode) : b.Aside c :=
  ⟨hbc, by rw [hd]⟩

section Aside

variable {sc : Scene}

theorem Blocks.aside_offer (change : Half) (k : Strip) (b : Blocks) : b.Aside (b.withDecode (Decode.offer change k)) := by
  refine ⟨rfl, ?_⟩
  show b.decode.offer change k = { b.decode with
    pageJobs := (b.decode.offer change k).pageJobs, deferred := (b.decode.offer change k).deferred
    pageReadySent := (b.decode.offer change k).pageReadySent, slideReadySent := (b.decode.offer change k).slideReadySent }
  rcases Decode.offer_cases change k b.decode with ⟨h, -⟩ | h | ⟨h, -⟩ <;> rw [h]

theorem Blocks.aside_retryWait (g : Geometry) (change : Half) (b : Blocks) (w : RoomWait) :
    b.Aside (b.retryWait g change w) := by
  unfold Blocks.retryWait
  split
  · exact b.aside_refl
  · split
    · split
      · exact Blocks.aside_of_decode rfl rfl
      · split
        · exact Blocks.aside_offer change w.id b
        · exact b.aside_refl
    · split
      · exact Blocks.aside_of_decode rfl rfl
      · exact b.aside_refl

theorem Blocks.aside_retryRoom (g : Geometry) (change : Half) (b before : Blocks) :
    b.Aside (b.retryRoom g change before) := by
  unfold Blocks.retryRoom
  split
  · have hfold : ∀ (l : List RoomWait) (c : Blocks), c.Aside (l.foldl (Blocks.retryWait g change) c) := fun l => by
      induction l with
      | nil => exact fun c => c.aside_refl
      | cons w l ih => exact fun c => (Blocks.aside_retryWait g change c w).trans (ih _)
    exact Blocks.Aside.trans
      (Blocks.aside_of_decode (c := b.withStore (fun s => { s with roomWait := [] })) rfl rfl) (hfold _ _)
  · exact b.aside_refl

theorem Blocks.aside_refill (change : Half) (b : Blocks) : b.Aside (b.refill change) := by
  unfold Blocks.refill
  split
  · have hfilled : b.Aside (b.refilled change) := by
      rw [Blocks.refilled_frame]
      exact ⟨rfl, rfl⟩
    dsimp only
    split
    · exact hfilled.trans ⟨rfl, rfl⟩
    · exact hfilled
  · exact b.aside_refl

theorem Blocks.aside_pageReadiness (b : Blocks) : b.Aside (b.pageReadiness sc) := by
  unfold Blocks.pageReadiness
  split
  · exact b.aside_refl
  · split <;> exact ⟨rfl, rfl⟩

theorem Blocks.aside_slideReadiness (b : Blocks) : b.Aside (b.slideReadiness sc) := by
  unfold Blocks.slideReadiness
  split
  · exact b.aside_refl
  · split <;> exact ⟨rfl, rfl⟩

theorem Blocks.aside_queueWants (b : Blocks) : b.Aside b.queueWants :=
  Blocks.aside_of_decode b.queueWants_bc b.queueWants_decode

/-- The readiness tests and the Wants. -/
theorem Blocks.aside_ended (b : Blocks) : b.Aside ((b.pageReadiness sc).slideReadiness sc).queueWants :=
  (b.aside_pageReadiness.trans (Blocks.aside_slideReadiness _)).trans (Blocks.aside_queueWants _)

end Aside

/-! ### A property kept to the end of the event -/

section Keep

variable {P : Blocks → Prop} {sc : Scene} (hone : ∀ b c, P b → b.chooseOne sc = some c → P c)
include hone

theorem Blocks.chooseJobs_keep (n : Nat) {b : Blocks} (hb : P b) : P (b.chooseJobs sc n) := by
  induction n generalizing b with
  | zero => exact hb
  | succ n ih =>
    unfold Blocks.chooseJobs
    split
    · exact hb
    · next c h => exact ih (hone b c hb h)

theorem Blocks.settle_keep {g : Geometry} {scBefore : Scene} {before b : Blocks}
    (hside : ∀ b c, Blocks.Aside b c → P b → P c) (hprefetch : ∀ b, P b → P (b.prefetch g sc)) (hb : P b) :
    P (Blocks.settle g scBefore sc before b) := by
  unfold Blocks.settle
  dsimp only
  refine hside _ _ (Blocks.aside_ended _) ?_
  have hchosen := Blocks.chooseJobs_keep hone chooseBound (hside _ _ (Blocks.aside_refill sc.pageChange _)
    (Blocks.chooseJobs_keep hone chooseBound (hside _ _ (Blocks.aside_retryRoom g sc.pageChange b before) hb)))
  split
  · exact Blocks.chooseJobs_keep hone chooseBound (hprefetch _ hchosen)
  · exact hchosen

end Keep

/-! ### The start of a Page Prepare job leaves the rest -/

theorem Blocks.evictNext_bc {working : Option Strip} {b c : Blocks} (h : b.evictNext working = some c) : c.bc = b.bc := by
  rcases Blocks.evictNext_cases h with ⟨e, -, rfl⟩ | ⟨-, e, -, rfl⟩
  · rfl
  · exact Blocks.evictPacked_bc e.id b

theorem Blocks.evictUntil_bc {working : Option Strip} {u : Nat} (n : Nat) (b : Blocks) :
    (b.evictUntil working u n).bc = b.bc := by
  induction n generalizing b with
  | zero => rfl
  | succ n ih =>
    unfold Blocks.evictUntil
    split
    · rfl
    · split
      · rfl
      · next c h => exact (ih c).trans (Blocks.evictNext_bc h)

theorem Blocks.findRoom_bc {working : Option Strip} {u : Nat} {b c : Blocks} (h : b.findRoom working u = some c) :
    c.bc = b.bc := by
  unfold Blocks.findRoom at h
  split at h
  · obtain rfl := Option.some.inj h
    rfl
  · split at h
    · exact absurd h (by simp)
    · obtain rfl := Option.some.inj h
      exact Blocks.evictUntil_bc _ b

/-- A job that starts is the job in progress, and evictions may take queued jobs; else the Decode Unit is kept. -/
theorem Blocks.startPage_leaves (j : PageJob) (b : Blocks) :
    (b.startPage j).bc = b.bc ∧ ((b.startPage j).decode = b.decode
      ∨ (b.startPage j).decode = { b.decode with
          pageJobs := (b.startPage j).decode.pageJobs, running := some (.page j) }) := by
  by_cases hd : b.store.isHeld j.id = false ∨ (b.store.findOpened j.id).isSome = true
  · rw [Blocks.startPage_dropped hd]
    exact ⟨rfl, .inl rfl⟩
  · rw [not_or, Bool.not_eq_false, Bool.not_eq_true, Option.isSome_eq_false_iff, Option.isNone_iff_eq_none] at hd
    obtain ⟨hh, ho⟩ := hd
    cases hf : b.findRoom (some j.id) (b.store.openUnitsOf j.id) with
    | none =>
      rw [Blocks.startPage_refused hh ho hf, Blocks.refuseRoom_eq]
      exact ⟨rfl, .inl rfl⟩
    | some c =>
      rw [Blocks.startPage_granted hh ho hf]
      refine ⟨(show c.bc = b.bc from Blocks.findRoom_bc hf), .inr ?_⟩
      have hdecode := Blocks.findRoom_decode hf
      exact congrArg (fun d : Decode => { d with pageJobs := c.decode.pageJobs, running := some (.page j) }) hdecode

/-! ### The Decode Unit's batches at rest, and the back surface with them -/

/-- No batch is queued or suspended, and the compositor and the reported change are these. -/
def Blocks.BackAt (bc : Compositor) (reported : Option Half) (b : Blocks) : Prop :=
  b.decode.NoBatch ∧ b.bc = bc ∧ b.decode.reported = reported

/-- Where no batch is queued or suspended and no prefetch can be made, the end of an event leaves the back surface and the
reported change (R130, R134). -/
theorem Blocks.settle_back {g : Geometry} {scBefore sc : Scene} {before b : Blocks}
    (hp : sc.show_ = .stopped ∨ sc.pendingIndex.isSome = true) (hb : b.decode.batch = none)
    (hs : b.decode.suspended = none) :
    (Blocks.settle g scBefore sc before b).bc = b.bc
      ∧ (Blocks.settle g scBefore sc before b).decode.reported = b.decode.reported := by
  refine (Blocks.settle_keep (P := Blocks.BackAt b.bc b.decode.reported) (fun b c hP hc => ?_) (fun b c hside hP => ?_)
    (fun b hP => by rw [Blocks.prefetch_none hp]; exact hP) ⟨⟨hb, hs⟩, rfl, rfl⟩).2
  · obtain ⟨hno, hbc, hrep⟩ := hP
    refine ⟨Blocks.noBatch_chooseOne hc hno, ?_⟩
    obtain ⟨-, ⟨j, rest, -, rfl⟩ | ⟨-, q, hq, -⟩ | ⟨-, -, q, hq, -⟩ | ⟨-, -, -, k, -, rfl⟩⟩ := Blocks.chooseOne_cases hc
    · obtain ⟨hstart, hdecode⟩ := Blocks.startPage_leaves j (b.withDecode (fun d => { d with pageJobs := rest }))
      refine ⟨hstart.trans hbc, ?_⟩
      rcases hdecode with h | h <;> rw [h] <;> exact hrep
    · exact absurd (hno.2.symm.trans hq) (by simp)
    · exact absurd (hno.1.symm.trans hq) (by simp)
    · unfold Blocks.takeCheck
      split <;> exact ⟨hbc, hrep⟩
  · obtain ⟨hno, hbc, hrep⟩ := hP
    refine ⟨hno.of_same ⟨?_, ?_⟩, hside.bc.trans hbc, ?_⟩ <;> rw [hside.decode]
    exact hrep

/-! ### No Check, and no removed batch -/

/-- No Check is queued or in progress. -/
def Decode.NoCheck (d : Decode) : Prop := d.check = none ∧ ∀ c k, d.running ≠ some (.check c k)

theorem Blocks.advanceBatch_noCheck {sc : Scene} (n : Nat) (q : Batch) {b : Blocks} (h : b.decode.NoCheck) :
    (b.advanceBatch sc n q).decode.NoCheck := by
  induction n generalizing q b with
  | zero => exact h
  | succ n ih =>
    have hbegin : (b.beginBatch q).decode = b.decode := by
      unfold Blocks.beginBatch
      split <;> rfl
    have hwrite : ∀ i rows (c : Blocks), (c.writeBack q i rows).decode = c.decode := fun i rows c => by
      unfold Blocks.writeBack
      split <;> rfl
    have hsame : ∀ {d e : Decode}, d = b.decode → e.check = d.check → e.running = d.running → e.NoCheck :=
      fun hd hc hr => ⟨(hc.trans (congrArg Decode.check hd)).trans h.1,
        fun c k hrun => h.2 c k (((hr.trans (congrArg Decode.running hd)).symm).trans hrun)⟩
    unfold Blocks.advanceBatch
    split
    · split
      · unfold Blocks.completeBatch
        dsimp only
        split <;> exact hsame hbegin rfl rfl
      · exact h
    · dsimp only
      split
      · exact ⟨(congrArg Decode.check hbegin).trans h.1, nofun⟩
      · split
        · exact hsame ((hwrite _ _ _).trans hbegin) rfl rfl
        · refine ih _ ?_
          rw [hwrite, hbegin]
          exact h

/-- Where no Check is queued or in progress the end of an event begins none. -/
theorem Blocks.settle_noCheck {g : Geometry} {scBefore sc : Scene} {before b : Blocks} (h : b.decode.NoCheck) :
    (Blocks.settle g scBefore sc before b).decode.NoCheck := by
  have hkeeps : ∀ {d e : Decode}, d.KeepsWork e → d.NoCheck → e.NoCheck := fun hk h =>
    ⟨hk.2.1.trans h.1, fun c k => by rw [hk.1]; exact h.2 c k⟩
  refine Blocks.settle_keep (P := fun b => b.decode.NoCheck) (fun b c hP hc => ?_) (fun b c hside hP => ?_)
    (fun b hP => hkeeps (Blocks.prefetch_keepsWork g sc b) hP) h
  · obtain ⟨-, ⟨j, rest, -, rfl⟩ | ⟨-, q, -, rfl⟩ | ⟨-, -, q, -, -, rfl⟩ | ⟨-, -, -, k, hk, -⟩⟩ := Blocks.chooseOne_cases hc
    · obtain ⟨-, hdecode⟩ := Blocks.startPage_leaves j (b.withDecode (fun d => { d with pageJobs := rest }))
      rcases hdecode with h | h <;> rw [h]
      · exact hP
      · exact ⟨hP.1, nofun⟩
    · exact Blocks.advanceBatch_noCheck _ _ hP
    · exact Blocks.advanceBatch_noCheck _ _ hP
    · exact absurd (hP.1.symm.trans hk) (by simp)
  · refine hkeeps ⟨?_, ?_, ?_⟩ hP <;> rw [hside.decode]

/-- The end of an event makes no removed batch the job in progress. -/
theorem Blocks.Ends.noneRemoved {sc : Scene} {b c : Blocks} (h : Blocks.Ends sc b c)
    (hb : ∀ q i, b.decode.running ≠ some (.batch q i true)) : ∀ q i, c.decode.running ≠ some (.batch q i true) := by
  refine h.keep (P := fun b => ∀ q i, b.decode.running ≠ some (.batch q i true)) (fun b c hP hact q i hr => ?_) hb
  cases hact with
  | offer _ => exact hP q i ((Decode.keepsWork_offer _ _ b.decode).1.symm.trans hr)
  | decode _ hrun => exact hP q i (hrun q i hr)
  | evictPacked _ =>
    rw [Blocks.evictPacked_decode] at hr
    exact hP q i hr
  | wants _ | room _ _ | queue _ | dropOpened _ | open_ _ _ _ | back _ | want _ _ => exact hP q i hr

end Sys2Proof.Machine

/-! SUPPORT. A strip of a slide batch ends: the directory, the back surface and the batch after it (R113, R130, R131, O53). -/

namespace Sys2Proof.Machine

/-! ### The strip's end -/

/-- The blocks with no job in progress, a strip that failed handed to the Strip Store. -/
def Blocks.stripEnded (g : Geometry) (k : Strip) (decoded : Option Rows) (b : Blocks) : Blocks :=
  decoded.elim (b.idled.failStored g k) (fun _ => b.idled)

/-- The rows that are written to the back surface. -/
def surfaceRows (decoded : Option Rows) : SurfaceRows := decoded.elim .filled .decoded

/-- The batch with the strip done or filled, its progress raised. -/
def Batch.after (i : Nat) (decoded : Option Rows) (q : Batch) : Batch :=
  (decoded.elim (q.fill i) (fun _ => q.mark i .done)).raise

section Finish

variable (g : Geometry) (sc : Scene) (q : Batch) (i : Nat) (decoded : Option Rows) (b : Blocks)

theorem Blocks.finishBatchStrip_stopping :
    b.finishBatchStrip g sc q i true decoded = b.stripEnded g (q.strip i) decoded := by
  cases decoded <;> rfl

theorem Blocks.finishBatchStrip_going :
    b.finishBatchStrip g sc q i false decoded
      = if (!(q.after i decoded).pendingStrips.isEmpty
          && ((b.stripEnded g (q.strip i) decoded).writeBack q i (surfaceRows decoded)).suspends sc (q.after i decoded)) = true
        then ((b.stripEnded g (q.strip i) decoded).writeBack q i (surfaceRows decoded)).withDecode
          (fun d => { d with suspended := some (q.after i decoded) })
        else ((b.stripEnded g (q.strip i) decoded).writeBack q i (surfaceRows decoded)).takeBatch sc (q.after i decoded) := by
  cases decoded <;> rfl

end Finish

theorem Blocks.batchComplete_of_running {g : Geometry} {sc : Scene} {q : Batch} {i : Nat} {stopping : Bool} {b : Blocks}
    (hr : b.decode.running = some (.batch q i stopping)) (decoded : Option Rows) :
    b.batchComplete g sc decoded = b.finishBatchStrip g sc q i stopping decoded := by
  unfold Blocks.batchComplete
  rw [hr]

theorem Blocks.checkComplete_of_running {g : Geometry} {c : CheckJob} {k : Strip} {b : Blocks}
    (hr : b.decode.running = some (.check c k)) (intact : Bool) :
    b.checkComplete g intact = b.finishCheckStrip g c k intact := by
  unfold Blocks.checkComplete
  rw [hr]

/-- `e` is `b` with no job in progress, where the entries of the strip `own` may have been set Bad, and no units taken. -/
structure Blocks.EndsStrip (own : Strip) (b e : Blocks) : Prop where
  decode : e.decode = { b.decode with running := none }
  bc : e.bc = b.bc
  packed : ∀ k, own ≠ k → e.store.findPacked k = b.store.findPacked k
  opened : ∀ k, own ≠ k → e.store.findOpened k = b.store.findOpened k
  assets : e.store.assets = b.store.assets
  roomWait : e.store.roomWait = b.store.roomWait
  free : b.store.freeUnits ≤ e.store.freeUnits

/-- The shape of a stored strip's failure, whether the strip has an entry or not. -/
theorem Blocks.failStored_shape (g : Geometry) (k : Strip) (b : Blocks) :
    ∃ link wants, b.failStored g k
      = { b with link := link, store := { (b.store.setBad k).dropDecoding k with wants := wants } } := by
  unfold Blocks.failStored
  rw [Blocks.afterFailure_frame]
  exact ⟨_, _, rfl⟩

theorem Store.dropDecoding_leaves (k : Strip) (s : Store) :
    (∀ j, k ≠ j → (s.dropDecoding k).findOpened j = s.findOpened j) ∧ (s.dropDecoding k).assets = s.assets
      ∧ (s.dropDecoding k).roomWait = s.roomWait ∧ s.freeUnits ≤ (s.dropDecoding k).freeUnits := by
  unfold Store.dropDecoding
  split
  · exact ⟨fun _ _ => rfl, rfl, rfl, Nat.le_refl _⟩
  · split
    · exact ⟨fun _ _ => rfl, rfl, rfl, Nat.le_refl _⟩
    · exact ⟨fun j hj => Store.findOpened_dropOpened_other hj s, rfl, rfl, Nat.le_add_right _ _⟩

theorem Blocks.endsStrip_stripEnded (g : Geometry) (own : Strip) (decoded : Option Rows) (b : Blocks) :
    b.EndsStrip own (b.stripEnded g own decoded) := by
  cases decoded with
  | some rows => exact ⟨rfl, rfl, fun _ _ => rfl, fun _ _ => rfl, rfl, rfl, Nat.le_refl _⟩
  | none =>
    obtain ⟨link, wants, h⟩ := b.idled.failStored_shape g own
    obtain ⟨hopened, hassets, hwait, hfree⟩ := (b.store.setBad own).dropDecoding_leaves own
    show b.EndsStrip own (b.idled.failStored g own)
    rw [h]
    refine ⟨rfl, rfl, fun k hk => ?_, hopened, hassets, hwait, le_trans ?_ hfree⟩
    · exact (Store.findPacked_dropDecoding own k _).trans (Store.findPacked_setBad_other hk b.store)
    · rw [(b.store.setBad_entry own).2]
      exact Nat.le_add_right _ _

section EndsStrip

variable {own : Strip} {b e : Blocks}

theorem Store.takable_congr {s t : Store} {k : Strip} (h : t.findPacked k = s.findPacked k) : t.takable k = s.takable k := by
  unfold Store.takable Store.isBroken
  rw [Store.isHeld_congr h, h]

theorem Blocks.EndsStrip.takable (h : b.EndsStrip own e) {k : Strip} (hk : own ≠ k) :
    e.store.takable k = b.store.takable k := Store.takable_congr (h.packed k hk)

theorem Blocks.EndsStrip.isHeld (h : b.EndsStrip own e) {k : Strip} (hk : own ≠ k) :
    e.store.isHeld k = b.store.isHeld k := Store.isHeld_congr (h.packed k hk)

theorem Blocks.EndsStrip.asset (h : b.EndsStrip own e) (a : Nat) : e.store.asset a = b.store.asset a := by
  unfold Store.asset
  rw [h.assets]

theorem Blocks.EndsStrip.openUnitsOf (h : b.EndsStrip own e) (k : Strip) :
    e.store.openUnitsOf k = b.store.openUnitsOf k := by
  unfold Store.openUnitsOf
  rw [h.asset]

end EndsStrip

/-- The strip's rows written: the compositor's back surface gains them, and the rest is kept. -/
theorem Blocks.writeBack_asset {q : Batch} {a : Asset} {b : Blocks} (h : b.store.asset q.content.asset = some a) (i : Nat)
    (rows : SurfaceRows) :
    b.writeBack q i rows = { b with bc := { b.bc with back := { b.bc.back with
      strips := b.bc.back.strips ++ [{ index := i, width := a.width, height := a.height, rows := rows }] } } } := by
  unfold Blocks.writeBack
  rw [h]
  rfl

theorem Blocks.writeBack_frame (q : Batch) (i : Nat) (rows : SurfaceRows) (b : Blocks) :
    b.writeBack q i rows = { b with bc := { b.bc with back := (b.writeBack q i rows).bc.back } } := by
  unfold Blocks.writeBack
  split <;> rfl

/-! ### The batch after its strip -/

section After

variable {q : Batch} {i : Nat} {l : List (Nat × BatchStrip)} (decoded : Option Rows)

theorem Batch.after_begun : (q.after i decoded).begun = q.begun := by
  cases decoded <;> rfl

theorem Batch.after_content : (q.after i decoded).content = q.content := by
  cases decoded <;> rfl

theorem Batch.after_change : (q.after i decoded).change = q.change := by
  cases decoded <;> rfl

theorem Batch.after_strip (n : Nat) : (q.after i decoded).strip n = q.strip n := by
  cases decoded <;> rfl

theorem Batch.after_eq (h : q.strips = some l) :
    q.after i decoded = { q with
      strips := some (l.map (fun e => if e.1 = i then (i, if decoded.isSome then .done else .filled) else e))
      progress := min 4 (q.progress + 1)
      firstFailing := if decoded.isSome then q.firstFailing else some (q.firstFailing.getD i) } := by
  cases decoded with
  | some rows =>
    unfold Batch.after Batch.mark
    rw [h]
    rfl
  | none =>
    unfold Batch.after Batch.fill Batch.mark
    rw [h]
    cases q.firstFailing <;> simp [Batch.raise, Config.batchGuarantee]

/-- The strip that has ended is not pending. -/
theorem Batch.after_pending {e : Nat × BatchStrip} (he : e ∈ (q.after i decoded).strips.getD []) (hp : e.2 = .pending) :
    e.1 ≠ i ∧ e ∈ q.strips.getD [] := by
  cases hs : q.strips with
  | none =>
    have hnone : (q.after i decoded).strips = none := by
      cases decoded <;> simp [Batch.after, Batch.fill, Batch.mark, Batch.raise, hs]
    rw [hnone] at he
    exact absurd he (by simp)
  | some l =>
    rw [Batch.after_eq decoded hs] at he
    obtain ⟨x, hx, hxe⟩ := List.mem_map.mp (show e ∈ l.map _ from he)
    by_cases hi : x.1 = i
    · rw [if_pos hi] at hxe
      rw [← hxe] at hp
      cases decoded <;> exact absurd hp nofun
    · rw [if_neg hi] at hxe
      subst hxe
      exact ⟨hi, hx⟩

theorem Batch.mem_pendingStrips {k : Strip} :
    k ∈ q.pendingStrips ↔ ∃ e ∈ q.strips.getD [], e.2 = .pending ∧ q.strip e.1 = k := by
  unfold Batch.pendingStrips
  simp [and_assoc]

theorem Batch.pendingStrips_eq_nil : q.pendingStrips = [] ↔ ∀ e ∈ q.strips.getD [], e.2 ≠ .pending := by
  rw [List.eq_nil_iff_forall_not_mem]
  refine ⟨fun h e he hp => h _ (Batch.mem_pendingStrips.mpr ⟨e, he, hp, rfl⟩), fun h k hk => ?_⟩
  obtain ⟨e, he, hp, -⟩ := Batch.mem_pendingStrips.mp hk
  exact h e he hp

/-- The first strip that can be taken, behind pending ones that can not. -/
theorem Batch.find_pending {f : Strip → Bool} {n : Nat} {pre post : List (Nat × BatchStrip)}
    (hs : q.strips = some (pre ++ (n, .pending) :: post)) (hn : f (q.strip n) = true)
    (hpre : ∀ e ∈ pre, e.2 = .pending → f (q.strip e.1) = false) : q.pendingStrips.find? f = some (q.strip n) := by
  have hskip : ((pre.filter (fun e => decide (e.2 = BatchStrip.pending))).map (fun e => q.strip e.1)).find? f = none := by
    refine List.find?_eq_none.mpr fun k hk => ?_
    obtain ⟨e, he, rfl⟩ := List.mem_map.mp hk
    obtain ⟨hmem, hp⟩ := List.mem_filter.mp he
    rw [hpre e hmem (of_decide_eq_true hp)]
    exact Bool.false_ne_true
  unfold Batch.pendingStrips
  rw [hs]
  simp only [Option.getD_some, List.filter_append, List.map_append, List.find?_append, hskip, Option.none_or]
  simp [hn]

end After

/-! ### A batch in hand -/

section Take

variable {sc : Scene} {q : Batch} {b : Blocks}

theorem Blocks.beginBatch_begun (h : q.begun = true) : b.beginBatch q = b := if_pos h

theorem Blocks.beginBatch_new (h : q.begun = false) :
    b.beginBatch q = { b with bc := { b.bc with
      back := { content := some q.content, whole := false, firstFailing := none, strips := [] } } } :=
  if_neg (Bool.eq_false_iff.mp h)

theorem Blocks.beginBatch_frame (q : Batch) (b : Blocks) :
    b.beginBatch q = { b with bc := { b.bc with back := (b.beginBatch q).bc.back } } := by
  unfold Blocks.beginBatch
  split <;> rfl

theorem Blocks.takeBatch_completes (h : q.pendingStrips = []) :
    b.takeBatch sc q = (b.beginBatch q).completeBatch q := by
  unfold Blocks.takeBatch Blocks.advanceBatch
  rw [h]
  rfl

theorem Blocks.takeBatch_waits (hne : q.pendingStrips ≠ []) (h : ∀ k ∈ q.pendingStrips, b.store.takable k = false) :
    b.takeBatch sc q = { b with decode := { b.decode with batch := some q } } := by
  have hfind : q.pendingStrips.find? b.store.takable = none :=
    List.find?_eq_none.mpr fun k hk => by rw [h k hk]; exact Bool.false_ne_true
  unfold Blocks.takeBatch Blocks.advanceBatch
  rw [hfind]
  dsimp only
  rw [if_neg (by simpa using hne)]
  rfl

theorem Blocks.takeBatch_takes {k : Strip} (h : q.pendingStrips.find? b.store.takable = some k)
    (hheld : b.store.isHeld k = true) :
    b.takeBatch sc q = { b.beginBatch q with decode := { b.decode with
      running := some (.batch { q with begun := true } k.index false) } } := by
  have hheld' : (b.beginBatch q).store.isHeld k = true := by
    rw [Blocks.beginBatch_frame]
    exact hheld
  have hdecode : (b.beginBatch q).decode = b.decode := by rw [Blocks.beginBatch_frame]
  unfold Blocks.takeBatch Blocks.advanceBatch
  rw [h]
  dsimp only
  rw [if_pos hheld', ← hdecode]
  rfl

end Take

/-- The batch is not suspended without a Page Prepare job, before its fourth strip, or while its change is pending (R135). -/
theorem Blocks.suspends_not {sc : Scene} {q : Batch} {b : Blocks}
    (h : b.decode.pageJobs = [] ∨ q.progress < 4 ∨ (sc.pendingIndex.isSome = true ∧ q.change = some sc.slideChange)) :
    b.suspends sc q = false := by
  unfold Blocks.suspends Scene.awaitsBatch Config.batchGuarantee
  rcases h with h | h | ⟨hi, hc⟩
  · simp [h]
  · simp [Nat.not_le.mpr h]
  · simp [hi, hc]

theorem Blocks.suspends_due {sc : Scene} {q : Batch} {b : Blocks} (hj : b.decode.pageJobs ≠ [])
    (hs : b.decode.suspended = none) (hp : 4 ≤ q.progress)
    (hc : sc.pendingIndex = none ∨ q.change ≠ some sc.slideChange) : b.suspends sc q = true := by
  unfold Blocks.suspends Scene.awaitsBatch Config.batchGuarantee
  rcases hc with hc | hc <;> simp [hj, hs, hp, hc]

/-! ### The end of the event -/

section Settle

variable {g : Geometry} {scBefore sc : Scene} {before b c : Blocks}

/-- The choices come to rest, and no prefetch changes that. -/
theorem Blocks.settle_at (hretry : b.retryRoom g sc.pageChange before = b) (hfirst : b.chooseJobs sc chooseBound = c)
    (hrest : c.chooseJobs sc chooseBound = c) (hd : c.decode.deferred = false) (hpre : c.prefetch g sc = c) :
    Blocks.settle g scBefore sc before b = ((c.pageReadiness sc).slideReadiness sc).queueWants := by
  unfold Blocks.settle
  dsimp only
  rw [hretry, hfirst, Blocks.refill_clear hd, hrest, hpre, hrest, ite_self]

/-- The end of an event while a job is in progress, with no deferred job and no retry. -/
theorem Blocks.settle_going {r : Running} (hretry : b.retryRoom g sc.pageChange before = b)
    (hr : b.decode.running = some r) (hd : b.decode.deferred = false) :
    b.Still (Blocks.settle g scBefore sc before b) := by
  have hprefetched := Blocks.prefetch_keepsWork g sc b
  unfold Blocks.settle
  dsimp only
  rw [hretry, Blocks.chooseJobs_busy hr, Blocks.refill_clear hd, Blocks.chooseJobs_busy hr,
    Blocks.chooseJobs_busy (hprefetched.1.trans hr)]
  split
  · exact (b.still_prefetch g).trans (Blocks.still_ended _)
  · exact b.still_ended

theorem Blocks.chooseJobs_rest (h : b.chooseOne sc = none) (n : Nat) : b.chooseJobs sc n = b := by
  cases n with
  | zero => rfl
  | succ n =>
    unfold Blocks.chooseJobs
    rw [h]

end Settle

end Sys2Proof.Machine

/-! SUPPORT. The last strip of a removed batch, and the strip that completes a batch (R130, R131, R133, O53). -/

namespace Sys2Proof.Machine

section Removed

variable {s : State} {q : Batch} {i : Nat} (hruns : s.station.Runs)
  (hr : s.station.blocks.decode.running = some (.batch q i true))
include hruns hr

/-- The strip of a removed batch that decodes: nothing is written, and no removed batch is left. -/
theorem removedStrip_decoded (rows : Rows) :
    ∃ t, exec (.batchStripComplete (some rows)) s = .next t
      ∧ s.Becomes s.station.scene s.station.timers
          { s.station.blocks with decode := { s.station.blocks.decode with running := none } } t
      ∧ (∀ r n, t.station.blocks.decode.running ≠ some (.batch r n true))
      ∧ (s.station.blocks.decode.batch = none → s.station.blocks.decode.suspended = none →
          s.station.scene.pendingIndex.isSome = true ∨ s.station.scene.show_ = .stopped →
        t.station.blocks.bc.back = s.station.blocks.bc.back) := by
  obtain ⟨t, ht, hbecomes, hend⟩ := State.blocksEvent_worked hruns
    (fun st => Blocks.batchComplete st.geometry st.scene (some rows))
    ((Blocks.batchComplete_of_running hr _).trans (Blocks.finishBatchStrip_stopping _ _ q i (some rows) _))
  refine ⟨t, ht, hbecomes, ?_, fun hb hs hp => ?_⟩
  · rw [hend]
    exact (Blocks.settle_ends _ _ _ _).noneRemoved nofun
  · rw [hend]
    exact congrArg Compositor.back (Blocks.settle_back (b := s.station.blocks.idled) hp.symm hb hs).1

/-- The strip of a removed batch that fails: the failure is counted. -/
theorem removedStrip_failed {p : Packed} {own : Strip} (hown : own = { asset := q.content.asset, index := i })
    (hp : s.station.blocks.store.findPacked own = some p) (hwf : s.station.blocks.store.unitsWf = true) :
    ∃ t, exec (.batchStripComplete none) s = .next t
      ∧ (∀ r n, t.station.blocks.decode.running ≠ some (.batch r n true))
      ∧ t.station.blocks.store.findPacked own = some { p with
          state := .bad, units := 0, failures := p.failures + 1, data := [], checkWord := 0
          pins := s.station.blocks.store.roles.pins own } := by
  subst hown
  obtain ⟨t, ht, -, hend⟩ := State.blocksEvent_worked hruns
    (fun st => Blocks.batchComplete st.geometry st.scene none)
    ((Blocks.batchComplete_of_running hr _).trans (Blocks.finishBatchStrip_stopping _ _ q i none _))
  have hp' : s.station.blocks.idled.store.findPacked (q.strip i) = some p := hp
  have hbad := Blocks.failStored_findPacked (g := s.station.geometry) hp'
  have hsorted := Blocks.failStored_sorted (g := s.station.geometry) hp' (Store.sorted_of_unitsWf hwf)
  have hends := Blocks.settle_ends (sc := s.station.scene) s.station.geometry s.station.scene s.station.blocks
    (s.station.blocks.stripEnded s.station.geometry (q.strip i) none)
  rw [← hend] at hends
  refine ⟨t, ht, hends.noneRemoved fun r n => ?_, hends.findPacked_unheld hsorted hbad (Packed.failed_unheld _ p)⟩
  rw [(Blocks.endsStrip_stripEnded s.station.geometry (q.strip i) none s.station.blocks).decode]
  exact nofun

end Removed

/-! ### The last pending strip -/

/-- The last pending strip makes the back surface whole, and the batch's change is reported. -/
theorem Blocks.finishBatchStrip_last {g : Geometry} {sc : Scene} {q : Batch} {i : Nat} {rows : Rows} {change : Half}
    {b : Blocks} (hbegun : q.begun = true) (hchange : q.change = some change)
    (hlast : ∀ e ∈ q.strips.getD [], e.1 ≠ i → e.2 ≠ .pending) :
    b.finishBatchStrip g sc q i false (some rows) = { b with
      decode := { b.decode with running := none, reported := some change }
      bc := { b.bc with back := { (b.writeBack q i (.decoded rows)).bc.back with
        whole := true, firstFailing := q.firstFailing } } } := by
  have hnil : (q.after i (some rows)).pendingStrips = [] := Batch.pendingStrips_eq_nil.mpr fun e he hp =>
    have ⟨hi, hmem⟩ := Batch.after_pending (some rows) he hp
    hlast e hmem hi hp
  rw [Blocks.finishBatchStrip_going, if_neg (by simp [hnil]), Blocks.takeBatch_completes hnil,
    Blocks.beginBatch_begun ((Batch.after_begun (some rows)).trans hbegun)]
  have hwrite : (b.stripEnded g (q.strip i) (some rows)).writeBack q i (surfaceRows (some rows))
      = { b with
        decode := { b.decode with running := none }
        bc := { b.bc with back := (b.writeBack q i (.decoded rows)).bc.back } } := by
    show b.idled.writeBack q i (.decoded rows) = _
    unfold Blocks.writeBack
    cases h : b.store.asset q.content.asset with
    | none =>
      rw [show b.idled.store.asset q.content.asset = none from h]
      rfl
    | some a =>
      rw [show b.idled.store.asset q.content.asset = some a from h]
      rfl
  have hchange' : (q.after i (some rows)).change = some change := (Batch.after_change (some rows)).trans hchange
  unfold Blocks.completeBatch
  rw [hchange', hwrite]
  rfl

/-! ### The readiness test of the slide stream (R93) -/

section Readiness

variable {sc : Scene} {b : Blocks} {p : Nat} (hi : sc.pendingIndex = some p)
include hi

theorem Blocks.slideReadiness_sent (hs : b.decode.slideReadySent = false)
    (hr : b.decode.reported = some sc.slideChange) (ht : b.bc.transition = none) :
    b.slideReadiness sc = (b.enqueue (.ready { stream := 1, index := p, change := sc.slideChange })).withDecode
      (fun d => { d with slideReadySent := true }) := by
  unfold Blocks.slideReadiness
  rw [hi]
  exact if_pos (by simp [hs, hr, ht])

theorem Blocks.slideReadiness_waiting (ht : b.bc.transition.isSome = true) : b.slideReadiness sc = b := by
  have hrunning : b.bc.transition.isNone = false := Option.isNone_eq_false_iff.mpr ht
  unfold Blocks.slideReadiness
  rw [hi]
  exact if_neg (by simp [hrunning])

end Readiness

section Last

variable {s : State} {q : Batch} {i : Nat} {rows : Rows} {change : Half} (hruns : s.station.Runs)
  (hr : s.station.blocks.decode.running = some (.batch q i false)) (hbegun : q.begun = true)
  (hchange : q.change = some change) (hlast : ∀ e ∈ q.strips.getD [], e.1 ≠ i → e.2 ≠ .pending)
include hruns hr hbegun hchange hlast

theorem lastStrip_completes {a : Asset} {back : Surface}
    (ha : s.station.blocks.store.asset q.content.asset = some a)
    (hback : back = { s.station.blocks.bc.back with
      whole := true, firstFailing := q.firstFailing
      strips := s.station.blocks.bc.back.strips
        ++ [{ index := i, width := a.width, height := a.height, rows := .decoded rows }] }) :
    ∃ t, exec (.batchStripComplete (some rows)) s = .next t
      ∧ s.Becomes s.station.scene s.station.timers
          { s.station.blocks with
            decode := { s.station.blocks.decode with running := none, reported := some change }
            bc := { s.station.blocks.bc with back := back } } t
      ∧ (s.station.blocks.decode.batch = none → s.station.blocks.decode.suspended = none →
          s.station.scene.pendingIndex.isSome = true ∨ s.station.scene.show_ = .stopped →
        t.station.blocks.bc.back = back ∧ t.station.blocks.decode.reported = some change) := by
  have hwritten := Blocks.finishBatchStrip_last (g := s.station.geometry) (sc := s.station.scene) (b := s.station.blocks)
    (rows := rows) hbegun hchange hlast
  rw [Blocks.writeBack_asset ha] at hwritten
  dsimp only at hwritten
  rw [← hback] at hwritten
  obtain ⟨t, ht, hbecomes, hend⟩ := State.blocksEvent_worked hruns
    (fun st => Blocks.batchComplete st.geometry st.scene (some rows))
    ((Blocks.batchComplete_of_running hr _).trans hwritten)
  refine ⟨t, ht, hbecomes, fun hb hs hp => ?_⟩
  obtain ⟨hbc, hreported⟩ := Blocks.settle_back (g := s.station.geometry) (scBefore := s.station.scene)
    (before := s.station.blocks) (b := { s.station.blocks with
      decode := { s.station.blocks.decode with running := none, reported := some change }
      bc := { s.station.blocks.bc with back := back } }) hp.symm hb hs
  rw [hend]
  exact ⟨congrArg Compositor.back hbc, hreported⟩

/-- The batch's change is reported by its Ready, unless a transition runs (R93). -/
theorem lastStrip_ready {p : Nat} (hj : s.station.blocks.decode.pageJobs = [])
    (hs : s.station.blocks.decode.suspended = none) (hb : s.station.blocks.decode.batch = none)
    (hc : s.station.blocks.decode.check = none) (hw : s.station.blocks.store.roomWait = [])
    (hd : s.station.blocks.decode.deferred = false) (hpage : s.station.scene.pendingPage = none)
    (hi : s.station.scene.pendingIndex = some p) (hslide : change = s.station.scene.slideChange)
    (hsent : s.station.blocks.decode.slideReadySent = false) :
    ∃ t, exec (.batchStripComplete (some rows)) s = .next t ∧ t.station.blocks.decode.reported = some change
      ∧ (s.station.blocks.bc.transition = none → t.station.blocks.decode.slideReadySent = true
        ∧ (s.station.blocks.link.silent = false → s.station.blocks.link.queue.length < 8 →
          s.station.blocks.link.queue ++ [.ready { stream := 1, index := p, change := change }]
            <+: t.station.blocks.link.queue))
      ∧ (s.station.blocks.bc.transition.isSome = true → t.station.blocks.decode.slideReadySent = false) := by
  have hwritten := Blocks.finishBatchStrip_last (g := s.station.geometry) (sc := s.station.scene) (b := s.station.blocks)
    (rows := rows) hbegun hchange hlast
  generalize ({ (s.station.blocks.writeBack q i (.decoded rows)).bc.back with
    whole := true, firstFailing := q.firstFailing } : Surface) = back at hwritten
  generalize hafter : ({ s.station.blocks with
    decode := { s.station.blocks.decode with running := none, reported := some change }
    bc := { s.station.blocks.bc with back := back } } : Blocks) = b at hwritten
  obtain ⟨t, ht, -, hend⟩ := State.blocksEvent_worked hruns
    (fun st => Blocks.batchComplete st.geometry st.scene (some rows))
    ((Blocks.batchComplete_of_running hr _).trans hwritten)
  have hrest : b.chooseJobs s.station.scene chooseBound = b := by
    subst hafter
    exact Blocks.chooseJobs_empty hj hs hb hc
  rw [Blocks.settle_at (Blocks.retryRoom_empty (by subst hafter; exact hw)) hrest hrest (by subst hafter; exact hd)
    (Blocks.prefetch_none (.inr (by rw [hi]; rfl))), Blocks.pageReadiness_none hpage] at hend
  have hreported : b.decode.reported = some s.station.scene.slideChange := by
    subst hafter
    exact congrArg some hslide
  have hsent' : b.decode.slideReadySent = false := by
    subst hafter
    exact hsent
  have htrans : b.bc.transition = s.station.blocks.bc.transition := by rw [← hafter]
  have hlink : b.link = s.station.blocks.link := by rw [← hafter]
  refine ⟨t, ht, ?_, fun hnone => ?_, fun hsome => ?_⟩
  · rw [hend, Blocks.queueWants_decode, (Blocks.aside_slideReadiness b).decode, hslide]
    exact hreported
  · rw [Blocks.slideReadiness_sent hi hsent' hreported (htrans.trans hnone)] at hend
    refine ⟨?_, fun hsilent hlen => ?_⟩
    · rw [hend, Blocks.queueWants_decode]
      rfl
    · have hprefix := (Blocks.worked_queueWants ((b.enqueue (.ready
        { stream := 1, index := p, change := s.station.scene.slideChange })).withDecode
        (fun d => { d with slideReadySent := true }))).1.isPrefix
      rw [← hend] at hprefix
      rw [hslide, ← hlink]
      rw [← hlink] at hsilent hlen
      have hroom := Link.enqueue_room hsilent hlen (.ready { stream := 1, index := p, change := s.station.scene.slideChange })
      have hqueue := congrArg Link.queue hroom
      dsimp only at hqueue
      rw [← hqueue]
      exact hprefix
  · rw [Blocks.slideReadiness_waiting hi (by rw [htrans]; exact hsome)] at hend
    rw [hend, Blocks.queueWants_decode]
    exact hsent'

end Last

end Sys2Proof.Machine

/-! SUPPORT. A batch after one of its strips: at its next strip, waiting, or suspended (R131, R135, O53). -/

namespace Sys2Proof.Machine

/-- The blocks with the ended strip's rows written to the back surface. -/
def Blocks.stripWritten (g : Geometry) (q : Batch) (i : Nat) (decoded : Option Rows) (b : Blocks) : Blocks :=
  (b.stripEnded g (q.strip i) decoded).writeBack q i (surfaceRows decoded)

section Written

variable {g : Geometry} {sc : Scene} {q : Batch} {i : Nat} {decoded : Option Rows} {b : Blocks}

theorem Blocks.stripWritten_store :
    (b.stripWritten g q i decoded).store = (b.stripEnded g (q.strip i) decoded).store := by
  unfold Blocks.stripWritten
  rw [Blocks.writeBack_frame]

theorem Blocks.stripWritten_link :
    (b.stripWritten g q i decoded).link = (b.stripEnded g (q.strip i) decoded).link := by
  unfold Blocks.stripWritten
  rw [Blocks.writeBack_frame]

theorem Blocks.stripWritten_decode : (b.stripWritten g q i decoded).decode = { b.decode with running := none } := by
  unfold Blocks.stripWritten
  rw [Blocks.writeBack_frame]
  exact (Blocks.endsStrip_stripEnded g (q.strip i) decoded b).decode

theorem Blocks.stripWritten_back {a : Asset} (h : b.store.asset q.content.asset = some a) :
    (b.stripWritten g q i decoded).bc.back = { b.bc.back with
      strips := b.bc.back.strips ++ [{ index := i, width := a.width, height := a.height, rows := surfaceRows decoded }] } := by
  have hends := Blocks.endsStrip_stripEnded g (q.strip i) decoded b
  unfold Blocks.stripWritten
  rw [Blocks.writeBack_asset ((hends.asset _).trans h), hends.bc]

/-- The batch goes on where it is not suspended. -/
theorem Blocks.finishBatchStrip_goesOn (h : (q.after i decoded).pendingStrips = []
      ∨ (b.stripWritten g q i decoded).suspends sc (q.after i decoded) = false) :
    b.finishBatchStrip g sc q i false decoded = (b.stripWritten g q i decoded).takeBatch sc (q.after i decoded) := by
  rw [Blocks.finishBatchStrip_going]
  refine if_neg fun hc => ?_
  obtain ⟨hne, hsus⟩ := (Bool.and_eq_true _ _).mp hc
  rcases h with h | h
  · rw [h] at hne
    exact absurd hne (by simp)
  · exact absurd (h.symm.trans hsus) (by simp)

theorem Blocks.finishBatchStrip_suspends (hne : (q.after i decoded).pendingStrips ≠ [])
    (h : (b.stripWritten g q i decoded).suspends sc (q.after i decoded) = true) :
    b.finishBatchStrip g sc q i false decoded
      = (b.stripWritten g q i decoded).withDecode (fun d => { d with suspended := some (q.after i decoded) }) := by
  rw [Blocks.finishBatchStrip_going]
  refine if_pos ((Bool.and_eq_true _ _).mpr ⟨?_, h⟩)
  simpa using hne

/-- The strips that are pending yet can be taken as before. -/
theorem Blocks.stripWritten_takable {e : Nat × BatchStrip} (he : e ∈ (q.after i decoded).strips.getD [])
    (hp : e.2 = .pending) :
    (b.stripWritten g q i decoded).store.takable (q.strip e.1) = b.store.takable (q.strip e.1)
      ∧ (b.stripWritten g q i decoded).store.isHeld (q.strip e.1) = b.store.isHeld (q.strip e.1) := by
  have hne : q.strip i ≠ q.strip e.1 := fun h => (Batch.after_pending decoded he hp).1 (congrArg Strip.index h).symm
  have hends := Blocks.endsStrip_stripEnded g (q.strip i) decoded b
  rw [Blocks.stripWritten_store]
  exact ⟨hends.takable hne, hends.isHeld hne⟩

end Written

theorem Store.takable_eq_false {s : Store} {k : Strip} (h : s.isHeld k = false ∧ s.isBroken k = false) :
    s.takable k = false := by
  unfold Store.takable
  rw [h.1, h.2]
  rfl

/-- None of the strips that are pending can be taken. -/
theorem Blocks.stripWritten_noneTakable {g : Geometry} {q : Batch} {i : Nat} {decoded : Option Rows} {b : Blocks}
    (h : ∀ e ∈ (q.after i decoded).strips.getD [], e.2 = .pending →
      b.store.isHeld (q.strip e.1) = false ∧ b.store.isBroken (q.strip e.1) = false) :
    ∀ k ∈ (q.after i decoded).pendingStrips, (b.stripWritten g q i decoded).store.takable k = false := by
  intro k hk
  obtain ⟨e, he, hp, rfl⟩ := Batch.mem_pendingStrips.mp hk
  rw [Batch.after_strip, (Blocks.stripWritten_takable he hp).1]
  exact Store.takable_eq_false (h e he hp)

/-- No pair waits for room after a strip's end where none did. -/
theorem Blocks.stripWritten_rests {g' : Geometry} {q : Batch} {i : Nat} {decoded : Option Rows} {b : Blocks}
    (hw : b.store.roomWait = []) (g : Geometry) (change : Half) (before : Blocks) {f : Decode → Decode} :
    ((b.stripWritten g' q i decoded).withDecode f).retryRoom g change before
      = (b.stripWritten g' q i decoded).withDecode f := by
  refine Blocks.retryRoom_empty ?_
  show (b.stripWritten g' q i decoded).store.roomWait = []
  rw [Blocks.stripWritten_store, (Blocks.endsStrip_stripEnded _ _ _ _).roomWait]
  exact hw

section Goes

variable {s : State} {q : Batch} {i : Nat} {decoded : Option Rows} (hruns : s.station.Runs)
  (hr : s.station.blocks.decode.running = some (.batch q i false)) (hd : s.station.blocks.decode.deferred = false)
  (hw : s.station.blocks.store.roomWait = [])
include hruns hr hd hw

/-- The batch goes on with its lowest pending strip that is Held. -/
theorem batchStrip_next (hbegun : q.begun = true) {n : Nat} {pre post : List (Nat × BatchStrip)} {a : Asset} {own : Strip}
    (hown : own = { asset := q.content.asset, index := i })
    (hstay : s.station.blocks.decode.pageJobs = [] ∨ q.progress < 3
      ∨ (s.station.scene.pendingIndex.isSome = true ∧ q.change = some s.station.scene.slideChange))
    (hprogress : (q.after i decoded).progress = min 4 (q.progress + 1))
    (hstrips : (q.after i decoded).strips = some (pre ++ (n, .pending) :: post))
    (hheld : s.station.blocks.store.isHeld { asset := q.content.asset, index := n } = true)
    (hpre : ∀ e ∈ pre, e.2 = .pending → s.station.blocks.store.isHeld { asset := q.content.asset, index := e.1 } = false
      ∧ s.station.blocks.store.isBroken { asset := q.content.asset, index := e.1 } = false)
    (ha : s.station.blocks.store.asset q.content.asset = some a) :
    ∃ t, exec (.batchStripComplete decoded) s = .next t
      ∧ t.station.blocks.decode.running = some (.batch (q.after i decoded) n false)
      ∧ t.station.blocks.bc.back = { s.station.blocks.bc.back with
          strips := s.station.blocks.bc.back.strips
            ++ [{ index := i, width := a.width, height := a.height, rows := surfaceRows decoded }] }
      ∧ (∀ p, decoded = none → s.station.blocks.store.findPacked own = some p →
        t.station.blocks.store.findPacked own = some { p with
            state := .bad, units := 0, failures := p.failures + 1, data := [], checkWord := 0
            pins := s.station.blocks.store.roles.pins own }
          ∧ (p.failures ≠ 0 →
            (s.station.blocks.link.enqueue (.fault (brokenFault own))).queue <+: t.station.blocks.link.queue)) := by
  subst hown
  generalize hwritten : s.station.blocks.stripWritten s.station.geometry q i decoded = w
  have hmem : ∀ e ∈ pre ++ (n, BatchStrip.pending) :: post, e ∈ (q.after i decoded).strips.getD [] := fun e he => by
    rw [hstrips]
    exact he
  have hnext := Blocks.stripWritten_takable (g := s.station.geometry) (b := s.station.blocks)
    (hmem (n, .pending) (by simp)) rfl
  rw [hwritten] at hnext
  have hheld' : w.store.isHeld (q.strip n) = true := hnext.2.trans hheld
  have hfind : (q.after i decoded).pendingStrips.find? w.store.takable = some (q.strip n) := by
    rw [← Batch.after_strip decoded n]
    refine Batch.find_pending hstrips ?_ fun e he hp => ?_
    · rw [Batch.after_strip]
      exact (Bool.or_eq_true _ _).mpr (.inl hheld')
    · rw [Batch.after_strip, ← hwritten, (Blocks.stripWritten_takable (hmem e (by simp [he])) hp).1]
      exact Store.takable_eq_false (hpre e he hp)
  have hsus : w.suspends s.station.scene (q.after i decoded) = false := by
    refine Blocks.suspends_not ?_
    rw [← hwritten, Blocks.stripWritten_decode, hprogress, Batch.after_change]
    exact hstay.imp_right (Or.imp_left fun h => by omega)
  have hbegun' : (q.after i decoded).begun = true := (Batch.after_begun decoded).trans hbegun
  have heta : ({ q.after i decoded with begun := true } : Batch) = q.after i decoded := by rw [← hbegun']
  have hgoes : s.station.blocks.finishBatchStrip s.station.geometry s.station.scene q i false decoded
      = w.withDecode (fun d => { d with running := some (.batch (q.after i decoded) n false) }) := by
    rw [Blocks.finishBatchStrip_goesOn (.inr (by rw [hwritten]; exact hsus)), hwritten,
      Blocks.takeBatch_takes hfind hheld', Blocks.beginBatch_begun hbegun', heta]
    rfl
  obtain ⟨t, ht, -, hend⟩ := State.blocksEvent_worked hruns
    (fun st => Blocks.batchComplete st.geometry st.scene decoded) ((Blocks.batchComplete_of_running hr _).trans hgoes)
  have hd' : w.decode.deferred = false := by
    rw [← hwritten, Blocks.stripWritten_decode]
    exact hd
  have hstill := Blocks.settle_going (g := s.station.geometry) (scBefore := s.station.scene) (sc := s.station.scene)
    (before := s.station.blocks) (b := w.withDecode (fun d => { d with running := some (.batch (q.after i decoded) n false) }))
    (by rw [← hwritten]; exact Blocks.stripWritten_rests hw _ _ _) rfl hd'
  rw [← hend] at hstill
  refine ⟨t, ht, ?_, ?_, fun p hnone hp => ?_⟩
  · rw [hend]
    exact (Blocks.settle_keepsWork rfl).1
  · rw [hend, Blocks.settle_bc rfl]
    exact hwritten ▸ Blocks.stripWritten_back ha
  · subst hnone
    have hp' : s.station.blocks.idled.store.findPacked (q.strip i) = some p := hp
    refine ⟨?_, fun hbroken => ?_⟩
    · rw [hstill.store]
      show w.store.findPacked (q.strip i) = _
      rw [← hwritten, Blocks.stripWritten_store]
      exact Blocks.failStored_findPacked hp'
    · have hlink : w.link = s.station.blocks.link.enqueue (.fault (brokenFault (q.strip i))) := by
        rw [← hwritten, Blocks.stripWritten_link]
        exact (Blocks.failStored_link hp').trans (if_neg hbroken)
      have hprefix := (Blocks.settle_worked s.station.geometry s.station.scene s.station.scene s.station.blocks
        (w.withDecode (fun d => { d with running := some (.batch (q.after i none) n false) }))).1.isPrefix
      rw [← hend] at hprefix
      exact hlink ▸ hprefix

/-- The batch waits in the queue while none of its pending strips can be taken. -/
theorem batchStrip_waits (hne : (q.after i decoded).pendingStrips ≠ [])
    (hnone : ∀ e ∈ (q.after i decoded).strips.getD [], e.2 = .pending →
      s.station.blocks.store.isHeld (q.strip e.1) = false ∧ s.station.blocks.store.isBroken (q.strip e.1) = false)
    (hj : s.station.blocks.decode.pageJobs = []) (hs : s.station.blocks.decode.suspended = none)
    (hc : s.station.blocks.decode.check = none) :
    ∃ t, exec (.batchStripComplete decoded) s = .next t ∧ t.station.blocks.decode.running = none
      ∧ t.station.blocks.decode.batch = some (q.after i decoded) := by
  have htakable := Blocks.stripWritten_noneTakable (g := s.station.geometry) hnone
  generalize hwritten : s.station.blocks.stripWritten s.station.geometry q i decoded = w at htakable
  have hdecode : w.decode = { s.station.blocks.decode with running := none } := hwritten ▸ Blocks.stripWritten_decode
  have hsus : w.suspends s.station.scene (q.after i decoded) = false :=
    Blocks.suspends_not (.inl (by rw [hdecode]; exact hj))
  have hgoes : s.station.blocks.finishBatchStrip s.station.geometry s.station.scene q i false decoded
      = w.withDecode (fun d => { d with batch := some (q.after i decoded) }) := by
    rw [Blocks.finishBatchStrip_goesOn (.inr (by rw [hwritten]; exact hsus)), hwritten,
      Blocks.takeBatch_waits hne htakable]
    rfl
  obtain ⟨t, ht, -, hend⟩ := State.blocksEvent_worked hruns
    (fun st => Blocks.batchComplete st.geometry st.scene decoded) ((Blocks.batchComplete_of_running hr _).trans hgoes)
  generalize hb : w.withDecode (fun d => { d with batch := some (q.after i decoded) }) = b at hend
  have hb' : b.decode = { s.station.blocks.decode with running := none, batch := some (q.after i decoded) } := by
    rw [← hb]
    exact congrArg (fun d : Decode => { d with batch := some (q.after i decoded) }) hdecode
  have hrest : b.chooseOne s.station.scene = none := by
    rw [Blocks.chooseOne_last (by rw [hb']) (by rw [hb']; exact hj) (by rw [hb']; exact hs), hb']
    · exact congrArg (Option.map _) hc
    · intro r hbatch
      rw [hb'] at hbatch
      obtain rfl := Option.some.inj hbatch
      rw [Bool.eq_false_iff]
      intro helig
      obtain ⟨-, -, -, hnil | ⟨k, hk, hheld⟩⟩ := (b.eligible_iff _).mp helig
      · exact hne hnil
      · have hno : b.store.takable k = false := by
          rw [← hb]
          exact htakable k hk
        exact absurd (hno.symm.trans ((Bool.or_eq_true _ _).mpr hheld)) (by simp)
  have hquiet := Blocks.chooseJobs_rest hrest
  rw [Blocks.settle_at (by rw [← hb, ← hwritten]; exact Blocks.stripWritten_rests hw _ _ _) (hquiet _) (hquiet _)
    (by rw [hb']; exact hd) (Blocks.prefetch_forbidden (.inr (.inl (by rw [hb']; rfl))))] at hend
  have haside := (Blocks.aside_ended (sc := s.station.scene) b).decode
  rw [← hend] at haside
  exact ⟨t, ht, by rw [haside, hb'], by rw [haside, hb']⟩

/-- The batch is suspended after four strips for a Page Prepare job, which starts. -/
theorem batchStrip_suspended {j : PageJob} {rest : List PageJob} (hne : (q.after i decoded).pendingStrips ≠ [])
    (hprogress : (q.after i decoded).progress = min 4 (q.progress + 1))
    (hj : s.station.blocks.decode.pageJobs = j :: rest) (hs : s.station.blocks.decode.suspended = none)
    (hfour : 3 ≤ q.progress)
    (hchange : s.station.scene.pendingIndex = none ∨ q.change ≠ some s.station.scene.slideChange)
    (hown : j.id ≠ { asset := q.content.asset, index := i }) (hheld : s.station.blocks.store.isHeld j.id = true)
    (hopen : s.station.blocks.store.findOpened j.id = none)
    (hroom : s.station.blocks.store.openUnitsOf j.id ≤ s.station.blocks.store.freeUnits) :
    ∃ t, exec (.batchStripComplete decoded) s = .next t
      ∧ t.station.blocks.decode.suspended = some (q.after i decoded)
      ∧ t.station.blocks.decode.running = some (.page j) ∧ t.station.blocks.decode.pageJobs = rest := by
  have hends := Blocks.endsStrip_stripEnded s.station.geometry (q.strip i) decoded s.station.blocks
  have hstore := Blocks.stripWritten_store (g := s.station.geometry) (q := q) (i := i) (decoded := decoded)
    (b := s.station.blocks)
  generalize hwritten : s.station.blocks.stripWritten s.station.geometry q i decoded = w at hstore
  have hdecode : w.decode = { s.station.blocks.decode with running := none } := hwritten ▸ Blocks.stripWritten_decode
  have hsus : w.suspends s.station.scene (q.after i decoded) = true :=
    Blocks.suspends_due (by rw [hdecode, hj]; simp) (by rw [hdecode]; exact hs) (by omega)
      (by rw [Batch.after_change]; exact hchange)
  have hgoes : s.station.blocks.finishBatchStrip s.station.geometry s.station.scene q i false decoded
      = w.withDecode (fun d => { d with suspended := some (q.after i decoded) }) := by
    rw [Blocks.finishBatchStrip_suspends hne (by rw [hwritten]; exact hsus), hwritten]
  obtain ⟨t, ht, -, hend⟩ := State.blocksEvent_worked hruns
    (fun st => Blocks.batchComplete st.geometry st.scene decoded) ((Blocks.batchComplete_of_running hr _).trans hgoes)
  have hone := Blocks.chooseOne_page (sc := s.station.scene)
    (b := w.withDecode (fun d => { d with suspended := some (q.after i decoded) })) (j := j) (rest := rest)
    (by rw [show (w.withDecode _).decode.running = w.decode.running from rfl, hdecode])
    (by rw [show (w.withDecode _).decode.pageJobs = w.decode.pageJobs from rfl, hdecode]; exact hj)
  have hne' : q.strip i ≠ j.id := fun h => hown h.symm
  have hstart := Blocks.startPage_free (j := j)
    (b := { w with decode := { w.decode with suspended := some (q.after i decoded), pageJobs := rest } })
    (by rw [hstore, hends.isHeld hne']; exact hheld) (by rw [hstore, hends.opened _ hne']; exact hopen)
    (by rw [hstore, hends.openUnitsOf]; exact hroom.trans hends.free)
  obtain ⟨hstill, hkeeps⟩ := Blocks.settle_started (g := s.station.geometry) (scBefore := s.station.scene)
    (before := s.station.blocks) (by rw [← hwritten]; exact Blocks.stripWritten_rests hw _ _ _)
    (hone.trans (congrArg some hstart)) rfl
    (show w.decode.deferred = false by rw [hdecode]; exact hd)
  rw [← hend] at hstill hkeeps
  exact ⟨t, ht, hkeeps.2.2, hkeeps.1, hstill.jobs⟩

end Goes

end Sys2Proof.Machine

/-! Batch and Check strips: O53. -/

namespace Sys2Proof.Machine

/-! ### The new batch of a removed one (R130, R131, R133) -/

section NewBatch

variable {s : State} {q w : Batch} {i : Nat} {rows : Rows} (hruns : s.station.Runs)
  (hr : s.station.blocks.decode.running = some (.batch q i true)) (hj : s.station.blocks.decode.pageJobs = [])
  (hs : s.station.blocks.decode.suspended = none) (hd : s.station.blocks.decode.deferred = false)
  (hw : s.station.blocks.store.roomWait = []) (hb : s.station.blocks.decode.batch = some w) (hnew : w.begun = false)
  (ht : s.station.blocks.bc.transition = none)
  (hswitch : ∀ x, s.station.blocks.bc.slideSwitch = some x → x.content = w.content)
include hruns hr hj hs hd hw hb hnew ht hswitch

omit hd hnew in
/-- The event's end after the choice of the new batch, where that comes to rest. -/
theorem newBatch_end {c : Blocks}
    (helig : w.strips.isSome = true ∧ (w.pendingStrips = []
      ∨ ∃ k ∈ w.pendingStrips, s.station.blocks.store.isHeld k = true ∨ s.station.blocks.store.isBroken k = true))
    (htake : Blocks.takeBatch s.station.scene w { s.station.blocks with
      decode := { s.station.blocks.decode with running := none, batch := none } } = c)
    (hrest : ∀ n, c.chooseJobs s.station.scene n = c) (hdc : c.decode.deferred = false)
    (hpre : c.prefetch s.station.geometry s.station.scene = c) :
    ∃ t, exec (.batchStripComplete (some rows)) s = .next t ∧ c.Aside t.station.blocks := by
  obtain ⟨t, hstep, -, hend⟩ := State.blocksEvent_worked hruns
    (fun st => Blocks.batchComplete st.geometry st.scene (some rows))
    ((Blocks.batchComplete_of_running hr _).trans (Blocks.finishBatchStrip_stopping _ _ q i (some rows) _))
  have hone : s.station.blocks.idled.chooseOne s.station.scene = some c := by
    rw [Blocks.chooseOne_batch (b := s.station.blocks.idled) rfl hj hs hb
      ((Blocks.eligible_iff _ w).mpr ⟨helig.1, ht, hswitch, helig.2⟩)]
    exact congrArg some htake
  have hsettle := Blocks.settle_at (g := s.station.geometry) (scBefore := s.station.scene) (before := s.station.blocks)
    (b := s.station.blocks.idled) (Blocks.retryRoom_empty hw) (Blocks.chooseJobs_next (n := 39) hone (hrest 39)) (hrest _)
    hdc hpre
  refine ⟨t, hstep, ?_⟩
  rw [hend]
  exact hsettle ▸ c.aside_ended

/-- It starts with its lowest pending strip that is Held, the back surface cleared and named. -/
theorem newBatch_starts {n : Nat} {pre post : List (Nat × BatchStrip)}
    (hstrips : w.strips = some (pre ++ (n, .pending) :: post))
    (hheld : s.station.blocks.store.isHeld { asset := w.content.asset, index := n } = true)
    (hpre : ∀ e ∈ pre, e.2 = .pending → s.station.blocks.store.isHeld { asset := w.content.asset, index := e.1 } = false
      ∧ s.station.blocks.store.isBroken { asset := w.content.asset, index := e.1 } = false) :
    ∃ t, exec (.batchStripComplete (some rows)) s = .next t
      ∧ t.station.blocks.decode.running = some (.batch { w with begun := true } n false)
      ∧ t.station.blocks.decode.batch = none
      ∧ t.station.blocks.bc.back = { content := some w.content, whole := false, firstFailing := none, strips := [] } := by
  have hmem : w.strip n ∈ w.pendingStrips :=
    Batch.mem_pendingStrips.mpr ⟨(n, .pending), by rw [hstrips]; simp, rfl, rfl⟩
  have hfind : w.pendingStrips.find? s.station.blocks.store.takable = some (w.strip n) :=
    Batch.find_pending hstrips ((Bool.or_eq_true _ _).mpr (.inl hheld))
      fun e he hp => Store.takable_eq_false (hpre e he hp)
  have htake := Blocks.takeBatch_takes (sc := s.station.scene) (q := w) (k := w.strip n)
    (b := { s.station.blocks with decode := { s.station.blocks.decode with running := none, batch := none } }) hfind hheld
  rw [Blocks.beginBatch_new hnew] at htake
  obtain ⟨t, hstep, haside⟩ := newBatch_end (rows := rows) hruns hr hj hs hw hb ht hswitch
    ⟨by rw [hstrips]; rfl, .inr ⟨_, hmem, .inl hheld⟩⟩ htake (fun n => Blocks.chooseJobs_busy rfl) hd
    (Blocks.prefetch_forbidden (.inr (.inl ((Bool.or_eq_true _ _).mpr (.inr rfl)))))
  exact ⟨t, hstep, by rw [haside.decode]; rfl, by rw [haside.decode], by rw [haside.bc]⟩

/-- One without strips completes at once. -/
theorem newBatch_empty (hstrips : w.strips = some []) (hi : s.station.scene.pendingIndex.isSome = true)
    (hc : s.station.blocks.decode.check = none) :
    ∃ t, exec (.batchStripComplete (some rows)) s = .next t ∧ t.station.blocks.decode.running = none
      ∧ t.station.blocks.decode.batch = none
      ∧ t.station.blocks.bc.back = { content := some w.content, whole := true, firstFailing := w.firstFailing, strips := [] }
      ∧ (∀ c, w.change = some c → t.station.blocks.decode.reported = some c) := by
  have hnil : w.pendingStrips = [] := Batch.pendingStrips_eq_nil.mpr fun e he => by
    rw [hstrips] at he
    exact absurd he (by simp)
  have htake := Blocks.takeBatch_completes (sc := s.station.scene) (q := w)
    (b := { s.station.blocks with decode := { s.station.blocks.decode with running := none, batch := none } }) hnil
  rw [Blocks.beginBatch_new hnew] at htake
  unfold Blocks.completeBatch at htake
  have helig : w.strips.isSome = true ∧ (w.pendingStrips = []
      ∨ ∃ k ∈ w.pendingStrips, s.station.blocks.store.isHeld k = true ∨ s.station.blocks.store.isBroken k = true) :=
    ⟨by rw [hstrips]; rfl, .inl hnil⟩
  have hnone : ∀ c : Blocks, c.prefetch s.station.geometry s.station.scene = c := fun c => Blocks.prefetch_none (.inr hi)
  cases hchange : w.change with
  | none =>
    rw [hchange] at htake
    obtain ⟨t, hstep, haside⟩ := newBatch_end (rows := rows) hruns hr hj hs hw hb ht hswitch helig htake
      (fun n => Blocks.chooseJobs_empty hj hs rfl hc) hd (hnone _)
    exact ⟨t, hstep, by rw [haside.decode]; rfl, by rw [haside.decode]; rfl, by rw [haside.bc]; rfl, nofun⟩
  | some change =>
    rw [hchange] at htake
    obtain ⟨t, hstep, haside⟩ := newBatch_end (rows := rows) hruns hr hj hs hw hb ht hswitch helig htake
      (fun n => Blocks.chooseJobs_empty hj hs rfl hc) hd (hnone _)
    exact ⟨t, hstep, by rw [haside.decode]; rfl, by rw [haside.decode]; rfl, by rw [haside.bc]; rfl,
      fun c hc => by rw [haside.decode]; exact hc⟩

end NewBatch

/-! ### A Check after one of its strips (R137) -/

section Resume

variable {n : CheckJob} {b : Blocks}

theorem Blocks.resumeCheck_done (h : b.store.unchecked n = []) :
    b.resumeCheck n = b.enqueue (.checkDone (n.report 0)) := by
  unfold Blocks.resumeCheck
  rw [if_pos (by rw [h]; rfl)]
  exact Blocks.takeCheck_none h

theorem Blocks.resumeCheck_next {e : Packed} {rest : List Packed} (h : b.store.unchecked n = e :: rest)
    (hj : b.decode.pageJobs = []) (hb : b.decode.batch = none) (hs : b.decode.suspended = none) :
    b.resumeCheck n = { b with decode := { b.decode with running := some (.check n e.id) } } := by
  have hready : b.batchReady = false := by
    unfold Blocks.batchReady
    rw [hb]
  unfold Blocks.resumeCheck
  rw [if_neg (by simp [h]), if_neg (by simp [hj, hs, hready])]
  exact Blocks.takeCheck_some h

theorem Blocks.resumeCheck_waits (h : b.store.unchecked n ≠ []) (hj : b.decode.pageJobs ≠ []) :
    b.resumeCheck n = { b with decode := { b.decode with check := some n } } := by
  unfold Blocks.resumeCheck
  rw [if_neg (by simpa using h), if_pos (by simp [hj])]
  rfl

end Resume

theorem CheckJob.tested_failing (k : Strip) (c : CheckJob) : c.tested k false = { c with
    position := some k, checked := c.checked + 1, bad := c.bad + 1, firstBad := some (c.firstBad.getD k) } := by
  unfold CheckJob.tested
  cases c.firstBad <;> rfl

/-- A strip that fails its Check is not one that the Check has yet to take. -/
theorem Blocks.failStored_unchecked {g : Geometry} {k : Strip} {n : CheckJob} {b : Blocks} (h : b.store.unchecked n = []) :
    (b.failStored g k).store.unchecked n = [] := by
  obtain ⟨link, wants, hshape⟩ := b.failStored_shape g k
  have hpacked : (b.failStored g k).store.packed = (b.store.setBad k).packed := by
    rw [hshape]
    exact Store.dropDecoding_packed k _
  rw [List.eq_nil_iff_forall_not_mem] at h ⊢
  intro e he
  obtain ⟨hmem, hahead⟩ := List.mem_filter.mp he
  rw [hpacked] at hmem
  rcases Table.mem_put hmem with rfl | hold
  · exact absurd hahead (by simp)
  · exact h e (List.mem_filter.mpr ⟨hold, hahead⟩)

section Check

variable {s : State} {c n : CheckJob} {k : Strip} (hruns : s.station.Runs)
  (hr : s.station.blocks.decode.running = some (.check c k))
include hruns hr

theorem exec_checkStripComplete_ends {intact : Bool} {b : Blocks}
    (hb : (if intact then s.station.blocks.idled else s.station.blocks.idled.failStored s.station.geometry k).resumeCheck
      (c.tested k intact) = b) :
    ∃ t, exec (.checkStripComplete intact) s = .next t ∧ s.Becomes s.station.scene s.station.timers b t
      ∧ t.station.blocks = Blocks.settle s.station.geometry s.station.scene s.station.scene s.station.blocks b :=
  State.blocksEvent_worked hruns (fun st => Blocks.checkComplete st.geometry intact)
    ((Blocks.checkComplete_of_running hr intact).trans ((Blocks.finishCheckStrip_eq _ c k intact _).trans hb))

/-- After the last strip Check Done goes out. -/
theorem checkStrip_last (hn : n = { c with position := some k, checked := c.checked + 1 })
    (hu : s.station.blocks.store.unchecked n = []) :
    ∃ t, exec (.checkStripComplete true) s = .next t
      ∧ s.Becomes s.station.scene s.station.timers
          ({ s.station.blocks with decode := { s.station.blocks.decode with running := none } }.enqueue
            (.checkDone { checked := c.checked + 1, bad := c.bad
                          firstBad := c.firstBad.map (fun (k : Strip) => (k.asset, k.index)), remaining := 0 })) t
      ∧ (s.station.blocks.decode.check = none → t.station.blocks.decode.check = none
        ∧ ∀ d x, t.station.blocks.decode.running ≠ some (.check d x)) := by
  subst hn
  obtain ⟨t, ht, hbecomes, hend⟩ := exec_checkStripComplete_ends hruns hr (intact := true)
    (Blocks.resumeCheck_done (b := s.station.blocks.idled) (n := c.tested k true) hu)
  refine ⟨t, ht, hbecomes, fun hc => ?_⟩
  rw [hend]
  exact Blocks.settle_noCheck ⟨hc, nofun⟩

/-- The Check goes on to its next strip. -/
theorem checkStrip_next {e : Packed} {rest : List Packed}
    (hn : n = { c with position := some k, checked := c.checked + 1 })
    (hu : s.station.blocks.store.unchecked n = e :: rest) (hj : s.station.blocks.decode.pageJobs = [])
    (hb : s.station.blocks.decode.batch = none) (hs : s.station.blocks.decode.suspended = none) :
    ∃ t, exec (.checkStripComplete true) s = .next t
      ∧ s.Becomes s.station.scene s.station.timers
          { s.station.blocks with decode := { s.station.blocks.decode with running := some (.check n e.id) } } t
      ∧ t.station.blocks.decode.running = some (.check n e.id) := by
  subst hn
  obtain ⟨t, ht, hbecomes, hend⟩ := exec_checkStripComplete_ends hruns hr (intact := true)
    (Blocks.resumeCheck_next (b := s.station.blocks.idled) (n := c.tested k true) hu hj hb hs)
  refine ⟨t, ht, hbecomes, ?_⟩
  rw [hend]
  exact (Blocks.settle_keepsWork rfl).1

/-- The last strip fails: it is Bad, and counted in Check Done. -/
theorem checkStrip_lastFails {p : Packed} (hp : s.station.blocks.store.findPacked k = some p)
    (hu : s.station.blocks.store.unchecked n = [])
    (hn : n = { c with
      position := some k, checked := c.checked + 1, bad := c.bad + 1, firstBad := some (c.firstBad.getD k) }) :
    ∃ t b, exec (.checkStripComplete false) s = .next t ∧ s.Becomes s.station.scene s.station.timers b t
      ∧ b.store.findPacked k = some { p with
          state := .bad, units := 0, failures := p.failures + 1, data := [], checkWord := 0
          pins := s.station.blocks.store.roles.pins k }
      ∧ (s.station.blocks.store.unitsWf = true →
        t.station.blocks.store.findPacked k = b.store.findPacked k)
      ∧ (s.station.blocks.decode.check = none → t.station.blocks.decode.check = none
        ∧ ∀ d x, t.station.blocks.decode.running ≠ some (.check d x))
      ∧ b.link = (if p.failures = 0 then s.station.blocks.link
          else s.station.blocks.link.enqueue (.fault (brokenFault k))).enqueue (.checkDone {
            checked := c.checked + 1, bad := c.bad + 1
            firstBad := some ((c.firstBad.getD k).asset, (c.firstBad.getD k).index), remaining := 0 }) := by
  obtain rfl : n = c.tested k false := hn.trans (c.tested_failing k).symm
  have hp' : s.station.blocks.idled.store.findPacked k = some p := hp
  obtain ⟨t, ht, hbecomes, hend⟩ := exec_checkStripComplete_ends hruns hr (intact := false)
    (Blocks.resumeCheck_done (b := s.station.blocks.idled.failStored s.station.geometry k)
      (Blocks.failStored_unchecked (b := s.station.blocks.idled) hu))
  have hbad := Blocks.failStored_findPacked (g := s.station.geometry) hp'
  refine ⟨t, _, ht, hbecomes, hbad, fun hwf => ?_, fun hc => ?_, ?_⟩
  · have hsorted := Blocks.failStored_sorted (g := s.station.geometry) hp' (Store.sorted_of_unitsWf hwf)
    rw [hend]
    exact ((Blocks.settle_ends _ _ _ _).findPacked_unheld
      (b := (s.station.blocks.idled.failStored s.station.geometry k).enqueue _) hsorted hbad
      (Packed.failed_unheld _ p)).trans hbad.symm
  · rw [hend]
    refine Blocks.settle_noCheck ?_
    rw [Blocks.failStored_frame hp']
    exact ⟨hc, nofun⟩
  · show (s.station.blocks.idled.failStored s.station.geometry k).link.enqueue _ = _
    rw [Blocks.failStored_link hp', CheckJob.tested_failing]
    rfl

/-- The Check gives way to a Page Prepare job, which starts. -/
theorem checkStrip_givesWay {j : PageJob} {rest : List PageJob}
    (hn : n = { c with position := some k, checked := c.checked + 1 })
    (hu : s.station.blocks.store.unchecked n ≠ []) (hj : s.station.blocks.decode.pageJobs = j :: rest)
    (hd : s.station.blocks.decode.deferred = false) (hw : s.station.blocks.store.roomWait = [])
    (hheld : s.station.blocks.store.isHeld j.id = true) (hopen : s.station.blocks.store.findOpened j.id = none)
    (hroom : s.station.blocks.store.openUnitsOf j.id ≤ s.station.blocks.store.freeUnits) :
    ∃ t, exec (.checkStripComplete true) s = .next t ∧ t.station.blocks.decode.check = some n
      ∧ t.station.blocks.decode.running = some (.page j) ∧ t.station.blocks.decode.pageJobs = rest := by
  subst hn
  have hjobs : s.station.blocks.idled.decode.pageJobs = j :: rest := hj
  obtain ⟨t, ht, -, hend⟩ := exec_checkStripComplete_ends hruns hr (intact := true)
    (Blocks.resumeCheck_waits (b := s.station.blocks.idled) (n := c.tested k true) hu (by rw [hjobs]; simp))
  have hone := (Blocks.chooseOne_page (sc := s.station.scene) (j := j) (rest := rest)
    (b := { s.station.blocks.idled with
      decode := { s.station.blocks.idled.decode with check := some (c.tested k true) } }) rfl hj).trans
    (congrArg some (Blocks.startPage_free hheld hopen hroom))
  obtain ⟨hstill, hkeeps⟩ := Blocks.settle_started (g := s.station.geometry) (scBefore := s.station.scene)
    (before := s.station.blocks) (b := { s.station.blocks.idled with
      decode := { s.station.blocks.idled.decode with check := some (c.tested k true) } })
    (Blocks.retryRoom_empty hw) hone rfl hd
  rw [← hend] at hstill hkeeps
  exact ⟨t, ht, hkeeps.2.1, hkeeps.1, hstill.jobs⟩

end Check

/-- The batch after a strip, as O53 writes it. -/
theorem Batch.eq_after {q r : Batch} {i : Nat} {l : List (Nat × BatchStrip)} {decoded : Option Rows} (hl : q.strips = some l)
    (hr : r = { q with
      strips := some (l.map (fun e => if e.1 = i then (i, if decoded.isSome then .done else .filled) else e))
      progress := min 4 (q.progress + 1)
      firstFailing := if decoded.isSome then q.firstFailing else some (q.firstFailing.getD i) }) :
    r = q.after i decoded ∧ (q.after i decoded).progress = min 4 (q.progress + 1) := by
  have hafter := Batch.after_eq (i := i) decoded hl
  exact ⟨hr.trans hafter.symm, by rw [hafter]⟩

/-- Settles O53: a strip of a removed batch, the last strip, the strips before it, the batch that follows a removed one, and the
strips of a Check, each by its lemma. -/
theorem batchAndCheckStripsEnd : Obligations.BatchAndCheckStripsEnd := by
  unfold Obligations.BatchAndCheckStripsEnd
  refine ⟨fun s q i rows hruns => ⟨fun hr => ⟨removedStrip_decoded hruns hr rows,
      fun p own hown hp hwf => removedStrip_failed hruns hr hown hp hwf⟩,
      fun a change back hr hbegun hchange hlast => lastStrip_completes hruns hr hbegun hchange hlast⟩,
    fun s c n k hruns hr hn => ⟨checkStrip_last hruns hr hn, fun e rest => checkStrip_next hruns hr hn⟩,
    fun s q i p rows change hruns hr hbegun hchange hlast hj hs hb hc hw hd hpage hi hslide hsent =>
      lastStrip_ready hruns hr hbegun hchange hlast hj hs hb hc hw hd hpage hi hslide hsent,
    fun s q r i l decoded own hruns hr hbegun hl hd hw hown hr' => ?_,
    fun s q w i rows hruns hr hj hs hd hw hb hnew ht hswitch =>
      ⟨fun n pre post => newBatch_starts hruns hr hj hs hd hw hb hnew ht hswitch,
        newBatch_empty hruns hr hj hs hd hw hb hnew ht hswitch⟩,
    fun s c n k hruns hr => ⟨fun p => checkStrip_lastFails hruns hr, fun j rest => checkStrip_givesWay hruns hr⟩⟩
  obtain ⟨rfl, hprogress⟩ := Batch.eq_after hl hr'
  have hpending : (∃ e ∈ (q.after i decoded).strips.getD [], e.2 = .pending) → (q.after i decoded).pendingStrips ≠ [] :=
    fun ⟨e, he, hp⟩ hnil => Batch.pendingStrips_eq_nil.mp hnil e he hp
  refine ⟨fun n pre post a hstay hstrips hheld hpre ha => ?_, fun hne hnone hj hs hc =>
    batchStrip_waits hruns hr hd hw (hpending hne) hnone hj hs hc, fun j rest hne hj hs hfour hchange hid =>
    batchStrip_suspended hruns hr hd hw (hpending hne) hprogress hj hs hfour hchange (hown ▸ hid)⟩
  obtain ⟨t, ht, hrun, hback, hfailed⟩ := batchStrip_next hruns hr hd hw hbegun hown hstay hprogress hstrips hheld hpre ha
  exact ⟨t, ht, hrun, hback.trans (by cases decoded <;> rfl), hfailed⟩

end Sys2Proof.Machine
